-- ==== Sys2Proof/Word.lean ====
section
/-! DEFINITION. The word types, the names (enumerations) and the operand records that commands and state share.
Sources: spec 00_scope.md (R3, R12, R19, R20) and the tables each docstring names. -/

namespace Sys2Proof

/-- A byte, the unit of every address space (R13). -/
abbrev Byte := BitVec 8
/-- A 16-bit register. -/
abbrev Half := BitVec 16
/-- A 32-bit register, and the data width of Paltein (R85). -/
abbrev Word := BitVec 32
/-- A 64-bit register (fabric time, R254). -/
abbrev DWord := BitVec 64
/-- A code word address: imm18 of CALL (R93, R104). -/
abbrev CodeAddr := BitVec 18
/-- Ports A to H, index 0 to 7 (R19). -/
abbrev PortId := Fin 8
/-- Cores: 0 to 7 file cores A to H, 8 the arbiter (R288, R322). -/
abbrev CoreId := Fin 9
/-- Sparse memory: see `Sys2Proof.Machine.Mem` for its canonical form. -/
abbrev Cells := List (Nat × BitVec 8)

/-- The arbiter's core number. -/
def arbiterId : CoreId := 8

/-- The file core of a port (R19). -/
def fileCore (p : PortId) : CoreId := p.castSucc

/-- Instruction form A (R93): d, a, b, sub. -/
structure FormA where
  d   : BitVec 4
  a   : BitVec 4
  b   : BitVec 4
  sub : BitVec 14
  deriving DecidableEq, Repr

/-- Instruction form I (R93): d, a, imm18. -/
structure FormI where
  d   : BitVec 4
  a   : BitVec 4
  imm : BitVec 18
  deriving DecidableEq, Repr

/-- Instruction form B (R93): cond, a, b, forward offset. -/
structure FormB where
  cond : BitVec 4
  a    : BitVec 4
  b    : BitVec 4
  off  : BitVec 14
  deriving DecidableEq, Repr

/-- Instruction form L (R93): counter register, maximum count, body length. -/
structure FormL where
  ctr : BitVec 4
  max : BitVec 10
  len : BitVec 12
  deriving DecidableEq, Repr

/-- Instruction form Q (R93): d, a, n, sub. -/
structure FormQ where
  d   : BitVec 4
  a   : BitVec 4
  n   : BitVec 6
  sub : BitVec 12
  deriving DecidableEq, Repr

/-- Who makes a register access (16_host_bus_and_register_map.md: the paths to the register space). -/
inductive Who where
  /-- the host, on the I2C bus -/
  | host
  /-- the arbiter, through its device-register window (R91) -/
  | arbiter
  /-- the file core of a port, through its device-register window (R91) -/
  | file (p : PortId)
  /-- the root's host, through the fabric tunnel (R263) -/
  | tunnel
  deriving DecidableEq, Repr

/-- SOP* type of a frame (R60, R80). -/
inductive Sop where
  | sop | sopP | sopPP
  deriving DecidableEq, Repr

/-- Number of a SOP* type, as FLG.SOPT codes it (R80). -/
def Sop.idx : Sop → Fin 3
  | .sop => 0
  | .sopP => 1
  | .sopPP => 2

/-- A partner's termination as a CC pin is classified (R36, Pn_TC_STATUS.CCxTERM). -/
inductive Term where
  | openT | ra | rd | rpDef | rp15 | rp30 | overV
  deriving DecidableEq, Repr

/-- The code of a termination in CCxTERM. -/
def Term.code : Term → Nat
  | .openT => 0
  | .ra => 1
  | .rd => 2
  | .rpDef => 3
  | .rp15 => 4
  | .rp30 => 5
  | .overV => 6

/-- Is the termination an Rp of any level (R36)? -/
def Term.isRp : Term → Bool
  | .rpDef | .rp15 | .rp30 => true
  | .openT | .ra | .rd | .overV => false

/-- The two CC pins of a port. -/
inductive CcPin where
  | cc1 | cc2
  deriving DecidableEq, Repr

/-- A frame as it stands when its reception ends (R60, R72): SOP* type, header, extended header, data bytes,
whether its CRC was good, and the partner's measured rate in kbit/s (R59). -/
structure Frame where
  sop     : Sop
  hdr     : Half
  ext     : Half
  data    : List Byte
  crcGood : Bool
  rate    : Nat
  deriving DecidableEq, Repr

/-- What the pins showed in one wet check (R54, R55), for CC1, CC2, SBU1, SBU2: the impedance in ohms under the steady trial
current of step 2, |Z1| and |Z16|; the pins that passed 0.3 V in step 3, in the order in which they did; and whether the
partner's termination left or changed during the check. -/
structure WetReading where
  trial  : List Nat
  z1     : List Nat
  z16    : List Nat
  passes : List (Fin 4)
  left   : Bool
  deriving DecidableEq, Repr

/-- A port's samples of one ADC frame, scaled with the trim and the references (R224, R225; log 15): VB and V_ISN in mV,
V_ISP - V_ISN in uV, the gate-driver converters' VGS_A, VGS_B, |VDS_A|, |VDS_B| in mV. -/
structure PortSample where
  vb   : Nat
  sense : Int
  visn : Nat
  vgsa : Nat
  vgsb : Nat
  vdsa : Nat
  vdsb : Nat
  deriving DecidableEq, Repr

/-- What the limit loop of a port senses (R192, R194): the magnitude of the current in mA and VDS of FET A in mV. -/
structure LoopSample where
  port : PortId
  ma   : Nat
  vds  : Nat
  deriving DecidableEq, Repr

/-- The supplies of a parked device over 10 ms of the slow timebase (R282): the least VHV and the least V5 in mV. -/
structure WakeSample where
  vhv : Nat
  v5  : Nat
  deriving DecidableEq, Repr

/-- A feed's samples of one ADC frame (R224, R269, R271): FIN and FOUT in mV, V_FISP - V_FISN in uV. -/
structure FeedSample where
  fin  : Nat
  fout : Nat
  sense : Int
  deriving DecidableEq, Repr

/-- The rotating channels of an ADC frame (R224), in mV, and the die temperature in degrees C. -/
structure RailSample where
  v5     : Nat
  vcore  : Nat
  vio    : Nat
  vhv    : Nat
  vhold  : Nat
  vconn1 : Nat
  vconn2 : Nat
  dieT   : Int
  deriving DecidableEq, Repr

/-- What a comparator tick of a port saw (R230): VB and SN in mV, the current in mA, positive out of the port. -/
structure MonSample where
  vb : Nat
  sn : Nat
  i  : Int
  deriving DecidableEq, Repr

/-- The three fabric links (R248). -/
inductive FLink where
  | u | d0 | d1
  deriving DecidableEq, Repr

/-- Number of a link, as FSEND and the FABRX argument code it (R116, R125). -/
def FLink.idx : FLink → Fin 3
  | .u => 0
  | .d0 => 1
  | .d1 => 2

/-- The two feeds (R269). -/
inductive Feed where
  | f1 | f2
  deriving DecidableEq, Repr

/-- A feed that has stood above its threshold (R272): the least FIN of the 10 ms in mV. -/
structure FeedStand where
  feed : Feed
  fin  : Nat
  deriving DecidableEq, Repr

/-- A feed that sags (R273): FIN as it has been for 1 us, and 16 us before, in mV. -/
structure FeedSag where
  feed   : Feed
  fin    : Nat
  before : Nat
  deriving DecidableEq, Repr

/-- A feed over EWHOLD (R273): its least FIN in mV, and the most that FIN fell within 16 us of it. -/
structure FeedCalm where
  feed : Feed
  fin  : Nat
  fell : Nat
  deriving DecidableEq, Repr

/-- A fabric frame without its CRC (R251): TYPE, TAG, DST, SRC and the 22 payload bytes. -/
structure FFrame where
  typ     : Byte
  tag     : Byte
  dst     : Half
  src     : Half
  payload : List Byte
  deriving DecidableEq, Repr

/-- The blocks that have a BLOCK_COMMIT register (R375). -/
inductive Block where
  | tc (p : PortId)
  | pd (p : PortId)
  | pw (p : PortId)
  | sp (p : PortId)
  | mn (p : PortId)
  | fed | ldg | fab | hbs
  deriving DecidableEq, Repr

/-- How a host transaction ended (R364, R366, R368): STOP, repeated START, a START in the acknowledge slot of the
last byte, a STOP or START in the middle of a byte, or without either. -/
inductive BusEnd where
  | stop | repeatedStart | startInAck | midByte | none
  deriving DecidableEq, Repr

/-- Why the larder save starts (R278, R283 CAUSE). -/
inductive SaveCause where
  | vhv | v5 | command
  deriving DecidableEq, Repr

/-- CAUSE byte of a larder record (R283). -/
def SaveCause.code : SaveCause → Nat
  | .vhv => 1
  | .v5 => 2
  | .command => 3

/-- Where start mode draws from (R393, TMB_STATUS.SMSRC). -/
inductive StartSource where
  | vhv
  | vb (p : PortId)
  deriving DecidableEq, Repr

/-- One slot of a handler table (R128). -/
structure HEntry where
  entry    : CodeAddr
  cls      : Byte
  flags    : Byte
  msop     : Byte
  mtype    : Byte
  mindo    : Byte
  tmin     : Half
  deadline : Word
  /-- the bound the image declares for the slot (R135) -/
  declared : Nat
  /-- a reserved or zero-only field of the entry's 16 bytes is not 0 (R128) -/
  reserved : Bool
  deriving DecidableEq, Repr

/-- FLAGS of a slot (R128): VALID, CRIT, CONT, DEFAULT. -/
def HEntry.valid (e : HEntry) : Bool := e.flags.getLsbD 0
def HEntry.crit (e : HEntry) : Bool := e.flags.getLsbD 1
def HEntry.cont (e : HEntry) : Bool := e.flags.getLsbD 2
def HEntry.dflt (e : HEntry) : Bool := e.flags.getLsbD 3

/-- One function of a Paltein image (04, R103): its first word, its length in words, and whether it is a handler
entry or a callee. -/
structure Func where
  entry   : Nat
  len     : Nat
  handler : Bool
  deriving DecidableEq, Repr

/-- The sections of a Paltein image as the loader finds them (R85-R139): the code words, the function table, the
handler table and the declared NCMAX. How they lie in an image body is not in the spec (log 13). -/
structure PImage where
  code   : List Word
  funcs  : List Func
  slots  : List HEntry
  ncmax  : Nat
  /-- the sections are present and of the right size (R139 FORMAT) -/
  format : Bool
  deriving DecidableEq, Repr

/-- No Paltein image: the loader finds no section. -/
def PImage.absent : PImage := { code := [], funcs := [], slots := [], ncmax := 0, format := false }

/-- What the JESD216 SFDP tables of a flash device report of the points of R340: density in Mbit, 4 KB sector erase, 4-byte
addressing, and 1-1-4 or 1-4-4 fast read. -/
structure Sfdp where
  mbit     : Nat
  erase4k  : Bool
  addr4    : Bool
  fastRead : Bool
  deriving DecidableEq, Repr

/-- A flash device is used only if its tables report all of R340's points; no device, no tables. -/
def sfdpUsable : Option Sfdp → Bool
  | some x => decide (512 ≤ x.mbit) && x.erase4k && x.addr4 && x.fastRead
  | none => false

/-- What a board shows at the release of a power-on reset: the ADR balls (R362), and the SFDP tables of the devices on QCS0
and QCS1 (R340). -/
structure Board where
  adr    : BitVec 3
  flash0 : Option Sfdp
  flash1 : Option Sfdp
  deriving DecidableEq, Repr

/-- A 4 KB logical sector of the managed flash as the sector CRC table knows it (R341, R342): a state-record copy, the
reset-cause record, or a sector of the slots by its number. -/
inductive FlashSec where
  | record (j : Fin 2)
  | cause
  | sector (n : Nat)
  deriving DecidableEq, Repr

/-- What a read of the flash finds: the sectors that fail their CRC on the device of QCS0 and on that of QCS1 (R342). -/
structure FlashRead where
  bad0 : List FlashSec
  bad1 : List FlashSec
  deriving DecidableEq, Repr

/-- How END's copy ends: every sector verifies on a usable device (R345, R346), and which Paltein image the body of an
arbiter or file image is (log 13). -/
structure InstallEnd where
  ok  : Bool
  pal : Option PImage
  deriving DecidableEq, Repr

/-- Image kinds (R343 KIND). -/
inductive Kind where
  | arb | file | set
  deriving DecidableEq, Repr

/-- KIND byte of an image header (R343). -/
def Kind.code : Kind → Nat
  | .arb => 1
  | .file => 2
  | .set => 3

/-- A service-port packet as received (R348): SEQ and payload; the row of the command is its TYPE. -/
structure SvcPacket where
  seq     : Byte
  payload : List Byte
  deriving DecidableEq, Repr

end Sys2Proof
end

