-- ==== Sys2Proof/Config.lean ====
section
/-! DEFINITION. What an implementation or a standard outside the spec fixes, and the values the spec leaves open.
Every constant here has no body: no proof can use a value of it (logs 1, 12, 14). -/

namespace Sys2Proof.Config

/-- The source of free values: what the spec calls undefined, applied to the counter of State (log 1). -/
opaque freeByte : Nat → Byte
/-- A free choice between two outcomes the spec both permits (R418; log 1). -/
opaque freeBool : Nat → Bool
/-- SHA-256 of FIPS 180, named but not defined by the spec (R10, R343; log 12). -/
opaque sha256 : List Byte → BitVec 256
/-- ECDSA P-256 verification (public key, digest, signature), named but not defined by the spec (R10, R343; log 12). -/
opaque ecdsaP256 : BitVec 512 → BitVec 256 → BitVec 512 → Bool
/-- Whether a temperature between two steps of 0.125 degrees C is rounded up, by the reading, its reference, R25 and B: R228
does not fix the rounding (log 12). -/
opaque ntcUp : Nat → Nat → Nat → Nat → Bool
/-- The fixed allowance for a link that R254 adds to FTIME, and the correction made from a measured error: the spec
gives bounds and no law (log 14). Argument: the error in us; result: the slew in us applied now. -/
opaque timeSlew : Int → Int
/-- The fixed allowance of a link in us (R254; log 14). -/
opaque linkAllowance : Nat
/-- The trim fields' nominal code is a matter of the factory (R328 region 0); no claim depends on it. -/
opaque trimNominal : Nat → Byte

end Sys2Proof.Config
end

