-- ==== Sys2Proof/Syntax.lean ====
section
/-! DEFINITION. The commands of the block: one constructor per row of spec/opcode_table.json, in the table's order.
Operands: `c` a core, `p` a port, `k` a queue of a port, `l` a fabric link; `f` the fields of a Paltein word (R93) or a
frame as received; `vb` the level of VB in mV that an event is about. An event command states what happened outside
(a level crossed, a time elapsed, a frame ended); whether the block acts on it is decided by State (log 11). -/

namespace Sys2Proof

/-- A command. The name in a docstring is the row's mnemonic; the rule is the row's governing rule. -/
inductive Instr where
  /-- ADD (R97): Paltein instruction: d = a + b, wrapping. -/
  | add (c : CoreId) (f : FormA)
  /-- SUB (R97): Paltein instruction: d = a - b, wrapping. -/
  | sub (c : CoreId) (f : FormA)
  /-- AND (R97): Paltein instruction: bitwise AND of two registers. -/
  | and (c : CoreId) (f : FormA)
  /-- OR (R97): Paltein instruction: bitwise OR of two registers. -/
  | or (c : CoreId) (f : FormA)
  /-- XOR (R97): Paltein instruction: bitwise XOR of two registers. -/
  | xor (c : CoreId) (f : FormA)
  /-- SHL (R97): Paltein instruction: shift left by b mod 32. -/
  | shl (c : CoreId) (f : FormA)
  /-- SHR (R97): Paltein instruction: logical shift right by b mod 32. -/
  | shr (c : CoreId) (f : FormA)
  /-- SAR (R97): Paltein instruction: arithmetic shift right by b mod 32. -/
  | sar (c : CoreId) (f : FormA)
  /-- SLT (R97): Paltein instruction: set d to 1 if a < b signed. -/
  | slt (c : CoreId) (f : FormA)
  /-- SLTU (R97): Paltein instruction: set d to 1 if a < b unsigned. -/
  | sltu (c : CoreId) (f : FormA)
  /-- MIN (R97): Paltein instruction: signed minimum. -/
  | min (c : CoreId) (f : FormA)
  /-- MAX (R97): Paltein instruction: signed maximum. -/
  | max (c : CoreId) (f : FormA)
  /-- MINU (R97): Paltein instruction: unsigned minimum. -/
  | minu (c : CoreId) (f : FormA)
  /-- MAXU (R97): Paltein instruction: unsigned maximum. -/
  | maxu (c : CoreId) (f : FormA)
  /-- ADDSU (R97): Paltein instruction: unsigned add saturating at 0xFFFF_FFFF. -/
  | addsu (c : CoreId) (f : FormA)
  /-- SUBSU (R97): Paltein instruction: unsigned subtract saturating at 0. -/
  | subsu (c : CoreId) (f : FormA)
  /-- MUL (R98): Paltein instruction: low 32 bits of a product. -/
  | mul (c : CoreId) (f : FormA)
  /-- MULH (R97): Paltein instruction: high 32 bits of a signed product. -/
  | mulh (c : CoreId) (f : FormA)
  /-- MULHU (R97): Paltein instruction: high 32 bits of an unsigned product. -/
  | mulhu (c : CoreId) (f : FormA)
  /-- DIV (R98): Paltein instruction: signed division with defined results for zero and overflow. -/
  | div (c : CoreId) (f : FormA)
  /-- DIVU (R98): Paltein instruction: unsigned division, quotient 0 for a zero divisor. -/
  | divu (c : CoreId) (f : FormA)
  /-- REM (R98): Paltein instruction: signed remainder taking the dividend's sign. -/
  | rem (c : CoreId) (f : FormA)
  /-- REMU (R98): Paltein instruction: unsigned remainder. -/
  | remu (c : CoreId) (f : FormA)
  /-- ADDI (R95): Paltein instruction: add a sign-extended immediate. -/
  | addi (c : CoreId) (f : FormI)
  /-- ANDI (R95): Paltein instruction: AND with a zero-extended immediate. -/
  | andi (c : CoreId) (f : FormI)
  /-- ORI (R95): Paltein instruction: OR with a zero-extended immediate. -/
  | ori (c : CoreId) (f : FormI)
  /-- XORI (R95): Paltein instruction: XOR with a zero-extended immediate. -/
  | xori (c : CoreId) (f : FormI)
  /-- SHLI (R95): Paltein instruction: shift left by an immediate amount. -/
  | shli (c : CoreId) (f : FormI)
  /-- SHRI (R95): Paltein instruction: logical shift right by an immediate amount. -/
  | shri (c : CoreId) (f : FormI)
  /-- SARI (R95): Paltein instruction: arithmetic shift right by an immediate amount. -/
  | sari (c : CoreId) (f : FormI)
  /-- LUI (R97): Paltein instruction: load imm18 shifted left by 14. -/
  | lui (c : CoreId) (f : FormI)
  /-- SLTI (R95): Paltein instruction: set if less than a signed immediate. -/
  | slti (c : CoreId) (f : FormI)
  /-- SLTIU (R95): Paltein instruction: set if less than an unsigned immediate. -/
  | sltiu (c : CoreId) (f : FormI)
  /-- MULI (R95): Paltein instruction: multiply by a sign-extended immediate. -/
  | muli (c : CoreId) (f : FormI)
  /-- LDW (R99): Paltein instruction: load an aligned word, with register-window and premove rules. -/
  | ldw (c : CoreId) (f : FormI)
  /-- LDH (R99): Paltein instruction: load a halfword, zero-extended. -/
  | ldh (c : CoreId) (f : FormI)
  /-- LDHS (R99): Paltein instruction: load a halfword, sign-extended. -/
  | ldhs (c : CoreId) (f : FormI)
  /-- LDB (R99): Paltein instruction: load a byte, zero-extended. -/
  | ldb (c : CoreId) (f : FormI)
  /-- LDBS (R99): Paltein instruction: load a byte, sign-extended. -/
  | ldbs (c : CoreId) (f : FormI)
  /-- STW (R99): Paltein instruction: store a word, staged in a premove. -/
  | stw (c : CoreId) (f : FormI)
  /-- STH (R99): Paltein instruction: store a halfword. -/
  | sth (c : CoreId) (f : FormI)
  /-- STB (R99): Paltein instruction: store a byte. -/
  | stb (c : CoreId) (f : FormI)
  /-- EXT (R100): Paltein instruction: extract a bit field, zero-extended. -/
  | ext (c : CoreId) (f : FormA)
  /-- EXTS (R100): Paltein instruction: extract a bit field, sign-extended. -/
  | exts (c : CoreId) (f : FormA)
  /-- INS (R100): Paltein instruction: insert low bits into a field of d. -/
  | ins (c : CoreId) (f : FormA)
  /-- BR (R101): Paltein instruction: forward branch when the condition holds. -/
  | br (c : CoreId) (f : FormB)
  /-- LOOP (R102): Paltein instruction: bounded loop over the following body. -/
  | loop (c : CoreId) (f : FormL)
  /-- CALL (R104): Paltein instruction: push the return address and call a callee. -/
  | call (c : CoreId) (f : FormI)
  /-- RET (R104): Paltein instruction: return from a callee, closing open loops. -/
  | ret (c : CoreId) (f : FormA)
  /-- END (R105): Paltein instruction: end the handler, or await resolution in a premove. -/
  | endI (c : CoreId) (f : FormA)
  /-- AWAIT (R106): Paltein instruction: end the handler and bind a one-shot continuation slot. -/
  | await (c : CoreId) (f : FormQ)
  /-- TSET_RELATIVE (R107): Arm a core timer to expire g[a] us after the handler's event time. -/
  | tsetRelative (c : CoreId) (f : FormQ)
  /-- TSET_ABSOLUTE (R107): Arm a core timer to expire at an absolute main-timebase us. -/
  | tsetAbsolute (c : CoreId) (f : FormQ)
  /-- TCLR (R107): Disarm a core timer and withdraw its undispatched event. -/
  | tclr (c : CoreId) (f : FormQ)
  /-- TEVT (R107): Return the handler's event time. -/
  | tevt (c : CoreId) (f : FormA)
  /-- QPUSH (R109): Push a 40-byte entry into a queue, returning a status. -/
  | qpush (c : CoreId) (f : FormQ)
  /-- QPOP (R110): Pop the head entry of a queue into memory, stalling in a premove. -/
  | qpop (c : CoreId) (f : FormQ)
  /-- QPEEK_EVENT (R110): Copy the entry that raised the handler's event, waiting for NDO data objects. -/
  | qpeekEvent (c : CoreId) (f : FormQ)
  /-- QPEEK_SLOT (R110): Copy the entry at a slot after the head without removing it. -/
  | qpeekSlot (c : CoreId) (f : FormQ)
  /-- LRSV (R113): Add mW to a port's ledger reservation, tentatively in a premove. -/
  | lrsv (c : CoreId) (f : FormQ)
  /-- LCMT (R113): Move mW from a port's reservation to its grant. -/
  | lcmt (c : CoreId) (f : FormQ)
  /-- LREL_GRANT (R113): Lower a port's grant, with the Rp handling of R38. -/
  | lrelGrant (c : CoreId) (f : FormQ)
  /-- LREL_RESERVATION (R113): Lower a port's reservation. -/
  | lrelReservation (c : CoreId) (f : FormQ)
  /-- LRD_GRANT (R113): Read a port's committed grant. -/
  | lrdGrant (c : CoreId) (f : FormQ)
  /-- LRD_RESERVATION (R113): Read a port's reservation. -/
  | lrdReservation (c : CoreId) (f : FormQ)
  /-- LRD_CEILING (R113): Read a port's derated ceiling. -/
  | lrdCeiling (c : CoreId) (f : FormQ)
  /-- LRD_AVAILABLE (R243): Read the available power P_avail. -/
  | lrdAvailable (c : CoreId) (f : FormQ)
  /-- LRD_GRANT_SUM (R243): Read the sum of committed grants. -/
  | lrdGrantSum (c : CoreId) (f : FormQ)
  /-- LRD_HEADROOM (R157): Read the headroom, premove or non-speculative, saturating at 0. -/
  | lrdHeadroom (c : CoreId) (f : FormQ)
  /-- ACT_VSET (R217): Write the target connector voltage, checked and ramped. -/
  | actVset (c : CoreId) (f : FormQ)
  /-- ACT_ILIM (R217): Write the converter current limit. -/
  | actIlim (c : CoreId) (f : FormQ)
  /-- ACT_CONV (R218): Write the converter enable and direction. -/
  | actConv (c : CoreId) (f : FormQ)
  /-- ACT_GATE_OFF (R191): Turn both gates off, firing both turn-off generators. -/
  | actGateOff (c : CoreId) (f : FormQ)
  /-- ACT_GATE_SOURCE_ON (R190): Start a source-on turn-on sequence with pass-short check and inrush. -/
  | actGateSourceOn (c : CoreId) (f : FormQ)
  /-- ACT_GATE_IDEAL_DIODE (R425): Turn the port on in ideal-diode sink mode. -/
  | actGateIdealDiode (c : CoreId) (f : FormQ)
  /-- ACT_DSC (R207): Switch the discharge bleed on or off. -/
  | actDsc (c : CoreId) (f : FormQ)
  /-- ACT_VCONN (R49): Open or close the port's VCONN switch. -/
  | actVconn (c : CoreId) (f : FormQ)
  /-- CHK (R293): Check in a flag-unit slot, classified under the window rules. -/
  | chk (c : CoreId) (f : FormQ)
  /-- LOG (R116): Append a 16-byte record to the core's log buffer. -/
  | log (c : CoreId) (f : FormQ)
  /-- FSEND (R116): Arbiter sends a 32-byte fabric frame on a link. -/
  | fsend (c : CoreId) (f : FormQ)
  /-- FRECV (R116): Arbiter pops the oldest received frame of a link. -/
  | frecv (c : CoreId) (f : FormQ)
  /-- HANDLER_DISPATCH (R132): A free core takes the next pending event and starts its handler or premove. -/
  | handlerDispatch (c : CoreId)
  /-- PREMOVE_STALL_END (R110): A stalled QPOP or QPEEK resumes when its data objects arrive or reception ends. -/
  | premoveStallEnd (p : PortId) (data : List Byte) (ext : Half)
  /-- CORE_TIMER_EXPIRY (R107): A core timer expires and raises its timer event, paced by TMIN. -/
  | coreTimerExpiry (c : CoreId) (n : Fin 8)
  /-- COALESCE_INTERVAL_END (R126): A coalesced class interval ends and one event covering latched occurrences is raised. -/
  | coalesceIntervalEnd (c : CoreId) (cls : Fin 64)
  /-- EVENT_REOFFER (R125): A refused non-critical event is offered again after 1,000 us. -/
  | eventReoffer (c : CoreId) (cls : Fin 64)
  /-- BROKEN_PROMISE (R145): A job's absolute deadline passes before it ends and is counted once. -/
  | brokenPromise (c : CoreId)
  /-- PACE_SAMPLE (R144): A 10 us pace-sentinel sample raises or clears the pace alarm. -/
  | paceSample (c : CoreId) (rate : Half)
  /-- FRAME_RECEIVED (R60): A PD frame ends and is accepted, duplicated or rejected, resolving any premove. -/
  | frameReceived (p : PortId) (f : Frame)
  /-- EARLY_DECODE (R72): A frame's header is decoded and the early-decode event is raised. -/
  | earlyDecode (p : PortId) (x : Sop) (hdr : Half) (rate : Nat)
  /-- INVALID_SYMBOL (R423): An invalid symbol or new SOP* ends the frame under reception unaccepted. -/
  | invalidSymbol (p : PortId)
  /-- LINE_IDLE_TIMEOUT (R152): No BMC transition for 12 us before EOP ends the frame and resolves its premove. -/
  | lineIdleTimeout (p : PortId)
  /-- GOODCRC_TRANSMIT (R62): The PHY sends GoodCRC for an accepted frame after the interframe gap. -/
  | goodcrcTransmit (p : PortId)
  /-- GOODCRC_RECEIVE (R67): A matching GoodCRC ends a TX entry as sent. -/
  | goodcrcReceive (p : PortId) (x : Sop) (id : BitVec 3)
  /-- TX_START (R66): The PHY starts the oldest pending TX entry once the bus gap has passed. -/
  | txStart (p : PortId)
  /-- TX_FRAME_END (R67): A transmitted frame reaches its EOP and the tReceive wait begins. -/
  | txFrameEnd (p : PortId)
  /-- TRECEIVE_EXPIRY (R67): tReceive expires without GoodCRC; retry or fail NO_GOODCRC. -/
  | treceiveExpiry (p : PortId)
  /-- AMS_HOLD_EXPIRY (R70): The tSinkTx hold of a source AMS entry ends and the entry is sent. -/
  | amsHoldExpiry (p : PortId)
  /-- SINK_TX_OK_ELAPSED (R71): The partner's Rp has read 3.0 A for 15 ms and a held sink AMS entry is released. -/
  | sinkTxOkElapsed (p : PortId)
  /-- HARD_RESET_RECEIVED (R73): Hard Reset signalling is received; TX fails, PHY enters Hard Reset wait, HR sequence starts. -/
  | hardResetReceived (p : PortId)
  /-- HARD_RESET_DURING_RESET (R28): The PP detector sees Hard Reset while LINK is held and turns the gates off. -/
  | hardResetDuringReset (p : PortId)
  /-- CABLE_RESET_RECEIVED (R73): Cable Reset signalling from the partner is received. -/
  | cableResetReceived (p : PortId)
  /-- SEND_HARD_RESET (R73): Command the PHY to send Hard Reset. -/
  | sendHardReset (p : PortId)
  /-- HARD_RESET_TRANSMIT (R73): The commanded Hard Reset is sent once any reception in progress ends. -/
  | hardResetTransmit (p : PortId)
  /-- SEND_CABLE_RESET (R73): Command the PHY to send Cable Reset as VCONN source. -/
  | sendCableReset (p : PortId)
  /-- CABLE_RESET_TRANSMIT (R73): The commanded Cable Reset is sent once the bus is idle. -/
  | cableResetTransmit (p : PortId)
  /-- BIST_CARRIER (R74): Command BIST carrier mode for tBISTContMode. -/
  | bistCarrier (p : PortId)
  /-- BIST_CARRIER_END (R74): The 45 ms BIST carrier ends and BISTEND is raised. -/
  | bistCarrierEnd (p : PortId)
  /-- BIST_TEST_DATA (R74): Command BIST Test Data mode until Hard Reset or detach. -/
  | bistTestData (p : PortId)
  /-- AMS_END (R70): End the port's own AMS and return Rp to SinkTxOK. -/
  | amsEnd (p : PortId)
  /-- HR_DONE (R181): End the PHY's Hard Reset wait after HRGO. -/
  | hrDone (p : PortId)
  /-- PUSH (R84): Host pushes the HOST-CMD push buffer as a new entry. -/
  | push (p : PortId) (k : Fin 8)
  /-- POP (R84): Host pops the PORT-EVT head only if EXPSEQ matches. -/
  | pop (p : PortId) (k : Fin 8)
  /-- CLROVF (R77): Clear this queue's overflow flag. -/
  | clrovf (p : PortId) (k : Fin 8)
  /-- RX_REOFFER (R306): After a restart an unpopped RX entry is offered again as RXMSG, 990 us apart. -/
  | rxReoffer (p : PortId) (x : Sop)
  /-- CC_TERMINATION_CHANGE (R36): A CC pin's classified termination changes, driving Type-C transitions. mv: the pin's level. -/
  | ccTerminationChange (p : PortId) (pin : CcPin) (mv : Nat)
  /-- CC_OVER_VOLTAGE (R52): A CC pin rises above 6 V; isolation opens and the port enters ErrorRecovery. -/
  | ccOverVoltage (p : PortId) (pin : CcPin)
  /-- CC_ISOLATION_CLOSE (R52): A CC pin has stayed below 5.5 V for 10 ms and its isolation switch closes. -/
  | ccIsolationClose (p : PortId) (pin : CcPin)
  /-- TCC_DEBOUNCE_EXPIRY (R45): tCCDebounce ends and the port attaches, wet-checks or enters an accessory state. -/
  | tccDebounceExpiry (p : PortId) (vb : Nat)
  /-- TPD_DEBOUNCE_EXPIRY (R45): A termination has been absent for tPDDebounce and the port returns by role. -/
  | tpdDebounceExpiry (p : PortId)
  /-- TTRY_CC_DEBOUNCE_EXPIRY (R45): tTryCCDebounce ends in a Try or TryWait state and the port attaches. -/
  | ttryCcDebounceExpiry (p : PortId)
  /-- TDRP_TOGGLE (R45): A DRP toggle phase elapses and the port swaps Rd and Rp. -/
  | tdrpToggle (p : PortId)
  /-- TDRP_TRY_EXPIRY (R45): tDRPTry elapses in a Try or TryWait state. -/
  | tdrpTryExpiry (p : PortId)
  /-- TTRY_TIMEOUT (R45): tTryTimeout elapses in Try.SRC and the port goes to TryWait.SNK. -/
  | ttryTimeout (p : PortId)
  /-- SRC_DISCONNECT (R47): No Rd on the active CC for tSRCDisconnect; the source detaches. -/
  | srcDisconnect (p : PortId)
  /-- SNK_VBUS_LOST (R45): VB falls below 3.67 V in Attached.SNK and the sink detaches. -/
  | snkVbusLost (p : PortId) (vb : Nat)
  /-- VBUS_ON_TIMEOUT (R45): VB is not in vSafe5V tVBUSON after source attach; ErrorRecovery. -/
  | vbusOnTimeout (p : PortId) (vb : Nat)
  /-- SRC_ATTACH_VB_LOW (R45): VB falls below 0.8 V while AttachWait.SRC waits, and the waiting attach row is taken. -/
  | srcAttachVbLow (p : PortId) (vb : Nat)
  /-- TERROR_RECOVERY_EXPIRY (R45): ErrorRecovery ends and terminations are presented again. -/
  | terrorRecoveryExpiry (p : PortId)
  /-- WET_CHECK_END (R55): A wet check completes with a dry, wet or no verdict. -/
  | wetCheckEnd (p : PortId) (r : WetReading)
  /-- WET_CHECK_SBU_OV (R53): An SBU pin above 6 V ends a wet check at once as wet. -/
  | wetCheckSbuOv (p : PortId)
  /-- WET_RECHECK (R56): The Wet recheck interval elapses and a new check runs. -/
  | wetRecheck (p : PortId)
  /-- WET_CHECK_NOW (R54): Command 0x5A starts a wet check on demand. -/
  | wetCheckNow (p : PortId)
  /-- WET_OVERRIDE (R57): Command 0xD7 arms an override for the next wet verdict. -/
  | wetOverride (p : PortId)
  /-- VCONN_OC_TRIP (R50): VCONN current limit for 5 ms opens the switch. -/
  | vconnOcTrip (p : PortId)
  /-- VCONN_REVERSE (R50): Reverse voltage on the VCONN pin opens the switch. -/
  | vconnReverse (p : PortId)
  /-- VCONN_INPUT_UV (R50): A VCONN group input below 4.5 V for 100 us opens the group's switches. -/
  | vconnInputUv (g : Fin 2)
  /-- TC_COMMIT (R58): Commit staged Pn_TC fields, ending dead-battery Rd. -/
  | tcCommit (p : PortId)
  /-- PD_COMMIT (R161): Commit a staged contract record to the held record. -/
  | pdCommit (p : PortId)
  /-- PW_COMMIT (R213): Commit staged power-path limits. -/
  | pwCommit (p : PortId)
  /-- SP_COMMIT (R239): Commit staged set-point drive fields. -/
  | spCommit (p : PortId)
  /-- MN_COMMIT (R240): Commit staged window-monitor fields. -/
  | mnCommit (p : PortId)
  /-- LDG_COMMIT (R265): Commit LDG_CFG. -/
  | ldgCommit
  /-- FAB_COMMIT (R266): Commit fabric configuration and lease timing. -/
  | fabCommit
  /-- FED_COMMIT (R287): Commit feed and larder configuration. -/
  | fedCommit
  /-- HBS_COMMIT (R362): Commit host-bus configuration, effective after the transaction. -/
  | hbsCommit
  /-- REVERT (R375): Staging copies of a block take their live values. -/
  | revert (b : Block)
  /-- MOVING_TIMEOUT (R162): MOVING stays set 400 or 750 ms; TRANSTO is set. -/
  | movingTimeout (p : PortId)
  /-- PPS_GUARD_EXPIRY (R168): 13.5 s without a PPS Request; hardware sends Hard Reset. -/
  | ppsGuardExpiry (p : PortId)
  /-- EPR_GUARD_EXPIRY (R170): 875 ms without a partner SOP message in EPR mode; hardware sends Hard Reset. -/
  | eprGuardExpiry (p : PortId)
  /-- PRS_BEGIN (R174): Begin a power-role swap, clearing the held record and suspending detach. -/
  | prsBegin (p : PortId)
  /-- TERM (R174): Swap the terminations and PROLE in one tick. -/
  | term (p : PortId)
  /-- SWAP_END (R174): End a swap; detach rules of the new state apply. -/
  | swapEnd (p : PortId)
  /-- ERRREC (R174): Command the port into ErrorRecovery. -/
  | errrec (p : PortId)
  /-- SWAP_BACKSTOP_EXPIRY (R174): SWAP set for 1,500 ms; ErrorRecovery and SWAPTO. -/
  | swapBackstopExpiry (p : PortId)
  /-- SAFE0 (R175): VB falls below 0.8 V during a swap and SAFE0 is set. -/
  | safe0 (p : PortId) (vb : Nat)
  /-- FRS_SIGNAL (R180): CC below 0.5 V for 50 us is recognised as the FR_Swap signal. -/
  | frsSignal (p : PortId)
  /-- FAST_SOURCING (R206): VB below 5.5 V on an armed port starts fast sourcing within 100 us. -/
  | fastSourcing (p : PortId) (vb : Nat)
  /-- FAST_SOURCING_HOLDOFF_END (R206): The 10 ms limit-loop hold-off of fast sourcing ends. -/
  | fastSourcingHoldoffEnd (p : PortId)
  /-- HR_PS_HARD_RESET (R181): tPSHardReset elapses; the source turns off and VCONN drops. -/
  | hrPsHardReset (p : PortId)
  /-- HR_SAFE0 (R181): VB reaches vSafe0V in a Hard Reset and attach-time roles are restored. -/
  | hrSafe0 (p : PortId) (vb : Nat)
  /-- HRGO_SOURCE (R181): tSrcRecover elapses and HRGO lets the source recover. -/
  | hrgoSource (p : PortId)
  /-- HR_TURN_ON_TIMEOUT (R181): VB not in vSafe5V tSrcTurnOn after HRGO; ErrorRecovery. -/
  | hrTurnOnTimeout (p : PortId)
  /-- HRGO_SINK (R181): VB returns to 4.0 V for an attach-time sink and HRGO is set. -/
  | hrgoSink (p : PortId) (vb : Nat)
  /-- HR_SINK_TIMEOUT (R181): 2,000 ms pass without VB return and the sequence ends without HRGO. -/
  | hrSinkTimeout (p : PortId) (vb : Nat)
  /-- PEN_WRITE (R200): A PEN write holds gates off or, toggled after 500 ms, clears Lid. -/
  | penWrite (p : PortId) (w : Who) (v : Bool)
  /-- RSNS_WRITE (R21): A range- and LIMIT_ORDER-checked write of the sense-resistor value. -/
  | rsnsWrite (p : PortId) (v : Byte)
  /-- TURN_ON_CHECK_DONE (R190): The 1 ms pass-short check of a turn-on passes and GB is driven on. -/
  | turnOnCheckDone (p : PortId)
  /-- NOCONV (R190): V_ISN does not reach 4,000 mV within 5 ms; the turn-on is abandoned. -/
  | noconv (p : PortId)
  /-- HOLDOFF_END (R187): A turn-off generator's 100 us hold-off ends and a deferred turn-on proceeds. -/
  | holdoffEnd (p : PortId)
  /-- GATE_B_RISEN (R190): VGS_B reaches 9 V and GA is released to the limit loop. -/
  | gateBRisen (p : PortId)
  /-- INRUSH_END (R190): FET A is fully on with the loop idle; PHASE becomes running. -/
  | inrushEnd (p : PortId)
  /-- LIMIT_LOOP_ENGAGE (R194): Sensed current reaches I_eff; LIMACT sets and the fault timer starts. -/
  | limitLoopEngage (l : LoopSample)
  /-- LIMIT_LOOP_RELEASE (R199): Current below 0.95 I_eff for 20 us clears LIMACT; a deferred UVP may trip. -/
  | limitLoopRelease (l : LoopSample)
  /-- FAULT_TIMER_EXPIRY (R194): The fault timer reaches FTIM; trip ILIM_TIMER or SIMMER_TIMER. -/
  | faultTimerExpiry (p : PortId)
  /-- HARDSHORT (R196): The continuous comparator sees the hard-short level and trips within 300 ns. -/
  | hardshort (p : PortId)
  /-- GWR_VGS (R202): At TRISE a gate is still below 6 V; trip. -/
  | gwrVgs (p : PortId)
  /-- GWR_VDS (R202): VDS stays above 250 mV for 200 us with the gate on; trip. -/
  | gwrVds (p : PortId)
  /-- PUMPUV (R198): A fully-on gate stays below 6 V for 50 us; trip. -/
  | pumpuv (p : PortId)
  /-- PASSSHORT (R203): The pass-short check sees VBUS or current through an off pair for 1 ms; trip. -/
  | passshort (p : PortId)
  /-- IDEAL_DIODE_REVERSE_OFF (R204): Reverse voltage in ideal-diode mode turns both gates off. -/
  | idealDiodeReverseOff (p : PortId)
  /-- IDEAL_DIODE_RESUME (R205): Forward drop back for 20 us; ideal-diode operation resumes. -/
  | idealDiodeResume (p : PortId)
  /-- V5_GATE_DROP (R188): V5 below 4.3 V for 2 us fires the generators of all ports. -/
  | v5GateDrop
  /-- IBASE_HOLD_EXPIRY (R192): 1,000 ms after HELDI fell, I_base takes the lower value. -/
  | ibaseHoldExpiry (p : PortId)
  /-- DSCDONE (R207): VB falls below 0.8 V and a hardware-started discharge ends. -/
  | dscdone (p : PortId) (vb : Nat)
  /-- DSCFAULT (R207): A discharge does not reach 0.8 V within tVBUSOFF; trip and DSC released. -/
  | dscfault (p : PortId)
  /-- SLEW_END (R219): A VSET ramp reaches its target and SLEWEND is set. -/
  | slewEnd (p : PortId)
  /-- TRIM_EVAL (R221): A 200 us trim-loop evaluation adjusts the correction. -/
  | trimEval (p : PortId)
  /-- ADC_FRAME (R224): A 20 us ADC frame updates measurements, energy and power-good. -/
  | adcFrame (ports : List PortSample) (f1 f2 : FeedSample) (r : RailSample)
  /-- AVERAGE_UPDATE (R227): Each millisecond the averages take the means of 50 frames. -/
  | averageUpdate
  /-- DERATE_EVAL (R229): Each millisecond thermistor factors and derated ceilings are recomputed. -/
  | derateEval (ntc : List (List (Nat × Nat)))
  /-- MONITOR_TICK (R231): Comparators sample, sieves update, and an armed sieve output trips. -/
  | monitorTick (p : PortId) (m : MonSample) (st : Bool)
  /-- MONITOR_PERIOD_START (R236): A monitoring period begins; latches copied and auto-cleared. -/
  | monitorPeriodStart (p : PortId)
  /-- STEST (R237): Command 0x5E starts a comparator self-test. -/
  | stest (p : PortId)
  /-- SELF_TEST_END (R237): The 20-tick self-test ends and STDONE is set. -/
  | selfTestEnd (p : PortId)
  /-- ECMD_CLEAR (R226): Command 0xE0 clears a port's energy counters and residues. -/
  | ecmdClear (p : PortId)
  /-- THERM_CFG_WRITE (R241): A checked write of a thermistor derating curve and assignment. -/
  | thermCfgWrite (k : Fin 4) (v : Word)
  /-- THERM_NTC_WRITE (R241): A checked write of a thermistor characteristic. -/
  | thermNtcWrite (k : Fin 4) (v : Word)
  /-- LEDGER_CUT (R247): The overdraw cut deadline passes and ports are cut by priority. -/
  | ledgerCut
  /-- LINK_UP (R248): A fabric link comes up after 100 us of valid code. -/
  | linkUp (l : FLink)
  /-- LINK_DOWN (R248): A fabric link goes down after 10 us without transitions. -/
  | linkDown (l : FLink)
  /-- FRAME_FORWARD (R250): A fabric frame for another device is routed and sent in hardware. -/
  | frameForward (l : FLink) (f : FFrame)
  /-- TIME (R254): A TIME frame on U corrects fabric time and may set the address. -/
  | time (f : FFrame)
  /-- TIME_SEND (R254): Every 1,000 us a TIME frame is sent on each up down link. -/
  | timeSend
  /-- FTLOCK_LOST (R254): Eight TIME frames are missed and FTLOCK clears. -/
  | ftlockLost
  /-- LEASE_RENEW (R256): A parent answers a child's RENEW in hardware with an ACK. -/
  | leaseRenew (k : Fin 2) (f : FFrame)
  /-- RENEW_SEND (R256): A device sends LEASE_RENEW on schedule or when U comes up. -/
  | renewSend
  /-- RENEW_TIMEOUT (R256): A RENEW gets no ACK within TMO and RENEWFAIL counts. -/
  | renewTimeout
  /-- ACK (R256): A RENEW or RETURN ACK is accepted, updating X_in and expiry. -/
  | ack (f : FFrame)
  /-- LEASE_RETURN (R262): A parent lowers a child's extra on LEASE_RETURN and answers ACK. -/
  | leaseReturn (k : Fin 2) (f : FFrame)
  /-- LEASE_REQ (R253): A lease request is queued for the arbiter and raises FABRX. -/
  | leaseReq (l : FLink) (f : FFrame)
  /-- LEASE_GRANT (R253): A lease grant is queued for the arbiter and raises FABRX. -/
  | leaseGrant (l : FLink) (f : FFrame)
  /-- NAK (R253): A NAK is queued for the arbiter and raises FABRX. -/
  | nak (l : FLink) (f : FFrame)
  /-- UPD_ACT (R351): A broadcast activation frame is forwarded and schedules an activation. -/
  | updAct (l : FLink) (f : FFrame)
  /-- REG_TUNNEL (R263): A tunnel request is carried out at the target and answered. -/
  | regTunnel (l : FLink) (f : FFrame)
  /-- TUNNEL_REPLY (R263): The root receives a tunnel reply and ends FAB_TCMD. -/
  | tunnelReply (f : FFrame)
  /-- TUNNEL_SEND (R263): Command 0x54 sends a REG_TUNNEL request from the root. -/
  | tunnelSend
  /-- TUNNEL_TIMEOUT (R263): No tunnel reply within 10 ms; CST reports TIMEOUT. -/
  | tunnelTimeout
  /-- SHED_POINT (R257): The shed point passes; the lease term falls to FLOOR. -/
  | shedPoint
  /-- LEASE_EXPIRY (R257): The device's lease expires and X_in becomes 0. -/
  | leaseExpiry
  /-- CHILD_LEASE_EXPIRY (R257): A child's extra expires and X_c becomes 0. -/
  | childLeaseExpiry (k : Fin 2)
  /-- TRANSACTION_TIMEOUT (R261): An open transaction entry times out and is rolled back. -/
  | transactionTimeout (e : Fin 8)
  /-- RSV_TOP (R267): Open a top transaction entry, raising TR. -/
  | rsvTop
  /-- RSV_PASS (R267): Open a pass entry against the room on a link. -/
  | rsvPass
  /-- COMMIT (R267): Commit a transaction entry, raising the child's and own extras. -/
  | commit
  /-- ROLLBACK (R267): Close a transaction entry with nothing committed. -/
  | rollback
  /-- OWNGRANT (R267): Raise X_in by a granted amount. -/
  | owngrant
  /-- RETURN (R262): Lower X_in and send LEASE_RETURN. -/
  | returnI
  /-- FTSET (R268): Set the root's fabric time forward. -/
  | ftset (v : DWord)
  /-- FEED_REVERSE_OFF (R270): A feed's FET turns off on reverse voltage. -/
  | feedReverseOff (k : Feed)
  /-- FEED_RESUME (R270): A feed resumes forward regulation after 20 us of forward drop. -/
  | feedResume (k : Feed)
  /-- FEED_GOOD (R272): A feed becomes GOOD after 10 ms above threshold and FEEDCAP rises. -/
  | feedGood (r : FeedStand)
  /-- FEED_WARN_START (R273): A feed meets its early-warning condition; EW may begin. -/
  | feedWarnStart (r : FeedSag)
  /-- FEED_WARN_END (R273): A feed's condition ends after EWHOLD; EW may end. -/
  | feedWarnEnd (r : FeedCalm)
  /-- CMEAS_PASSAGE (R276): VHOLD rises from 3 V to 6 V and CMEAS is set. -/
  | cmeasPassage (us : Nat)
  /-- SAVE_TRIGGER (R278): VHV or V5 sags and the larder save starts. -/
  | saveTrigger (k : SaveCause)
  /-- SAVE (R278): Command a planned larder save. -/
  | save
  /-- SAVE_WRITE_DONE (R279): The larder write completes; gates open and ports discharge. -/
  | saveWriteDone (dur vhold : Nat)
  /-- SAVE_ABANDON (R280): VHOLD falls below 5.5 V before the write ends; the save is abandoned. -/
  | saveAbandon
  /-- WARM_START (R282): Supplies return for 10 ms and the device leaves park by a warm start. -/
  | warmStart (w : WakeSample)
  /-- PARK_POWER_LOSS (R282): VHOLD falls below 4.5 V while parked and the AO domain loses power. -/
  | parkPowerLoss
  /-- SAVE_ARM (R389): VHV above VSAVE plus RESHYST for 10 ms arms the VHV save trigger. -/
  | saveArm
  /-- PROXY_CHECKIN (R293): A debug-port proxy check-in is counted for a flag slot. -/
  | proxyCheckin (c : CoreId) (n : Fin 16)
  /-- FLAG_LATE (R292): A period ends with an enabled slot not done; the flag falls. -/
  | flagLate (c : CoreId)
  /-- FLAG_CLOCK_CHECK (R295): A cross-monitor check of a unit's clock; four misses make the flag fall. -/
  | flagClockCheck (c : CoreId) (missed : Bool)
  /-- FLAG_FORCE (R298): Command 0xF1 forces a flag fall with cause TEST. -/
  | flagForce
  /-- FLAG_PULSE_END (R300): A FLAG pulse request ends; the ball falls when none remain. -/
  | flagPulseEnd (r : Fin 10)
  /-- RESTART_CORE (R306): Command a file-core restart. -/
  | restartCore (w : Who)
  /-- REINIT_PORT (R307): Command a port into ErrorRecovery and restart its file core. -/
  | reinitPort (w : Who)
  /-- RESTART_ARB (R308): Command an arbiter restart. -/
  | restartArb (w : Who)
  /-- RELEASE_CORE (R310): Release a file core held stopped. -/
  | releaseCore (w : Who)
  /-- DEVICE_RESET (R314): Command a device reset. -/
  | deviceReset (w : Who)
  /-- POWER_CYCLE (R312): Command rung 4: generators fire and FLAG is pulsed. -/
  | powerCycle (w : Who)
  /-- CORE_RESTART_BEGIN (R306): A stopped file core begins its restart after 0.5 ms or on command. -/
  | coreRestartBegin (p : PortId)
  /-- CORE_RESTART_LOADED (R306): The file image copy is checked and installed; START runs or rung 3 is taken. -/
  | coreRestartLoaded (p : PortId) (crcOk : Bool)
  /-- RESTART_BOUND_EXPIRY (R309): A restarting core misses the end of START within its bound; a failure. -/
  | restartBoundExpiry (c : CoreId)
  /-- ARBITER_RESTART_LOADED (R308): The boot ROM has read and digest-checked the arbiter image; START runs. -/
  | arbiterRestartLoaded (bad0 bad1 : List FlashSec)
  /-- HALT_ENTRY (R312): 200 ms after the rung 4 pulse without a power-on reset the device enters HALT. -/
  | haltEntry
  /-- RST_N_PULSE (R418): A low pulse on RST_N causes a device reset from its rising edge. -/
  | rstNPulse (us : Nat)
  /-- OTP_SENSE_DONE (R330): The OTP reset sense ends and the shadows are filled. -/
  | otpSenseDone
  /-- ARBITER_IMAGE_VERIFIED (R356): The boot ROM has chosen and verified the arbiter image; arbiter START begins. -/
  | arbiterImageVerified (r : FlashRead)
  /-- FILE_IMAGE_CERTIFIED (R139): The loader accepts or refuses the file image and file cores START. -/
  | fileImageCertified (r : FlashRead)
  /-- PORTS_LIVE (R314): LINK is released and the ports go live after a reset. -/
  | portsLive
  /-- TAKE (R316): Latch the position of the whole device. -/
  | take
  /-- RELEASE (R316): Release the position. -/
  | release
  /-- POSITION_READY (R316): The position is assembled and READY is set. -/
  | positionReady
  /-- READN (R332): Read an OTP word at normal margin. -/
  | readn
  /-- READS (R332): Read an OTP word at strict margin. -/
  | reads
  /-- PROGRAM (R335): Blow bits of an OTP word. -/
  | program
  /-- SEAL (R338): Check and blow a region's lock fuse. -/
  | sealRegion
  /-- OTP_COMMAND_END (R336): An OTP controller command completes, verifies or faults. -/
  | otpCommandEnd (refOk : Bool) (bad : Word)
  /-- OTP_OVR_WRITE (R334): Apply or remove an OTP region override. -/
  | otpOvrWrite (v : Half)
  /-- OTP_STICKY_WRITE (R337): Set sticky locks of OTP regions. -/
  | otpStickyWrite (v : Half)
  /-- OTP_UNLK_WRITE (R335): Arm the next PROGRAM or SEAL once. -/
  | otpUnlkWrite (v : Half)
  /-- UPD_BEGIN (R345): Check the staged header and start receiving the body. -/
  | updBegin
  /-- UPD_END (R345): Check BODYHASH and copy the image into its target slot. -/
  | updEnd
  /-- UPD_ABORT (R345): Abandon the transfer and erase staging. -/
  | updAbort
  /-- UPD_ERASE (R345): Erase the relay staging area. -/
  | updErase
  /-- SCHEDULE (R351): Schedule an activation at a fabric time. -/
  | schedule
  /-- CANCEL (R351): Remove a scheduled activation. -/
  | cancel
  /-- UPD_ROLLBACK (R355): End a trial by fall-back. -/
  | updRollback
  /-- RELAY (R350): Root relays its staging to devices over the fabric. -/
  | relay
  /-- RELAY_FRAME_SEND (R350): The relay sends its next tunnel frame after 50 us or the 100 ms BEGIN wait. -/
  | relayFrameSend
  /-- CONFIRM (R354): Confirm the trial set. -/
  | confirm
  /-- HOST_CHUNK (R345): A host chunk applied through UPD_CHUNK is written to staging. -/
  | hostChunk (off : Word) (data : List Byte)
  /-- INSTALL_DONE (R345): The END copy and sector verify complete; the image is pending. -/
  | installDone (e : InstallEnd)
  /-- STAGING_ERASED (R345): Background staging erase completes and STATE returns to idle. -/
  | stagingErased
  /-- ACTIVATION_START (R352): Fabric time reaches ACTTIME and the activation checks run. -/
  | activationStart
  /-- ACTIVATION_RECHECK (R352): A 10 ms recheck of activation conditions, cancelling after 1,000 ms. -/
  | activationRecheck
  /-- QUIET_PORT_RESTART (R353): A passed-over port becomes quiet and its core is restarted. -/
  | quietPortRestart (p : PortId)
  /-- TRIAL_END (R355): TRIALEND is reached without confirmation; fall-back. -/
  | trialEnd
  /-- SVC_DETECT (R347): SVC_DET high for 10 ms activates the service port. -/
  | svcDetect
  /-- SVC_LOST (R347): SVC_DET low for 10 ms deactivates the service port. -/
  | svcLost
  /-- SVC_PACKET_GAP (R348): A gap over 2 ms discards a partial service packet. -/
  | svcPacketGap
  /-- SVC_HELLO (R348): Service packet returning identity and versions. -/
  | svcHello (k : SvcPacket)
  /-- SVC_WRITE (R348): Service packet writing a chunk into staging. -/
  | svcWrite (k : SvcPacket)
  /-- SVC_BEGIN (R348): Service packet issuing BEGIN. -/
  | svcBegin (k : SvcPacket)
  /-- SVC_END (R348): Service packet issuing END. -/
  | svcEnd (k : SvcPacket)
  /-- SVC_STATUS (R348): Service packet returning transfer and update status. -/
  | svcStatus (k : SvcPacket)
  /-- SVC_SCHEDULE (R348): Service packet scheduling an activation. -/
  | svcSchedule (k : SvcPacket)
  /-- SVC_CONFIRM (R348): Service packet confirming the trial. -/
  | svcConfirm (k : SvcPacket)
  /-- SVC_ROLLBACK (R348): Service packet requesting fall-back. -/
  | svcRollback (k : SvcPacket)
  /-- SVC_ABORT (R348): Service packet aborting the transfer. -/
  | svcAbort (k : SvcPacket)
  /-- SVC_BAUD (R348): Service packet changing the baud divisor after the response. -/
  | svcBaud (k : SvcPacket)
  /-- REGISTER_WRITE (R366): Acknowledged host bytes are applied at STOP or repeated START to registers with no row of their own. -/
  | registerWrite (a : Byte) (ptr : Half) (data : List Byte) (e : BusEnd) (late : Bool)
  /-- RC_READ (R369): Reading an RC register's lowest byte returns and clears it. -/
  | rcRead (a : Byte) (ptr : Half)
  /-- SDA_TIMEOUT (R370): SDA held low for SDATO ms; the interface returns to idle. -/
  | sdaTimeout (a : Byte)
  /-- GROUP_COMMIT (R377): Commit every block selected in GLB_GCSEL in order. -/
  | groupCommit
  /-- MAILBOX_ISSUE (R378): Applying SEQ issues a mailbox command or returns the kept result. -/
  | mailboxIssue (seq : Byte)
  /-- PORTS_OFF (R381): Hardware mailbox command turning named ports off. -/
  | portsOff (seq pmask : Byte)
  /-- COMMIT_PORTS (R381): Hardware mailbox command committing selected port sub-blocks. -/
  | commitPorts (seq pmask arg : Byte)
  /-- ECLEAR (R381): Hardware mailbox command clearing energy counters of named ports. -/
  | eclear (seq pmask : Byte)
  /-- REVERT_PORTS (R381): Hardware mailbox command reverting selected port sub-blocks. -/
  | revertPorts (seq pmask arg : Byte)
  /-- POWER_ON_RESET (R392): V5 rises through 4.5 V and the power-on boot runs. -/
  | powerOnReset (b : Board)
  /-- START_MODE_ENTRY (R393): VHV or a VB reaches 4.0 V without V5 and start mode begins. -/
  | startModeEntry (src : StartSource)
  /-- START_MODE_EXIT (R394): V5 rises through 4.5 V in start mode, keeping CC state across the reset. -/
  | startModeExit (b : Board) (ms : Nat)
  /-- VIO_LOSS (R388): VIO falls below 1.5 V; VIO balls go high-impedance. -/
  | vioLoss
  /-- VIO_RETURN (R388): VIO returns to 1.65 V and the waiting boot may continue. -/
  | vioReturn
  /-- XTAL_SWITCH (R390): The crystal is confirmed and the main timebase moves to it. -/
  | xtalSwitch
  /-- XTAL_FAIL (R390): The crystal stops or drifts and the main timebase returns to the oscillator. -/
  | xtalFail
  /-- SINK_VBUS_DETECT (R45): VB rises to 4.0 V on a port in AttachWait.SNK or TryWait.SNK whose Rp has already been debounced, and the sink attach row is taken. -/
  | sinkVbusDetect (p : PortId) (vb : Nat)
  /-- FABRIC_FRAME_DISCARD (R251): A fabric frame with a bad CRC, an invalid Manchester symbol, a bad TYPE or non-zero reserved bits is discarded and counted in FAB_ERR. -/
  | fabricFrameDiscard (l : FLink)
  /-- SVC_PACKET_DISCARD (R348): A service-port packet with a bad CRC is discarded with no response. -/
  | svcPacketDiscard
  /-- CHUNK_WRITE_DONE (R345): The flash write of an applied chunk completes, up to 40 us after it began, and staging again accepts the next chunk. -/
  | chunkWriteDone
  /-- LOWENERGY_CHANGE (R276): The usable VHOLD energy E crosses 1.2 mJ as VHOLD charges or falls, setting or clearing LOWENERGY and raising ENERGYLOW or ENERGYOK. -/
  | lowenergyChange (vhold : Nat)
  /-- START_MODE_LOSS (R394): The start-mode source (VHV or a port's VB) fails before V5 rises, so the AO domain loses power and nothing is kept. -/
  | startModeLoss
  deriving DecidableEq, Repr

end Sys2Proof
end

