-- ==== Sys2Proof/Machine/PortState.lean ====
section
/-! DEFINITION. The state of one port (Type-C, PHY, queues, contract, power path, set-point drive, monitors,
measurement) and of one core. Plain data; every register keeps its reset value as the default of its field. A class S
field has a live value and a staging copy with the suffix S (R375). INVENTORY.md lists every field with its rule. -/

namespace Sys2Proof.Machine

/-- BLOCK_COMMIT (R375): the last CMD byte, REF and RSN; PEND is computed from the staging copies. -/
structure Commit where
  cmd : Byte := 0
  ref : Bool := false
  rsn : BitVec 6 := 0
  deriving DecidableEq, Repr

/-- A command byte and its status byte, as most command registers hold them. -/
structure CmdReg where
  cmd : Byte := 0
  cst : Byte := 0
  deriving DecidableEq, Repr

/-! ### Type-C (02) -/

/-- States of the Type-C state machine (R44). -/
inductive TcState where
  | disabled | errorRecovery | unattachedSnk | attachWaitSnk | attachedSnk | unattachedSrc | attachWaitSrc | wetCheck
  | attachedSrc | trySrc | tryWaitSnk | trySnk | tryWaitSrc | unorientedDebugSrc | debugSnk | wet
  deriving DecidableEq, Repr

/-- What a port presents on its CC pins (R35, R40). The Rp level is `Tc.rp`. -/
inductive Pres where
  | deadRd | rd | rp | openP
  deriving DecidableEq, Repr

/-- Which wet check runs (R54, R56, Pn_TC_WETCMD). -/
inductive Check where
  | none | source | sink | commanded | recheck
  deriving DecidableEq, Repr

/-- Type-C state of a port. -/
structure Tc where
  st        : TcState := .unattachedSnk
  pres      : Pres := .deadRd
  /-- Rp level presented as source: 0 Default, 1 1.5 A, 2 3.0 A (R38, R39) -/
  rp        : Fin 3 := 0
  /-- an accepted Pn_TC commit has been made since power-on (R40) -/
  committed : Bool := false
  cc1       : Term := .openT
  cc2       : Term := .openT
  /-- the isolation switch of CC1, CC2 is open (R52) -/
  iso1      : Bool := false
  iso2      : Bool := false
  /-- active CC: false CC1, true CC2 (R37) -/
  pol       : Bool := false
  deadbat   : Bool := false
  vconn     : Bool := false
  check     : Check := .none
  /-- pins the running check measures, their terminations withdrawn: CC1, CC2, SBU1, SBU2 from bit 0 (R54) -/
  meas      : BitVec 4 := 0
  /-- the partner's termination left or changed during the running check (R55) -/
  gone      : Bool := false
  /-- CST of WETCMD follows the running check (a 0x5A was accepted for it) -/
  asked     : Bool := false
  override  : Bool := false
  dryRun    : Nat := 0
  /-- the sink wet check of this AttachWait.SNK passed (R45) -/
  snkDry    : Bool := false
  /-- tCCDebounce of this AttachWait or TryWait.SNK is over (R45) -/
  debounced : Bool := false
  /-- tDRPTry of this Try.SNK is over (R45) -/
  tryOver   : Bool := false
  /-- ErrorRecovery ends in Disabled (R45, R310) -/
  toDis     : Bool := false
  /-- the port ignores a new attach until VB is below 0.8 V (R47) -/
  discWait  : Bool := false
  ctl       : Half := 0x2200
  ctlS      : Half := 0x2200
  wetcfg    : Half := 0x2804
  wetcfgS   : Half := 0x2804
  com       : Commit := {}
  evt       : Half := 0
  ien       : Half := 0
  wetcmd    : CmdReg := {}
  wetz      : Vector Half 4 := Vector.replicate 4 0xFFFF
  wetd      : Vector Byte 4 := Vector.replicate 4 0
  ccv1      : Half := 0
  ccv2      : Half := 0
  vconni    : Half := 0
  wetcnt    : Half := 0
  deriving DecidableEq, Repr

/-! ### Queues and PHY (03) -/

/-- ST of an entry (R81). -/
inductive EntSt where
  | empty | receiving | received | pending | transmitting | sent | failed | discarded
  deriving DecidableEq, Repr

/-- One queue entry (R80); STAT is `st` and `rsn`. `held` is the model's: a collision-avoidance hold of a TX entry
(R70, R71). -/
structure Entry where
  st   : EntSt := .empty
  rsn  : BitVec 5 := 0
  len  : Byte := 0
  hdr  : Half := 0
  ext  : Half := 0
  flg  : Byte := 0
  seq  : Byte := 0
  data : Vector Byte 28 := Vector.replicate 28 0
  time : Word := 0
  held : Bool := false
  deriving DecidableEq, Repr

/-- One queue (R76): occupied slots, head first; completed TX entries still in their slots, oldest first (R78);
SEQ of the next entry (R79); the window's registers (R83, R84). -/
structure Queue where
  ents   : List Entry := []
  fin    : List Entry := []
  seq    : Byte := 0
  /-- us at which a full queue last lost an entry to a pop (R60) -/
  freed  : Option Nat := none
  buf    : Vector Byte 40 := Vector.replicate 40 0
  cmd    : CmdReg := {}
  sel    : Byte := 0
  expseq : Byte := 0
  deriving DecidableEq, Repr

/-- A frame under reception (R72). `slot`: an RX slot is reserved; `early`: early decode was given. -/
structure RxFrame where
  sop   : Sop
  hdr   : Half
  rate  : Nat
  time  : Word
  slot  : Bool
  early : Bool
  ext   : Half := 0
  data  : List Byte := []
  /-- slot and absolute deadline of a premove of this frame that a fault took back (R124, R134) -/
  again : Option (Nat × Word) := none
  /-- the frame's reception has ended (R110) -/
  ended : Bool := false
  deriving DecidableEq, Repr

/-- A transmission in progress (R66, R67): its TX queue, retries made, MessageID; `await`: its EOP is sent and
GoodCRC is awaited; `eop`: EOP of the last attempt. -/
structure TxBusy where
  sop   : Sop
  tries : Nat
  id    : BitVec 3
  await : Bool
  eop   : Option Word := none
  deriving DecidableEq, Repr

/-- PHY of a port. `txId`, `rxId`, `rxVal` are indexed by SOP* type (R63). -/
structure Phy where
  ctl    : Half := 0x0002
  cmd    : CmdReg := {}
  evt    : Half := 0
  ien    : Half := 0
  nFail  : Byte := 0
  nRetry : Byte := 0
  nDup   : Byte := 0
  nCrc   : Byte := 0
  rx     : Option RxFrame := none
  tx     : Option TxBusy := none
  /-- GoodCRC owed: its SOP* type and header (R62) -/
  crcDue : Option (Sop × Half) := none
  /-- a frame of the PHY's own (GoodCRC, Hard or Cable Reset) has been put on the line: SOP* type and header -/
  lastTx : Option (Sop × Half) := none
  txId   : Vector (BitVec 3) 3 := Vector.replicate 3 0
  rxId   : Vector (BitVec 3) 3 := Vector.replicate 3 0
  rxVal  : Vector Bool 3 := Vector.replicate 3 false
  amsOpen : Bool := false
  /-- the partner's Rp on the active CC has read 3.0 A for 15 ms (R71) -/
  sinkOk : Bool := false
  hrwait : Bool := false
  bistTd : Bool := false
  bistCar : Bool := false
  hrPend : Bool := false
  crPend : Bool := false
  lastEarly : Option Nat := none
  /-- RX entries still to be offered again after a restart, oldest first: SOP* type and SEQ (R306) -/
  reoffer : List (Sop × Byte) := []
  qsctl  : Half := 0x0001
  ovf    : Byte := 0
  rxdrop : Half := 0
  deriving DecidableEq, Repr

/-! ### Contract (07) -/

/-- SWAP of Pn_PD_CSTAT (R174). -/
inductive Swap where
  | none | oldSource | oldSink | frSwap
  deriving DecidableEq, Repr

/-- HRSEQ of Pn_PD_CSTAT (R181). -/
inductive HrSeq where
  | none | before4 | vbWait | goWait | doneWait
  deriving DecidableEq, Repr

/-- Contract state of a port. The held record is `conv`, `coni`, `concfg` (R160). -/
structure Ct where
  conv    : Half := 0
  convS   : Half := 0
  coni    : Half := 0
  coniS   : Half := 0
  concfg  : Word := 0
  concfgS : Word := 0
  /-- FRCUR and ARM, bits 11:10 and 7 -/
  frs     : Half := 0
  frsS    : Half := 0
  frsSrc  : Bool := false
  frsSig  : Bool := false
  com     : Commit := {}
  heldT   : Word := 0
  swap    : Swap := .none
  /-- TERM was applied in this swap (R174) -/
  termed  : Bool := false
  hrseq   : HrSeq := .none
  /-- the port was sourcing when the Hard Reset sequence began (R181 steps 2, 3) -/
  hrSrc   : Bool := false
  /-- tPSHardReset is over (R181 step 3 done) -/
  hrStep3 : Bool := false
  /-- tSrcTurnOn runs: VB has not been inside vSafe5V since HRGO (R181 step 6a) -/
  hrTurn  : Bool := false
  moving  : Bool := false
  movCnt  : Nat := 0
  /-- us of the commit that set MOVING (R162) -/
  movAt   : Nat := 0
  convOld : Half := 0
  /-- TYPE of the record before the last commit (R232, R233) -/
  typOld  : BitVec 3 := 0
  /-- a PD 3.x contract is in force with the port as source (R39) -/
  pd3     : Bool := false
  rcmd    : CmdReg := {}
  cevt    : Half := 0
  cien    : Half := 0x00E0
  attpr   : Bool := false
  attdr   : Bool := false
  attvc   : Bool := false
  rapin   : Bool := false
  deriving DecidableEq, Repr

/-! ### Power path (08) -/

/-- GATEMODE (R189). -/
inductive GateMode where
  | off | sourceOn | idealDiode
  deriving DecidableEq, Repr

/-- PHASE of Pn_PW_STATUS (R190). -/
inductive Phase where
  | none | inrush | running
  deriving DecidableEq, Repr

/-- Step of a turn-on in progress (R190): pass-short check, waiting for VGS_B, waiting for FET A. -/
inductive Turn where
  | none | check | gateB | gateA
  deriving DecidableEq, Repr

/-- What a trip's arming and its record look at (R198, R199, R230): gate mode, phase, turn-on step, LIMACT, REVOFF. -/
structure GateSt where
  mode   : GateMode := .off
  phase  : Phase := .none
  turn   : Turn := .none
  limact : Bool := false
  revoff : Bool := false
  deriving DecidableEq, Repr

/-- Power path of a port. -/
structure Pw where
  ctl     : Half := 0x3201
  lim     : Word := 0x3C190BB8
  limS    : Word := 0x3C190BB8
  cfg     : Word := 0x1E140A80
  cfgS    : Word := 0x1E140A80
  pgw     : Half := 0x0032
  pgwS    : Half := 0x0032
  com     : Commit := {}
  mode    : GateMode := .off
  phase   : Phase := .none
  turn    : Turn := .none
  /-- a turn-on deferred to the end of the hold-off (R187) -/
  defer   : GateMode := .off
  holdoff : Bool := false
  /-- GA, GB are driven on (fully or regulated) -/
  ga      : Bool := false
  gb      : Bool := false
  lid     : Bool := false
  lidAt   : Word := 0
  /-- 500 ms have passed since the trip that set Lid (R200) -/
  lidOk   : Bool := false
  /-- the trip that set Lid was DSCFAULT (R207) -/
  lidDsc  : Bool := false
  limact  : Bool := false
  /-- us at which LIMACT last cleared by release (R194) -/
  limOff  : Option Nat := none
  revoff  : Bool := false
  /-- us in which the gates last went off, and how they stood before: trips of that us go by it (R198, R235) -/
  before  : Option (Nat × GateSt) := none
  faston  : Bool := false
  /-- the limit loop is held off for the first 10 ms of fast sourcing (R206) -/
  fastHold : Bool := false
  /-- us at which the last hold-off ended (R203) -/
  hoAt    : Option Nat := none
  /-- I_base is taken from FRCUR until a contract is committed (R206) -/
  frBase  : Bool := false
  dscHw   : Bool := false
  dscAct  : Bool := false
  pg      : Bool := false
  pgCnt   : Nat := 0
  pgBad   : Nat := 0
  /-- a sample of this us completes the PGN count: it counts at the end of the us (R210) -/
  pgDue   : Bool := false
  /-- the previous higher HELDI kept in I_base (R192) -/
  ibaseKeep : Option Nat := none
  actrsn  : BitVec 4 := 0
  evt     : Half := 0
  ien     : Half := 0x0041
  /-- us of the last trip (R198) -/
  tripUs  : Option Nat := none
  /-- Pn_PW_TRIP word 0 -/
  trip    : Word := 0
  ttime   : Word := 0
  tvb     : Half := 0
  ti      : Half := 0
  tvgsa   : Half := 0
  tvgsb   : Half := 0
  tripcnt : Half := 0
  revcnt  : Half := 0
  vgsa    : Half := 0
  vgsb    : Half := 0
  vdsa    : Half := 0
  vdsb    : Half := 0
  /-- VB in mV as the last event or comparator sample saw it (log 3) -/
  vbPin   : Nat := 0
  deriving DecidableEq, Repr

/-! ### Set-point drive, monitors, measurement (09) -/

/-- Set-point drive of a port. -/
structure Sp where
  vmin   : Half := 3000
  vminS  : Half := 3000
  vmax   : Half := 50000
  vmaxS  : Half := 50000
  cfg    : Word := 0x600A198B
  cfgS   : Word := 0x600A198B
  iclfs  : Half := 8000
  iclfsS : Half := 8000
  rdrop  : Half := 0
  rdropS : Half := 0
  com    : Commit := {}
  cen    : Bool := false
  dir    : Bool := false
  vset   : Nat := 0
  ilim   : Nat := 0
  /-- ramp value in mV (R219) -/
  ramp   : Nat := 0
  slewing : Bool := false
  /-- the first VSET after CEN rose takes effect without a ramp (R219) -/
  exempt : Bool := false
  fbs    : Nat := 0
  cls    : Nat := 0
  corr   : Int := 0
  /-- trim boundaries still to pass since SLEWING cleared, before a whole period has ended (R221) -/
  wait   : Nat := 0
  okRun  : Nat := 0
  badRun : Nat := 0
  trimok : Bool := false
  /-- the last evaluation found |e| above 0.5 % of the target (R223) -/
  eBig   : Bool := false
  target : Nat := 0
  sprsn  : BitVec 4 := 0
  evt    : Half := 0
  ien    : Half := 0
  deriving DecidableEq, Repr

/-- The committed fields of the Pn_MN block (R240). -/
structure MnVals where
  ctl  : Word
  cfg  : Half
  vlvl : Word
  ilvl : Word
  trk  : Word
  deriving DecidableEq, Repr

/-- Window monitors of a port. Sieve order OVP, UVP, OCP, REV from bit 0; comparator order OVV, OVS, UVV, OCP, REV. -/
structure Mn where
  ctl    : Word := 0x025303E8
  ctlS   : Word := 0x025303E8
  cfg    : Half := 0
  cfgS   : Half := 0
  vlvl   : Word := 0xD6D80FA0
  vlvlS  : Word := 0xD6D80FA0
  ilvl   : Word := 0x177001F4
  ilvlS  : Word := 0x177001F4
  trk    : Word := 0x0014140F
  trkS   : Word := 0x0014140F
  com    : Commit := {}
  /-- the last COMMIT: its us, the fields in force before it and the fields it judged (R240) -/
  judged : Option (Nat × MnVals × MnVals) := none
  /-- ticks of the running monitoring period, and its start has been taken (R236) -/
  per    : Nat := 0
  begun  : Bool := false
  /-- the last eight inputs of each sieve, newest in bit 0 (R234) -/
  hist   : Vector Byte 4 := Vector.replicate 4 0
  out    : BitVec 4 := 0
  raw    : BitVec 5 := 0
  rawl   : BitVec 5 := 0
  svl    : BitVec 4 := 0
  prev   : Half := 0
  sub    : BitVec 3 := 0
  ulvl   : Word := 0
  uilvl  : Word := 0
  evt    : Half := 0
  ien    : Half := 0x0040
  st     : CmdReg := {}
  fail   : BitVec 5 := 0
  skip   : BitVec 5 := 0
  testing : Bool := false
  /-- ticks of the running self-test already made (R237) -/
  stTick : Nat := 0
  deriving DecidableEq, Repr

/-- Measurement of a port. -/
structure Ms where
  vb     : Half := 0
  i      : Half := 0
  pw     : Word := 0
  time   : Word := 0
  visn   : Half := 0
  avb    : Half := 0
  ai     : Half := 0
  apw    : Word := 0
  atime  : Word := 0
  /-- running millisecond: frames so far and the sums of VB, I and P (R227) -/
  n      : Nat := 0
  sumVb  : Nat := 0
  sumI   : Int := 0
  sumP   : Int := 0
  /-- VB and I of the last ten frames, newest first (R221, R222) -/
  last   : List (Nat × Int) := []
  eout   : BitVec 48 := 0
  ein    : BitVec 48 := 0
  /-- residues in pJ (R226) -/
  resOut : Nat := 0
  resIn  : Nat := 0
  ecmd   : CmdReg := {}
  /-- hottest assigned input, 0.125 C (Pn_MS_THERM bits 31:16) -/
  hot    : Half := 0x8000
  factor : Nat := 256
  deriving DecidableEq, Repr

/-- One port. -/
structure Port where
  tc : Tc := {}
  pd : Phy := {}
  ct : Ct := {}
  pw : Pw := {}
  sp : Sp := {}
  mn : Mn := {}
  ms : Ms := {}
  qs : Vector Queue 8 := Vector.replicate 8 {}
  deriving DecidableEq, Repr

/-! ### Cores (04, 05, 06) -/

/-- An open loop (R102): first and last word of the body, iterations left including the running one, the counter
register and the depth of the return stack at entry. -/
structure LoopFrame where
  first : CodeAddr
  last  : CodeAddr
  left  : Nat
  ctr   : BitVec 4
  depth : Nat
  deriving DecidableEq, Repr

/-- A pending or running job (R87, R131): the event record's fields, the slot fixed when it was raised, its band and
whether its broken promise was counted (R145). `queue` is 0xFF for an event of no queue. -/
structure Job where
  cls      : Nat
  slot     : Nat
  queue    : Nat := 0xFF
  seq      : Byte := 0
  time     : Word := 0
  deadline : Word := 0
  arg      : Word := 0
  nc       : Bool := false
  rerun    : Bool := false
  counted  : Bool := false
  /-- EARLY: its frame is still under reception (R146, R147) -/
  inRx     : Bool := false
  id       : Nat := 0
  deriving DecidableEq, Repr

/-- A staged premove effect with the status the premove saw (R117, R119). `store` is one store-buffer entry. -/
inductive Staged where
  | store (addr : Nat) (bytes : List Byte)
  | reg (addr : Nat) (bytes : List Byte)
  | qpush (k : Fin 8) (bytes : List Byte) (seen : Word)
  | qpop (k : Fin 8) (seen : Word)
  | qpeekEvent (k : Fin 8) (queue : Nat) (seq : Byte) (seen : Word)
  | qpeekSlot (k : Fin 8) (slot : Nat) (seen : Word)
  | lrsv (amt : Word) (seen : Word)
  | lcmt (amt : Word) (seen : Word)
  | lrelGrant (amt : Word) (seen : Word)
  | lrelRsv (amt : Word) (seen : Word)
  | act (j : Fin 8) (v : Word) (seen : Word)
  | chk (n : Nat)
  | log (typ : Nat) (bytes : List Byte) (seen : Word)
  | tset (n : Fin 8) (abs : Bool) (v : Nat)
  | tclr (n : Fin 8)
  | await (cls : Nat) (slot : Nat)
  deriving DecidableEq, Repr

/-- A stalled instruction of a premove, as its word (R110, R118): on data, or on a full buffer. -/
inductive Stall where
  | data (w : Word)
  | buffer (w : Word)
  deriving DecidableEq, Repr

/-- A running handler (R86, R87, R117, R123). -/
structure Handler where
  job     : Job
  bound   : Nat
  start   : Word := 0
  steps   : Nat := 0
  premove : Bool := false
  /-- a premove that has executed END or AWAIT and waits for its resolution -/
  ended   : Bool := false
  stall   : Option Stall := none
  staged  : List Staged := []
  deriving DecidableEq, Repr

/-- A loaded slot: its table entry, certified bound in steps, occupancy in ns, relative deadline in us (R135-R137). -/
structure SlotInfo where
  e     : HEntry
  bound : Nat
  occ   : Nat
  ded   : Nat
  deriving DecidableEq, Repr

/-- A loaded image: its slots H0 to H63 (none: not VALID), code end in words, NCMAX and handler table. -/
structure LoadedImage where
  slots   : List (Option SlotInfo)
  codeEnd : Nat
  ncmax   : Nat
  /-- the handler table as the image has it (R128), for the position (R320) -/
  table   : List HEntry := []
  deriving DecidableEq, Repr

/-- A coalesced class whose interval is open, with the ARG of the occurrences not yet covered (R126). -/
structure Coal where
  cls     : Nat
  latched : Option Word
  deriving DecidableEq, Repr

/-- A raised event that waits: refused and to be offered again (R125), or raised while the core was not running (R134). -/
structure Raised where
  cls   : Nat
  arg   : Word
  queue : Nat := 0xFF
  seq   : Byte := 0
  deriving DecidableEq, Repr

/-- A core timer (R107, R127): expiry while armed, and when its last event was raised, in us since power-on. -/
structure CoreTimer where
  expiry : Option Nat := none
  last   : Option Nat := none
  deriving DecidableEq, Repr

/-- STATE of Pn_CR_STATUS. -/
inductive CoreSt where
  | stopped | loading | running | faulted
  deriving DecidableEq, Repr

/-- The Pn_CR (ADM_A) registers that hold a value of their own (05). -/
structure Cr where
  evt     : Half := 0
  ien     : Half := 0x0006
  rate    : Half := 0
  minrate : Half := 0xFFFF
  brkcnt  : Half := 0
  refcnt  : Half := 0
  lastbrk : Word := 0
  lbDeadline : Word := 0
  lbComplete : Word := 0
  /-- the job LASTBRK records, while its completion is outstanding -/
  lbId    : Option Nat := none
  lastref : Word := 0
  fault   : Word := 0
  fpc     : Word := 0
  fsteps  : Word := 0
  ftime   : Word := 0
  load    : Word := 0x00FF0000
  slack   : Word := 0
  tight   : Word := 0
  deriving DecidableEq, Repr

/-- One core (R85). -/
structure Core where
  g      : Vector Word 16 := Vector.replicate 16 0
  pc     : CodeAddr := 0
  ret    : List CodeAddr := []
  loops  : List LoopFrame := []
  timers : Vector CoreTimer 8 := Vector.replicate 8 {}
  awaits : List (Nat × Nat) := []
  run    : Option Handler := none
  jobs   : List Job := []
  reoffer : List Raised := []
  held   : List Raised := []
  coal   : List Coal := []
  nextId : Nat := 1
  code   : Cells := []
  data   : Cells := []
  /-- log buffer: record type and its 16 bytes (R116) -/
  logs   : List (Nat × List Byte) := []
  image  : Option LoadedImage := none
  paceAlarm : Bool := false
  paceGood  : Nat := 0
  st     : CoreSt := .stopped
  cr     : Cr := {}
  deriving DecidableEq, Repr

end Sys2Proof.Machine
end

