-- ==== Sys2Proof/Machine/DevState.lean ====
section
/-! DEFINITION. The state of the blocks that belong to the whole device: ledger, fabric, feeds and larder, flag units,
recovery, position, OTP, update and flash, global and host-bus registers, timebases, premove registers, pins.
Plain data; every register keeps its reset value as the default of its field. INVENTORY.md lists every field. -/

namespace Sys2Proof.Machine

/-- Levels of the balls and rails as the last command that carried them read them (log 3). -/
structure Pins where
  adr    : BitVec 3 := 0
  svcDet : Bool := false
  v5     : Nat := 0
  vhv    : Nat := 0
  vio    : Nat := 0
  vcore  : Nat := 0
  vhold  : Nat := 0
  vconn1 : Nat := 0
  vconn2 : Nat := 0
  dieT   : Int := 25
  /-- VIO at or above 1.65 V (R388) -/
  vioOk  : Bool := false
  /-- what the devices on QCS0 and QCS1 report (R340; log 10) -/
  flash0 : Option Sfdp := none
  flash1 : Option Sfdp := none
  deriving DecidableEq, Repr

/-- Where the device stands between power-on and running (R279, R312, R314, R357, R391-R394). -/
inductive DevPhase where
  | unpowered | startMode | sense | waitVio | bootRom | arbStart | fileStart | live | saving | parked | halt
  | service | provision
  deriving DecidableEq, Repr

/-! ### Ledger (10, R241 of 09) -/

/-- Cause of the cut deadline, LDG_STATUS.CAUSE. -/
inductive CutCause where
  | none | cutdly | lease
  deriving DecidableEq, Repr

/-- The ledger. A port's real reservation is the sum of the share its file core made and the share the arbiter made:
a restart releases the share of the core that restarts (R27, R308). -/
structure Ldg where
  cfg    : Half := 0x1901
  cfgS   : Half := 0x1901
  com    : Commit := {}
  prio   : Word := 0
  grant  : Vector Nat 8 := Vector.replicate 8 0
  rsvF   : Vector Nat 8 := Vector.replicate 8 0
  rsvA   : Vector Nat 8 := Vector.replicate 8 0
  overdrawn : Bool := false
  cutAt  : Option Word := none
  cause  : CutCause := .none
  /-- P_avail as it stood after the last ledger operation (LDG_EVT.AVAIL, R245) -/
  avail  : Nat := 0
  evt    : Half := 0
  ien    : Half := 0xFF04
  thcfg  : Vector Word 4 := Vector.replicate 4 0x8C780000
  thntc  : Vector Word 4 := Vector.replicate 4 0x0D4803E8
  /-- reported temperatures in 0.125 C -/
  tht    : Vector Half 4 := Vector.replicate 4 0
  thst   : Half := 0x00FF
  deriving DecidableEq, Repr

/-! ### Fabric (10) -/

/-- A child's lease (R242, R255): X_c, its expiry, F_c, and whether a floor has been received. -/
structure Child where
  x     : Nat := 0
  exp   : DWord := 0
  f     : Nat := 0
  known : Bool := false
  deriving DecidableEq, Repr

/-- A transaction entry (R258, R267, R320). -/
structure Txe where
  opn  : Bool := false
  pass : Bool := false
  link : Fin 2 := 0
  amt  : Nat := 0
  at'  : Word := 0
  /-- TAG and ORIGIN as the position shows them (R320; log 150) -/
  tag    : Byte := 0
  origin : BitVec 14 := 0
  deriving DecidableEq, Repr

/-- The fabric block. Queues are indexed by link: U, D0, D1. -/
structure Fab where
  cfg     : Half := 0x2007
  cfgS    : Half := 0x2007
  timing  : Word := 0x190320A5
  timingS : Word := 0x190320A5
  floor   : Word := 36000
  floorS  : Word := 36000
  rootcap  : Word := 0
  rootcapS : Word := 0
  lcap    : Vector Word 2 := Vector.replicate 2 0xFFFFFFFF
  lcapS   : Vector Word 2 := Vector.replicate 2 0xFFFFFFFF
  com     : Commit := {}
  addr    : Option (BitVec 14) := none
  /-- DST of the last TIME frames that differ from the own address, and how many in a row (R249) -/
  cand    : BitVec 14 := 0
  candN   : Nat := 0
  xin     : Nat := 0
  xexp    : DWord := 0
  child   : Vector Child 2 := Vector.replicate 2 {}
  txe     : Vector Txe 8 := Vector.replicate 8 {}
  shed    : Bool := false
  expired : Bool := false
  ftime   : DWord := 0
  /-- us the counter is ahead of the parent and still counts at half rate for (R254), and the half us kept -/
  ahead   : Nat := 0
  half    : Bool := false
  ftGood  : Nat := 0
  /-- us of the last TIME frame on U (R254) -/
  timeAt  : Option Nat := none
  ftlock  : Bool := false
  floorErr : Bool := false
  up      : Vector Bool 3 := Vector.replicate 3 false
  rxq     : Vector (List FFrame) 3 := Vector.replicate 3 []
  txq     : Vector (List FFrame) 3 := Vector.replicate 3 []
  /-- us the frame now leaving on each link has been on the wire (R248; log 2) -/
  txT     : Vector Nat 3 := Vector.replicate 3 0
  renewOut : Bool := false
  /-- the lease has expired since the last RENEW was sent: its ACK is dropped (R256) -/
  ackDead : Bool := false
  lamt    : Word := 0
  lexp    : DWord := 0
  lcmd    : CmdReg := {}
  lentry  : Fin 8 := 0
  llink   : Fin 2 := 0
  ftset   : DWord := 0
  evt     : Half := 0
  ien     : Half := 0x0046
  nRenew  : Byte := 0
  nDrop   : Byte := 0
  nCrcD   : Byte := 0
  nCrcU   : Byte := 0
  tdst    : Half := 0
  topl    : Half := 0
  taddr   : Half := 0
  ttag    : Byte := 0
  tdata   : Vector Byte 16 := Vector.replicate 16 0
  tcmd    : CmdReg := {}
  tunRun  : Bool := false
  /-- TAG, reply and time of the last tunnel request carried out here (R263) -/
  tunLast : Option (Byte × FFrame × Word) := none
  deriving DecidableEq, Repr

/-! ### Feeds and larder (11) -/

/-- One feed channel (R270-R273). -/
structure FeedSt where
  good   : Bool := false
  warn   : Bool := false
  on     : Bool := false
  revoff : Bool := false
  cap    : Word := 0
  capS   : Word := 0
  ew     : Word := 0x9C401414
  ewS    : Word := 0x9C401414
  fin    : Half := 0
  fout   : Half := 0
  i      : Half := 0
  pw     : Word := 0
  time   : Word := 0
  energy : BitVec 48 := 0
  res    : Nat := 0
  deriving DecidableEq, Repr

/-- A running save (R279): its cause, the record captured at the trigger, VHOLD at the trigger. -/
structure Saving where
  cause  : SaveCause
  record : List Byte
  vholdS : Nat
  deriving DecidableEq, Repr

/-- Feeds, VHOLD and larder. A larder slot is its bytes, none when it has never been written. -/
structure Fed where
  cfg     : Word := 0x14140A07
  cfgS    : Word := 0x14140A07
  f1      : FeedSt := {}
  f2      : FeedSt := {}
  buscap  : Word := 0xFFFFFFFF
  buscapS : Word := 0xFFFFFFFF
  shedcap  : Word := 0
  shedcapS : Word := 0
  lcfg    : Word := 0x002F5A28
  lcfgS   : Word := 0x002F5A28
  com     : Commit := {}
  ew      : Bool := false
  warmed  : Bool := false
  lowE    : Bool := true
  evt     : Half := 0
  ien     : Half := 0x0503
  /-- CMEAS in uF once a passage has completed (R276) -/
  cmeas   : Option Nat := none
  lcmd    : CmdReg := {}
  lseq    : Word := 0
  lcause  : Byte := 0
  outcome : Byte := 0
  dur     : Half := 0
  vholdS  : Half := 0
  vholdE  : Half := 0
  parkMs  : Word := 0
  /-- slow cycles of the last park; none when its count did not come to an end (R282) -/
  park    : Option Nat := none
  /-- the save trigger on VHV is armed (R389) -/
  armed   : Bool := false
  slot0   : List Byte := []
  slot1   : List Byte := []
  saving  : Option Saving := none
  deriving DecidableEq, Repr

/-! ### Flag units (12) -/

/-- STATE of FLG_cSTAT. -/
inductive FlagSt where
  | disarmed | first | running | fallen
  deriving DecidableEq, Repr

/-- One flag unit. `armNow` and `armSlow` are the counts of both timebases at arming: the unit's tick t is the
difference (R290). -/
structure FlagUnit where
  per      : Word := 10000
  cfg      : Half := 0x4000
  sloten   : Half := 0
  st       : FlagSt := .disarmed
  lastCause : Byte := 0
  clkmiss  : Bool := false
  misses   : Nat := 0
  armNow   : Word := 0
  armSlow  : Word := 0
  /-- start tick s of the period -/
  pstart   : Word := 0
  /-- tick in which the period closed: the next begins at the tick after it (R290) -/
  closing  : Option Word := none
  /-- slots enabled, window fraction and policy bits in force since arming (R288, R301) -/
  enabled  : Half := 0
  frac     : BitVec 2 := 0
  dupfall  : Bool := false
  proxyoff : Bool := false
  flagarb  : Bool := false
  done     : Half := 0
  dupm     : Half := 0
  proxm    : Half := 0
  last     : Vector Word 16 := Vector.replicate 16 0xFFFFFFFF
  cnt      : Vector Half 16 := Vector.replicate 16 0
  nFall    : Byte := 0
  nDup     : Byte := 0
  nProxy   : Byte := 0
  nStray   : Byte := 0
  /-- the flag record, 128 bytes once the unit has fallen (R299) -/
  record   : List Byte := []
  /-- us, tick and STATE before it of the last fall: a cause of the same tick that stands before the recorded one takes its
  place (R298) -/
  fellUs   : Option Nat := none
  fellTick : Word := 0
  fellSt   : FlagSt := .disarmed
  deriving DecidableEq, Repr

/-- The FLG block. `pulses`: the FLAG pulse requests that run, of units 0 to 8 and of rung 4 (9); requests of one unit may
overlap too (R300, R312). -/
structure Flg where
  units  : Vector FlagUnit 9 := Vector.replicate 9 {}
  evt    : Word := 0
  ien    : Word := 0x000001FF
  pulse  : Half := 10
  cmd    : CmdReg := {}
  unit   : BitVec 4 := 0
  rsel   : Byte := 0
  pulses : List (Fin 10) := []
  /-- proxy check-ins of this us that would be early: counted at its end, after the core's own (R292) -/
  proxies : List (Fin 9 × Fin 16) := []
  deriving DecidableEq, Repr

/-! ### Recovery and position (13) -/

/-- Restart stage of a file core (R306). -/
inductive Stage where
  | none | stopped | copying | starting
  deriving DecidableEq, Repr

/-- Stage of the arbiter (R308). -/
inductive ArbStage where
  | running | stopped | restarting
  deriving DecidableEq, Repr

/-- Rung 4 (R312): the FLAG pulse runs, or it is over and the 200 ms run. -/
inductive Rung4 where
  | none | pulse | wait
  deriving DecidableEq, Repr

/-- The REC block and the sequencer. Times are slow-timebase cycles. -/
structure Rec where
  cfg      : Half := 0x3201
  cmd      : CmdReg := {}
  arg      : Byte := 0
  fstop    : Byte := 0
  stage    : Vector Stage 8 := Vector.replicate 8 .none
  /-- the running restart of the core was asked for by a command or an activation, so not counted (R309) -/
  asked    : Vector Bool 8 := Vector.replicate 8 false
  fileTimes : Vector (List Word) 8 := Vector.replicate 8 []
  arb      : ArbStage := .running
  arbTimes : List Word := []
  r3time   : Option Word := none
  cause    : Half := 0x0001
  evt      : Half := 0
  ien      : Half := 0x003C
  rcnt     : Vector Byte 9 := Vector.replicate 9 0
  last     : Word := 0
  lastTime : Word := 0
  lastDur  : Word := 0
  outcnt   : Half := 0
  outms    : Word := 0
  boots    : Half := 0
  rung4    : Rung4 := .none
  /-- ports attached when the running device reset began, and its us (R315) -/
  outPorts : Byte := 0
  outFrom  : Nat := 0
  /-- a device reset (not a power-on reset) is running (R314) -/
  devReset : Bool := false
  deriving DecidableEq, Repr

/-- The POS block. -/
structure Pos where
  cmd   : CmdReg := {}
  ready : Bool := false
  busy  : Bool := false
  lost  : Bool := false
  taken : Word := 0
  image : List Byte := []
  /-- the us at whose end the state is latched (R316) -/
  latchAt : Option Word := none
  deriving DecidableEq, Repr

/-! ### OTP (14) -/

/-- One OTP word: its three copies as they read at normal and at strict margin (R325, R327). -/
structure OtpWord where
  n : Vector Word 3 := Vector.replicate 3 0
  s : Vector Word 3 := Vector.replicate 3 0
  deriving DecidableEq, Repr

/-- A controller command in progress (R332, R335, R338). -/
inductive OtpCmd where
  | readn | reads | program | sealRegion
  deriving DecidableEq, Repr

/-- The OTP. Words 0 to 255 data, 256 to 271 completion words, 272 to 287 lock fuses in bit 0 (R325). -/
structure Otp where
  cells   : Vector OtpWord 288 := Vector.replicate 288 {}
  waddr   : BitVec 9 := 0
  data    : Word := 0
  wmask   : Word := 0
  cmd     : CmdReg := {}
  rsn     : Byte := 0
  unlk    : Half := 0
  unlkArmed : Bool := false
  sticky  : Half := 0
  lockf   : Half := 0
  sealSt  : Word := 0
  weak    : Half := 0
  ovr     : Half := 0
  sensed  : Bool := false
  abandon : Bool := false
  trimsafe : Bool := false
  ctrlflt : Bool := false
  running : Option OtpCmd := none
  /-- OTP_ADDR and OTP_DATA as the running command took them -/
  runAddr : BitVec 9 := 0
  runData : Word := 0
  /-- key slots 0, 1 are unusable by a safe value (R328 region 3) -/
  keyBad  : BitVec 2 := 0
  evt     : Half := 0
  ien     : Half := 0x000E
  /-- resolved content of the 256 data words (R331), weak masks, completion words as sensed, override buffers -/
  shadow  : Vector Word 256 := Vector.replicate 256 0
  weakm   : Vector Word 256 := Vector.replicate 256 0
  compl   : Vector Word 16 := Vector.replicate 16 0
  ovrBuf  : Vector Word 256 := Vector.replicate 256 0
  deriving DecidableEq, Repr

/-! ### Update and flash (15) -/

/-- An image in a flash slot: header (256 bytes) and body. -/
structure Img where
  hdr      : List Byte
  body     : List Byte
  rejected : Bool := false
  /-- the Paltein image its body is, of an arbiter or file image (R343; log 13) -/
  pal      : Option PImage := none
  deriving DecidableEq, Repr

/-- The two slots (areas) of one kind; the confirmed slot and the pending (or trial) slot (R341, R345, R354). -/
structure KindSt where
  slots : Vector (Option Img) 2 := Vector.replicate 2 none
  conf  : Option (Fin 2) := none
  pend  : Option (Fin 2) := none
  /-- the slot that is neither the confirmed nor the trial one, and was booted in their place (R356 alternate) -/
  alt   : Option (Fin 2) := none
  deriving DecidableEq, Repr

/-- UPD_XFER.STATE. -/
inductive XferSt where
  | idle | erasing | receiving | ending | kept | installed
  deriving DecidableEq, Repr

/-- Step of an activation or fall-back (R352, R355). -/
inductive ActStep where
  | none | recheck | arbiter | loader | files
  deriving DecidableEq, Repr

/-- BOOT of UPD_STATUS. -/
inductive BootSt where
  | normal | service | provision | alternate
  deriving DecidableEq, Repr

/-- What a state-record copy of the directory says: the slot choices, the trial and the schedule (R341, R359; log 155). -/
structure DirRec where
  conf   : Vector (Option (Fin 2)) 3 := Vector.replicate 3 none
  pend   : Vector (Option (Fin 2)) 3 := Vector.replicate 3 none
  trial  : Bool := false
  tkinds : BitVec 3 := 0
  sched  : Bool := false
  schTime : DWord := 0
  schVer  : Vector Word 3 := Vector.replicate 3 0
  deriving DecidableEq, Repr

/-- The UPD block and the managed flash. -/
structure Upd where
  arb      : KindSt := {}
  file     : KindSt := {}
  set      : KindSt := {}
  staging  : Cells := []
  xfer     : XferSt := .idle
  xkind    : Option Kind := none
  xsrc     : BitVec 2 := 0
  chunkErr : Byte := 0
  chunkBusy : Bool := false
  boot     : BootSt := .normal
  fbcause  : BitVec 4 := 0
  svcOn    : Bool := false
  trial    : Bool := false
  /-- kinds on trial: arbiter, file, settings from bit 0 -/
  tkinds   : BitVec 3 := 0
  trialEnd : DWord := 0
  sched    : Bool := false
  acttime  : DWord := 0
  actver   : Vector Word 3 := Vector.replicate 3 0
  /-- the activation that is scheduled (R351) -/
  schTime  : DWord := 0
  schVer   : Vector Word 3 := Vector.replicate 3 0
  step     : ActStep := .none
  fallback : Bool := false
  late     : Bool := false
  /-- file cores whose turn in the activation has not come, and those passed over (R353) -/
  toRestart : Byte := 0
  passed    : Byte := 0
  /-- the core the activation is restarting now (R352 step 4) -/
  actPort   : Option (Fin 8) := none
  /-- the file image is in the set being activated (R352) -/
  actFile   : Bool := false
  ctl      : Word := 0x2581A002
  cmd      : CmdReg := {}
  rsn      : Byte := 0
  fan      : Bool := false
  confirm  : CmdReg := {}
  rdst     : Half := 0x3FFF
  repairs  : Half := 0
  /-- the fault-log ring of the managed flash, newest first, 32 bytes an entry (R341; log 75) -/
  ring     : List (List Byte) := []
  /-- the reset-cause record kept in flash says rung 4 (R315, R341; log 75) -/
  rung4Rec : Bool := false
  /-- the two state-record copies with their sequence numbers (R341), and one is to be read at the boot under way (R359) -/
  recs     : Vector (Option (Nat × DirRec)) 2 := Vector.replicate 2 none
  recDue   : Bool := false
  /-- sectors that fail their CRC on the device of QCS0 and of QCS1; set by no command, cleared by a write (R342; log 156) -/
  bad0     : List FlashSec := []
  bad1     : List FlashSec := []
  /-- the energy and session log rings, which the arbiter's firmware keeps (R341; log 75) -/
  energyLog  : List (List Byte) := []
  sessionLog : List (List Byte) := []
  mirror   : Bool := false
  dev0     : Bool := false
  dev1     : Bool := false
  evt      : Half := 0
  ien      : Half := 0x005A
  rchunk   : Vector Byte 16 := Vector.replicate 16 0
  chunk    : Vector Byte 32 := Vector.replicate 32 0
  /-- next relay frame (R350): none when no relay runs -/
  relay    : Option Nat := none
  /-- SEQ and response of the last service packet (R348) -/
  svcLast  : Option (Byte × List Byte) := none
  svcTx    : List Byte := []
  /-- digest of the arbiter image at its last full verification (R308) -/
  digest   : BitVec 256 := 0
  /-- the Paltein image of which the shared-SRAM copy was made, as the loader certified it (R306, R314) -/
  fileImg  : Option LoadedImage := none
  fileCode : List Word := []
  /-- RSN, SLOT, UTIL word, SLACK and TIGHT of that certification (Pn_CR_LOAD) -/
  fileLoad : Word × Word × Word := (0x00FF0000, 0, 0)
  deriving DecidableEq, Repr

/-! ### Global, host bus, timebases (16, 17), premove registers (06) -/

/-- GLB registers. -/
structure Glb where
  irqctl  : Half := 1
  evt     : Half := 0
  ien     : Half := 0x0001
  gcsel   : DWord := 0
  gcom    : CmdReg := {}
  gcres   : DWord := 0
  mbxcmd  : Vector Byte 32 := Vector.replicate 32 0
  mbxres  : Vector Byte 36 := Vector.replicate 36 0
  live    : Bool := false
  deriving DecidableEq, Repr

/-- A host address's interface (R14, R364): pointer, the holding copies of the registers it has captured, and the byte
driven last in a read. -/
structure HostIf where
  addr : BitVec 7
  ptr  : Half := 0
  hold : List (Nat × List Byte) := []
  out  : Byte := 0
  deriving DecidableEq, Repr

/-- HBS registers. `low`: bytes of wider registers written and not yet in effect (R15). -/
structure Hbs where
  cfg      : Half := 0x1902
  cfgS     : Half := 0x1902
  com      : Commit := {}
  page     : Half := 0
  adr      : BitVec 3 := 0
  modeNow  : Bool := false
  groupNow : Bool := true
  nSda     : Byte := 0
  nAck     : Byte := 0
  nFroz    : Byte := 0
  nScope   : Byte := 0
  evt      : Half := 0
  ien      : Half := 0x0001
  ifs      : List HostIf := []
  low      : List (Nat × Byte) := []
  deriving DecidableEq, Repr

/-- TMB registers. `slowAcc`: fraction of a slow cycle in millionths (log 2). -/
structure Tmb where
  cfg      : Half := 0x0001
  smsrc    : BitVec 4 := 0
  startmode : Bool := false
  slowok   : Bool := false
  xtalfail : Bool := false
  xtalok   : Bool := false
  mainsrc  : Bool := false
  /-- XTALEN as it stood at the last device reset (TMB_CFG) -/
  xtalen   : Bool := true
  slow     : Word := 0
  slowAcc  : Nat := 0
  smtime   : Word := 0
  evt      : Half := 0
  ien      : Half := 0x0006
  deriving DecidableEq, Repr

/-- PMV_n registers of one port. -/
structure PmvPort where
  played : Half := 0
  taken  : Half := 0
  last   : Word := 0
  ltime  : Word := 0
  hwmEff : Nat := 0
  hwmSto : Nat := 0
  /-- PMVEN as it stood at the last early decode (R147) -/
  en     : Bool := true
  deriving DecidableEq, Repr

/-- PMV block. -/
structure Pmv where
  ctl   : Half := 0x00FF
  evt   : Half := 0
  ien   : Half := 0
  ports : Vector PmvPort 8 := Vector.replicate 8 {}
  deriving DecidableEq, Repr

end Sys2Proof.Machine
end

