-- ==== Sys2Proof/Machine/State.lean ====
section
/-! DEFINITION. The whole state of the block, its faults and refusals, and the state after reset. -/

namespace Sys2Proof.Machine

/-- A word of memory as the error check of R122 sees it: a code word of a file core, a word of a core's data space below the
shared SRAM (the arbiter's code lies there), or a word of shared SRAM. -/
inductive RamWord where
  | code (c : CoreId) (w : Nat)
  | data (c : CoreId) (w : Nat)
  | shared (w : Nat)
  deriving DecidableEq, Repr

/-- The state of the T848. `pending` is the queue of waiting commands, first in first out. -/
structure State where
  ports   : Vector Port 8 := Vector.replicate 8 {}
  cores   : Vector Core 9 := Vector.replicate 9 {}
  /-- shared SRAM, 512 KB, offset from data address 0x0008_0000 (R90) -/
  sram    : Cells := []
  ldg     : Ldg := {}
  fab     : Fab := {}
  fed     : Fed := {}
  flg     : Flg := {}
  rcv     : Rec := {}
  pos     : Pos := {}
  otp     : Otp := {}
  upd     : Upd := {}
  glb     : Glb := {}
  hbs     : Hbs := {}
  tmb     : Tmb := {}
  pmv     : Pmv := {}
  hsel    : Half := 0
  pins    : Pins := {}
  /-- words in which an uncorrectable error stands; the environment's, changed by no command (R122; log 44) -/
  ramBad  : List RamWord := []
  /-- cores that the debug port holds halted, bit c for core c; the environment's, changed by no command (R296, R299; log 36) -/
  dbgHalt : Half := 0
  /-- fault-log entries in the AO tail buffer, newest first, 32 bytes each (R283) -/
  faultLog : List (List Byte) := []
  phase   : DevPhase := .sense
  /-- ARG of START in the boot under way: 0 cold, 1 restart, 2 warm (R125) -/
  bootArg : Word := 0
  /-- main-timebase us since the power-on reset; TMB_NOW is its low 32 bits -/
  us      : Nat := 0
  /-- the model's own: counts the free values taken (log 1) -/
  freeCtr : Nat := 0
  pending : List Instr := []
  deriving DecidableEq, Repr

/-- TMB_NOW: the main-timebase us (R24). -/
def State.now (s : State) : Word := BitVec.ofNat 32 s.us

/-- Faults of the model. No command of the table ends in one: the faults of R122 are events of a core, and every
refusal of the spec is a status or reason code in State. -/
inductive Fault where
  /-- raised by no command; kept so that the type of outcomes has a fault to name (safe: nothing reaches it) -/
  | unreachable
  deriving DecidableEq, Repr

/-- Refusals of the model. -/
inductive Refusal where
  /-- raised by the dispatcher for a command that has no meaning yet (safe: the block stops) -/
  | notModelled (mnemonic : String)
  deriving DecidableEq, Repr

/-- An OTP word that reads w in its three copies at both margins (R325, R327). -/
def OtpWord.blown (w : Word) : OtpWord := { n := Vector.replicate 3 w, s := Vector.replicate 3 w }

/-- The OTP of a T848 as Vexod ships it: EHEN and EPREN of region 2 blown, regions 0 to 2 sealed with the CRC-32 of
their 64 bytes as completion words, everything else blank (R326, R328, R329, R338). The trim and identity bytes of a
part are its own: 0 here (log 9). -/
def otpShipped : Vector OtpWord 288 :=
  let blank : Vector OtpWord 288 := Vector.replicate 288 {}
  let data := blank.set 32 (OtpWord.blown 3)
  let complete := ((data.set 256 (OtpWord.blown 0x758D6336)).set 257 (OtpWord.blown 0x758D6336)).set 258 (OtpWord.blown 0x3FA313C8)
  ((complete.set 272 (OtpWord.blown 1)).set 273 (OtpWord.blown 1)).set 274 (OtpWord.blown 1)

/-- The block at the release of a power-on reset (R392 step 3): the OTP sense is about to run, every register at its
reset value, nothing pending. Values the spec does not give are named in logs 2 to 10. -/
def State.reset : State := { otp := { cells := otpShipped } }

end Sys2Proof.Machine
end

