-- ==== Sys2Proof/Machine/Ops.lean ====
section
/-! DEFINITION. The named operations every family shares: bit fields, little-endian bytes, CRC-32, times, sparse memory,
and the update of one block of one port or core. -/

namespace Sys2Proof.Machine

/-! ### Bit fields and bytes -/

/-- The n-bit field of x that starts at bit lo, unsigned. -/
def fld {w : Nat} (x : BitVec w) (lo n : Nat) : Nat := (x.toNat >>> lo) % 2 ^ n

/-- x with the n-bit field at lo replaced by the low bits of v. -/
def setF {w : Nat} (x : BitVec w) (lo n v : Nat) : BitVec w :=
  (x &&& ~~~(BitVec.ofNat w (2 ^ n - 1) <<< lo)) ||| (BitVec.ofNat w (v % 2 ^ n) <<< lo)

/-- x with bit i set to b. -/
def setB {w : Nat} (x : BitVec w) (i : Nat) (b : Bool) : BitVec w := setF x i 1 b.toNat

/-- A counter that saturates at all ones. -/
def satInc {w : Nat} (x : BitVec w) : BitVec w := if x = BitVec.allOnes w then x else x + 1

/-- A saturating counter increased by n. -/
def satAdd {w : Nat} (x : BitVec w) (n : Nat) : BitVec w := BitVec.ofNat w (min (x.toNat + n) (2 ^ w - 1))

/-- The low n bytes of v, little-endian (R13). -/
def leBytes (n v : Nat) : List Byte := (List.range n).map fun i => BitVec.ofNat 8 (v >>> (8 * i))

/-- The value of little-endian bytes (R13). -/
def ofLe : List Byte → Nat
  | [] => 0
  | b :: t => b.toNat + 256 * ofLe t

/-- n bytes of a list, zero beyond its end. -/
def padTo (n : Nat) (l : List Byte) : List Byte := (List.range n).map fun i => l.getD i 0

/-- A list as a vector, zero beyond its end. -/
def toVec (n : Nat) (l : List Byte) : Vector Byte n := Vector.ofFn fun i => l.getD i.val 0

/-- Two's complement bits of an integer. -/
def ofInt (w : Nat) (x : Int) : BitVec w := BitVec.ofInt w x

/-- Division rounded up. -/
def ceilDiv (a b : Nat) : Nat := (a + b - 1) / b

/-- Nearest integer to a / b with halves away from zero, b above 0 (R215). -/
def roundDiv (a b : Int) : Int := if 0 ≤ a then (2 * a + b) / (2 * b) else -((2 * (-a) + b) / (2 * b))

/-- x held between lo and hi. -/
def clampI (lo hi x : Int) : Int := max lo (min hi x)

/-- Bits of a set of indexes below n. -/
def maskOf (w n : Nat) (f : Nat → Bool) : BitVec w :=
  BitVec.ofNat w ((List.range n).foldl (fun acc i => if f i then acc + 2 ^ i else acc) 0)

/-- CRC-32 of R251: one byte into the reflected register. -/
def crcByte (c : BitVec 32) (b : Byte) : BitVec 32 :=
  (List.range 8).foldl (fun x _ => if x.getLsbD 0 then (x >>> 1) ^^^ 0xEDB88320 else x >>> 1) (c ^^^ b.setWidth 32)

/-- CRC-32 of R251: polynomial 0x04C1_1DB7 reflected, initial value and final exclusive-OR all ones. -/
def crc32 (l : List Byte) : Word := (l.foldl crcByte 0xFFFFFFFF) ^^^ 0xFFFFFFFF

/-! ### Times -/

/-- Main-timebase us d is at or before now, within the last 2^31 us (R107). -/
def passed (d now : Word) : Bool := decide ((now - d).toNat < 2 ^ 31)

/-- Signed us from now to d. -/
def until' (now d : Word) : Int := (d - now).toInt

/-! ### Sparse memory (log 5): addresses strictly rising, no entry equal to what an unlisted address reads as -/

/-- The byte at an address. -/
def Mem.read (dflt : Byte) : Cells → Nat → Byte
  | [], _ => dflt
  | (a, b) :: t, x => if x = a then b else if x < a then dflt else Mem.read dflt t x

/-- Memory with the byte at an address replaced. -/
def Mem.write (dflt : Byte) : Cells → Nat → Byte → Cells
  | [], x, v => if v = dflt then [] else [(x, v)]
  | (a, b) :: t, x, v =>
    if x < a then (if v = dflt then (a, b) :: t else (x, v) :: (a, b) :: t)
    else if x = a then (if v = dflt then t else (x, v) :: t)
    else (a, b) :: Mem.write dflt t x v

/-- n bytes from an address on. -/
def Mem.reads (dflt : Byte) (m : Cells) (a n : Nat) : List Byte := (List.range n).map fun i => Mem.read dflt m (a + i)

/-- Memory with bytes written from an address on. -/
def Mem.writes (dflt : Byte) : Cells → Nat → List Byte → Cells
  | m, _, [] => m
  | m, a, b :: t => Mem.writes dflt (Mem.write dflt m a b) (a + 1) t

/-- All addresses of a memory are above lo, strictly rising, and no entry equals the default. -/
def Mem.wfAbove (dflt : Byte) (lo : Nat) : Cells → Bool
  | [] => true
  | (a, b) :: t => decide (lo ≤ a) && decide (b ≠ dflt) && Mem.wfAbove dflt (a + 1) t

/-- The canonical form of a memory. -/
def Mem.wf (dflt : Byte) (m : Cells) : Bool := Mem.wfAbove dflt 0 m

/-! ### One port, one core -/

/-- The port of index p. -/
def State.port (s : State) (p : PortId) : Port := s.ports[p]

/-- The state with port p replaced by f of it. -/
def State.modPort (s : State) (p : PortId) (f : Port → Port) : State :=
  { s with ports := s.ports.set p (f s.ports[p]) }

/-- The core of index c. -/
def State.core (s : State) (c : CoreId) : Core := s.cores[c]

/-- The state with core c replaced by f of it. -/
def State.modCore (s : State) (c : CoreId) (f : Core → Core) : State :=
  { s with cores := s.cores.set c (f s.cores[c]) }

def State.modTc (s : State) (p : PortId) (f : Tc → Tc) : State := s.modPort p fun P => { P with tc := f P.tc }
def State.modPd (s : State) (p : PortId) (f : Phy → Phy) : State := s.modPort p fun P => { P with pd := f P.pd }
def State.modCt (s : State) (p : PortId) (f : Ct → Ct) : State := s.modPort p fun P => { P with ct := f P.ct }
def State.modPw (s : State) (p : PortId) (f : Pw → Pw) : State := s.modPort p fun P => { P with pw := f P.pw }
def State.modSp (s : State) (p : PortId) (f : Sp → Sp) : State := s.modPort p fun P => { P with sp := f P.sp }
def State.modMn (s : State) (p : PortId) (f : Mn → Mn) : State := s.modPort p fun P => { P with mn := f P.mn }
def State.modMs (s : State) (p : PortId) (f : Ms → Ms) : State := s.modPort p fun P => { P with ms := f P.ms }

/-- The state with queue k of port p replaced by f of it. -/
def State.modQ (s : State) (p : PortId) (k : Fin 8) (f : Queue → Queue) : State :=
  s.modPort p fun P => { P with qs := P.qs.set k (f P.qs[k]) }

/-- Queue k of port p. -/
def State.queue (s : State) (p : PortId) (k : Fin 8) : Queue := (s.port p).qs[k]

def State.modLdg (s : State) (f : Ldg → Ldg) : State := { s with ldg := f s.ldg }
def State.modFab (s : State) (f : Fab → Fab) : State := { s with fab := f s.fab }
def State.modFed (s : State) (f : Fed → Fed) : State := { s with fed := f s.fed }
def State.modFlg (s : State) (f : Flg → Flg) : State := { s with flg := f s.flg }
def State.modRec (s : State) (f : Rec → Rec) : State := { s with rcv := f s.rcv }
def State.modOtp (s : State) (f : Otp → Otp) : State := { s with otp := f s.otp }
def State.modUpd (s : State) (f : Upd → Upd) : State := { s with upd := f s.upd }
def State.modGlb (s : State) (f : Glb → Glb) : State := { s with glb := f s.glb }
def State.modHbs (s : State) (f : Hbs → Hbs) : State := { s with hbs := f s.hbs }
def State.modTmb (s : State) (f : Tmb → Tmb) : State := { s with tmb := f s.tmb }
def State.modPins (s : State) (f : Pins → Pins) : State := { s with pins := f s.pins }

/-- The PMV registers of port p changed. -/
def State.modPmv (s : State) (p : PortId) (f : PmvPort → PmvPort) : State :=
  { s with pmv := { s.pmv with ports := s.pmv.ports.set p (f s.pmv.ports[p]) } }

/-- The flag unit of core c changed. -/
def State.modUnit (s : State) (c : CoreId) (f : FlagUnit → FlagUnit) : State :=
  s.modFlg fun F => { F with units := F.units.set c (f F.units[c]) }

/-- One operation after the other for every port, A to H. -/
def State.forPorts (s : State) (f : State → PortId → State) : State := (List.finRange 8).foldl f s

/-- One operation after the other for every core, A to H and then the arbiter. -/
def State.forCores (s : State) (f : State → CoreId → State) : State := (List.finRange 9).foldl f s

/-- The port of a file core; none for the arbiter. -/
def corePort (c : CoreId) : Option PortId := if h : c.val < 8 then some ⟨c.val, h⟩ else none

/-- Ports E to H are present on the part: EHEN of the region 2 shadow (R5, R329). -/
def State.ehen (s : State) : Bool := s.otp.shadow[32].getLsbD 0

/-- EPR is available on the part: EPREN of the region 2 shadow (R6, R329). -/
def State.epren (s : State) : Bool := s.otp.shadow[32].getLsbD 1

/-- Port p is present (R5). -/
def State.present (s : State) (p : PortId) : Bool := decide (p.val < 4) || s.ehen

/-- One operation after the other for every port that is present, A to H (R5). -/
def State.forPresent (s : State) (f : State → PortId → State) : State :=
  s.forPorts fun s p => if s.present p then f s p else s

/-- Bits of the ports that are present (R5). -/
def State.portMask (s : State) : Nat := if s.ehen then 0xFF else 0x0F

/-- Core c is present: the file cores of ports E to H go with their ports (R5). -/
def State.corePresent (s : State) (c : CoreId) : Bool := decide (c.val < 4) || decide (c.val = 8) || s.ehen

/-- The debug port holds core c halted (R296; log 36). -/
def State.halted (s : State) (c : CoreId) : Bool := s.dbgHalt.getLsbD c.val

/-- The next free value of the model as a byte (log 1). -/
def State.freeByte (s : State) : Byte × State := (Config.freeByte s.freeCtr, { s with freeCtr := s.freeCtr + 1 })

/-! ### The fault log (R116, R283, R341) -/

/-- An entry of the fault log (R283 FAULTS). -/
def State.faultEntry (s : State) (c : CoreId) (typ : Byte) (b : List Byte) : List Byte :=
  leBytes 8 s.fab.ftime.toNat ++ [BitVec.ofNat 8 c.val, typ, 0, 0] ++ leBytes 4 s.now.toNat ++ padTo 16 b

/-- A sector can be read: it fits its CRC on a usable device (R342). -/
def Upd.secOk (u : Upd) (x : FlashSec) : Bool := (u.dev0 && !u.bad0.contains x) || (u.dev1 && !u.bad1.contains x)

/-- A read has found these sectors failing, on each device (R342); what failed before still does, until it is rewritten. -/
def Upd.found (u : Upd) (bad0 bad1 : List FlashSec) : Upd :=
  { u with bad0 := bad0.filter (fun x => !u.bad0.contains x) ++ u.bad0, bad1 := bad1.filter (fun x => !u.bad1.contains x) ++ u.bad1 }

/-- Sectors are read: one that fails on one device of a mirrored pair is rewritten there from the other, and REPAIRS counts it
(R342). -/
def Upd.readSecs (u : Upd) (l : List FlashSec) : Upd :=
  l.foldl (fun u x =>
    if u.mirror ∧ (u.bad0.contains x != u.bad1.contains x) then
      { u with bad0 := u.bad0.filter (fun y => decide (y ≠ x)), bad1 := u.bad1.filter (fun y => decide (y ≠ x))
               repairs := satInc u.repairs }
    else u) u

/-- Sectors are written, on every usable device, with their entries of the sector CRC table (R340, R342). -/
def Upd.wroteSecs (u : Upd) (l : List FlashSec) : Upd :=
  { u with
    bad0 := if u.dev0 then u.bad0.filter fun y => !l.contains y else u.bad0
    bad1 := if u.dev1 then u.bad1.filter fun y => !l.contains y else u.bad1 }

/-- Entries of 32 bytes the fault-log ring holds (R341: 8 MB). -/
def ringSize : Nat := 0x800000 / 32

/-- Entries, newest first, join the fault-log ring, which loses its oldest ones when it is full; without a usable flash
device nothing is written (R340, R341; log 75). -/
def Upd.log (u : Upd) (es : List (List Byte)) : Upd :=
  if u.dev0 || u.dev1 then { u with ring := (es ++ u.ring).take ringSize } else u

/-- An entry joins the ring and the AO tail, which holds the last 64 (R116, R283). -/
def State.faultAdd (s : State) (e : List Byte) : State :=
  { s with faultLog := (e :: s.faultLog).take 64, upd := s.upd.log [e] }

/-- A fault-log record of core c whose type and layout the spec does not state: a free type, the bytes first (log 1). -/
def State.faultFree (s : State) (c : CoreId) (b : List Byte) : State :=
  let t := s.freeByte
  t.2.faultAdd (t.2.faultEntry c t.1 b)

/-- The LINK domain runs: the ports are live (R26, R314 step 6, R392 step 8). -/
def State.linkUp (s : State) : Bool := decide (s.phase = .live)

end Sys2Proof.Machine
end

