-- ==== Sys2Proof/Machine/Encoding.lean ====
section
/-! DEFINITION. Paltein words (R93): the five forms, the legal words (R94, R95, R100-R110, R112-R116), step costs (R96),
and the code words a core may not encode (R106, R108, R112, R114, R116). -/

namespace Sys2Proof.Machine

/-! ### The five forms (R93) -/

def encA (op : Nat) (f : FormA) : Word := (BitVec.ofNat 6 op ++ f.d ++ f.a ++ f.b ++ f.sub : BitVec (6 + 4 + 4 + 4 + 14))
def encI (op : Nat) (f : FormI) : Word := (BitVec.ofNat 6 op ++ f.d ++ f.a ++ f.imm : BitVec (6 + 4 + 4 + 18))
def encB (op : Nat) (f : FormB) : Word := (BitVec.ofNat 6 op ++ f.cond ++ f.a ++ f.b ++ f.off : BitVec (6 + 4 + 4 + 4 + 14))
def encL (op : Nat) (f : FormL) : Word := (BitVec.ofNat 6 op ++ f.ctr ++ f.max ++ f.len : BitVec (6 + 4 + 10 + 12))
def encQ (op : Nat) (f : FormQ) : Word := (BitVec.ofNat 6 op ++ f.d ++ f.a ++ f.n ++ f.sub : BitVec (6 + 4 + 4 + 6 + 12))

def decA (w : Word) : FormA :=
  { d := w.extractLsb' 22 4, a := w.extractLsb' 18 4, b := w.extractLsb' 14 4, sub := w.extractLsb' 0 14 }
def decI (w : Word) : FormI := { d := w.extractLsb' 22 4, a := w.extractLsb' 18 4, imm := w.extractLsb' 0 18 }
def decB (w : Word) : FormB :=
  { cond := w.extractLsb' 22 4, a := w.extractLsb' 18 4, b := w.extractLsb' 14 4, off := w.extractLsb' 0 14 }
def decL (w : Word) : FormL := { ctr := w.extractLsb' 22 4, max := w.extractLsb' 12 10, len := w.extractLsb' 0 12 }
def decQ (w : Word) : FormQ :=
  { d := w.extractLsb' 22 4, a := w.extractLsb' 18 4, n := w.extractLsb' 12 6, sub := w.extractLsb' 0 12 }

/-! ### Rows that are one form of an instruction: the field that selects the form -/

/-- A word's form bit. -/
def selBit (f : FormQ) (i : Nat) (b : Bool) : FormQ := { f with sub := setB f.sub i b }

/-- A word's function or quantity field. -/
def selSub (f : FormQ) (lo n v : Nat) : FormQ := { f with sub := setF f.sub lo n v }

/-- A word that names actuator j (the low three bits of n). -/
def selAct (f : FormQ) (j : Nat) : FormQ := { f with n := setF f.n 0 3 j }

/-! ### Fields of a word by position -/

def wOp (w : Word) : Nat := fld w 26 6
def wD (w : Word) : Nat := fld w 22 4
def wA (w : Word) : Nat := fld w 18 4
def wB (w : Word) : Nat := fld w 14 4
def wN (w : Word) : Nat := fld w 12 6
def wSub14 (w : Word) : Nat := fld w 0 14
def wSub12 (w : Word) : Nat := fld w 0 12
def wImm (w : Word) : Nat := fld w 0 18
def wMax (w : Word) : Nat := fld w 12 10

/-- imm18 sign-extended to 32 bits (R95). -/
def immS (w : Word) : Word := (w.extractLsb' 0 18).signExtend 32

/-! ### Legal words -/

/-- A word that breaks R94: an undefined opcode, a non-zero unused field, or a value outside a field's stated range. -/
def wordBad (w : Word) : Bool :=
  let op := wOp w
  let d := wD w
  let a := wA w
  let b := wB w
  let n := wN w
  let s := wSub12 w
  if op = 0 then true
  else if op ≤ 0x17 then decide (wSub14 w ≠ 0)
  else if 0x1C ≤ op ∧ op ≤ 0x1E then decide (32 ≤ wImm w)
  else if op = 0x1F then decide (a ≠ 0)
  else if op ≤ 0x2A then false
  else if op ≤ 0x2D then decide (fld w 10 4 ≠ 0 ∨ b ≠ 0 ∨ 32 < fld w 5 5 + fld w 0 5 + 1)
  else if op = 0x2E then decide (wSub14 w = 0 ∨ 8 < d ∨ (d = 0 ∧ (a ≠ 0 ∨ b ≠ 0)))
  else if op = 0x2F then decide (d = 0 ∨ wMax w = 0 ∨ s = 0)
  else if op = 0x30 then decide (d ≠ 0 ∨ a ≠ 0)
  else if op ≤ 0x32 then decide (fld w 0 26 ≠ 0)
  else if op = 0x33 then decide (d ≠ 0 ∨ a ≠ 0 ∨ fld w 0 6 ≠ 0)
  else if op = 0x34 then decide (d ≠ 0 ∨ 7 < n ∨ 1 < s)
  else if op = 0x35 then decide (d ≠ 0 ∨ a ≠ 0 ∨ 7 < n ∨ s ≠ 0)
  else if op = 0x36 then decide (fld w 0 22 ≠ 0)
  else if op ≤ 0x38 then decide (s ≠ 0)
  else if op = 0x39 then
    decide (fld w 7 4 ≠ 0 ∨ fld w 3 1 ≠ 0 ∨ (fld w 11 1 = 1 ∧ fld w 0 3 ≠ 0) ∨ (fld w 11 1 = 0 ∧ fld w 4 3 ≠ 0))
  else if op ≤ 0x3B then decide (s ≠ 0 ∨ 8 < n)
  else if op = 0x3C then decide (1 < s ∨ 8 < n)
  else if op = 0x3D then decide (5 < s ∨ (8 < n ∧ n ≠ 63) ∨ (n ≠ 63 ∧ a ≠ 0))
  else if op = 0x3E then decide (s ≠ 0)
  else decide (fld w 0 8 ≠ 0 ∨ 3 < fld w 8 4 ∨ (fld w 8 4 = 0 ∧ (d ≠ 0 ∨ a ≠ 0)) ∨ (2 ≤ fld w 8 4 ∧ 2 < n))

/-- A word whose fields the loader refuses on the core it is for (R108, R112, R114, R116). -/
def scopeBad (arb : Bool) (w : Word) : Bool :=
  let op := wOp w
  let n := wN w
  let f := fld w 8 4
  if (0x37 ≤ op ∧ op ≤ 0x39) ∨ op = 0x3E then !arb && decide (7 < n)
  else if 0x3A ≤ op ∧ op ≤ 0x3C then if arb then decide (n = 8) else decide (n ≠ 8)
  else if op = 0x3D then arb && decide (n = 8)
  else if op = 0x3F then
    (decide (f = 0) && decide ((if arb then 15 else 7) < n)) || (!arb && decide (f = 2 ∨ f = 3))
  else false

/-- Step cost of a word (R96); `taken` is for BR and for a LOOP that runs zero times. -/
def wordCost (w : Word) (taken : Bool) : Nat :=
  let op := wOp w
  if op = 0x11 ∨ op = 0x12 ∨ op = 0x13 ∨ op = 0x22 then 2
  else if 0x14 ≤ op ∧ op ≤ 0x17 then 12
  else if 0x23 ≤ op ∧ op ≤ 0x2A then 2
  else if op = 0x2E then (if taken then 2 else 1)
  else if op = 0x2F then (if taken then 3 else 1)
  else if op = 0x30 ∨ op = 0x31 ∨ op = 0x33 then 3
  else if op = 0x34 ∨ op = 0x35 then 2
  else if 0x37 ≤ op ∧ op ≤ 0x39 then 4
  else if 0x3A ≤ op ∧ op ≤ 0x3D then 3
  else if op = 0x3E then 2
  else if op = 0x3F then (if fld w 8 4 = 0 then 2 else 4)
  else 1

end Sys2Proof.Machine
end

