-- ==== Sys2Proof/Decode.lean ====
section
/-! DEFINITION. Words and commands. The table gives its rows no bits, so no word of the host's numbering spells a command.
The Paltein rows have words of their own (R93, R97): their encoder, and the decoder total on every word. -/

namespace Sys2Proof

open Sys2Proof.Machine

/-- The command a word of the table's bits spells: no row of spec/opcode_table.json gives bits. -/
def decodeTableWord (_nbits _w : Nat) : Option Instr := none

/-! ### Paltein words (R93, R97) -/

/-- The core that executes a Paltein row, and the row's word, in which the bits that tell the row from its neighbours of one
opcode have the row's values whatever the operand holds; none for every other command. -/
def encodeWord : Instr → Option (CoreId × Word)
  | .add c f => some (c, encA 0x01 f)
  | .sub c f => some (c, encA 0x02 f)
  | .and c f => some (c, encA 0x03 f)
  | .or c f => some (c, encA 0x04 f)
  | .xor c f => some (c, encA 0x05 f)
  | .shl c f => some (c, encA 0x06 f)
  | .shr c f => some (c, encA 0x07 f)
  | .sar c f => some (c, encA 0x08 f)
  | .slt c f => some (c, encA 0x09 f)
  | .sltu c f => some (c, encA 0x0A f)
  | .min c f => some (c, encA 0x0B f)
  | .max c f => some (c, encA 0x0C f)
  | .minu c f => some (c, encA 0x0D f)
  | .maxu c f => some (c, encA 0x0E f)
  | .addsu c f => some (c, encA 0x0F f)
  | .subsu c f => some (c, encA 0x10 f)
  | .mul c f => some (c, encA 0x11 f)
  | .mulh c f => some (c, encA 0x12 f)
  | .mulhu c f => some (c, encA 0x13 f)
  | .div c f => some (c, encA 0x14 f)
  | .divu c f => some (c, encA 0x15 f)
  | .rem c f => some (c, encA 0x16 f)
  | .remu c f => some (c, encA 0x17 f)
  | .addi c f => some (c, encI 0x18 f)
  | .andi c f => some (c, encI 0x19 f)
  | .ori c f => some (c, encI 0x1A f)
  | .xori c f => some (c, encI 0x1B f)
  | .shli c f => some (c, encI 0x1C f)
  | .shri c f => some (c, encI 0x1D f)
  | .sari c f => some (c, encI 0x1E f)
  | .lui c f => some (c, encI 0x1F f)
  | .slti c f => some (c, encI 0x20 f)
  | .sltiu c f => some (c, encI 0x21 f)
  | .muli c f => some (c, encI 0x22 f)
  | .ldw c f => some (c, encI 0x23 f)
  | .ldh c f => some (c, encI 0x24 f)
  | .ldhs c f => some (c, encI 0x25 f)
  | .ldb c f => some (c, encI 0x26 f)
  | .ldbs c f => some (c, encI 0x27 f)
  | .stw c f => some (c, encI 0x28 f)
  | .sth c f => some (c, encI 0x29 f)
  | .stb c f => some (c, encI 0x2A f)
  | .ext c f => some (c, encA 0x2B f)
  | .exts c f => some (c, encA 0x2C f)
  | .ins c f => some (c, encA 0x2D f)
  | .br c f => some (c, encB 0x2E f)
  | .loop c f => some (c, encL 0x2F f)
  | .call c f => some (c, encI 0x30 f)
  | .ret c f => some (c, encA 0x31 f)
  | .endI c f => some (c, encA 0x32 f)
  | .await c f => some (c, encQ 0x33 f)
  | .tsetRelative c f => some (c, encQ 0x34 (selBit f 0 false))
  | .tsetAbsolute c f => some (c, encQ 0x34 (selBit f 0 true))
  | .tclr c f => some (c, encQ 0x35 f)
  | .tevt c f => some (c, encA 0x36 f)
  | .qpush c f => some (c, encQ 0x37 f)
  | .qpop c f => some (c, encQ 0x38 f)
  | .qpeekEvent c f => some (c, encQ 0x39 (selBit f 11 true))
  | .qpeekSlot c f => some (c, encQ 0x39 (selBit f 11 false))
  | .lrsv c f => some (c, encQ 0x3A f)
  | .lcmt c f => some (c, encQ 0x3B f)
  | .lrelGrant c f => some (c, encQ 0x3C (selBit f 0 false))
  | .lrelReservation c f => some (c, encQ 0x3C (selBit f 0 true))
  | .lrdGrant c f => some (c, encQ 0x3D (selSub f 0 4 0))
  | .lrdReservation c f => some (c, encQ 0x3D (selSub f 0 4 1))
  | .lrdCeiling c f => some (c, encQ 0x3D (selSub f 0 4 2))
  | .lrdAvailable c f => some (c, encQ 0x3D (selSub f 0 4 3))
  | .lrdGrantSum c f => some (c, encQ 0x3D (selSub f 0 4 4))
  | .lrdHeadroom c f => some (c, encQ 0x3D (selSub f 0 4 5))
  | .actVset c f => some (c, encQ 0x3E (selAct f 0))
  | .actIlim c f => some (c, encQ 0x3E (selAct f 1))
  | .actConv c f => some (c, encQ 0x3E (selAct f 2))
  | .actGateOff c f => some (c, encQ 0x3E (selAct f 3))
  | .actGateSourceOn c f => some (c, encQ 0x3E (selAct f 3))
  | .actGateIdealDiode c f => some (c, encQ 0x3E (selAct f 3))
  | .actDsc c f => some (c, encQ 0x3E (selAct f 4))
  | .actVconn c f => some (c, encQ 0x3E (selAct f 5))
  | .chk c f => some (c, encQ 0x3F (selSub f 8 4 0))
  | .log c f => some (c, encQ 0x3F (selSub f 8 4 1))
  | .fsend c f => some (c, encQ 0x3F (selSub f 8 4 2))
  | .frecv c f => some (c, encQ 0x3F (selSub f 8 4 3))
  | .handlerDispatch _ | .premoveStallEnd _ _ _ | .coreTimerExpiry _ _ | .coalesceIntervalEnd _ _
  | .eventReoffer _ _ | .brokenPromise _ | .paceSample _ _ | .frameReceived _ _ | .earlyDecode _ _ _ _
  | .invalidSymbol _ | .lineIdleTimeout _ | .goodcrcTransmit _ | .goodcrcReceive _ _ _ | .txStart _ | .txFrameEnd _
  | .treceiveExpiry _ | .amsHoldExpiry _ | .sinkTxOkElapsed _ | .hardResetReceived _ | .hardResetDuringReset _
  | .cableResetReceived _ | .sendHardReset _ | .hardResetTransmit _ | .sendCableReset _ | .cableResetTransmit _
  | .bistCarrier _ | .bistCarrierEnd _ | .bistTestData _ | .amsEnd _ | .hrDone _ | .push _ _ | .pop _ _
  | .clrovf _ _ | .rxReoffer _ _ | .ccTerminationChange _ _ _ | .ccOverVoltage _ _ | .ccIsolationClose _ _
  | .tccDebounceExpiry _ _ | .tpdDebounceExpiry _ | .ttryCcDebounceExpiry _ | .tdrpToggle _ | .tdrpTryExpiry _
  | .ttryTimeout _ | .srcDisconnect _ | .snkVbusLost _ _ | .vbusOnTimeout _ _ | .srcAttachVbLow _ _
  | .terrorRecoveryExpiry _ | .wetCheckEnd _ _ | .wetCheckSbuOv _ | .wetRecheck _ | .wetCheckNow _ | .wetOverride _
  | .vconnOcTrip _ | .vconnReverse _ | .vconnInputUv _ | .tcCommit _ | .pdCommit _ | .pwCommit _ | .spCommit _
  | .mnCommit _ | .ldgCommit | .fabCommit | .fedCommit | .hbsCommit | .revert _ | .movingTimeout _
  | .ppsGuardExpiry _ | .eprGuardExpiry _ | .prsBegin _ | .term _ | .swapEnd _ | .errrec _ | .swapBackstopExpiry _
  | .safe0 _ _ | .frsSignal _ | .fastSourcing _ _ | .fastSourcingHoldoffEnd _ | .hrPsHardReset _ | .hrSafe0 _ _
  | .hrgoSource _ | .hrTurnOnTimeout _ | .hrgoSink _ _ | .hrSinkTimeout _ _ | .penWrite _ _ _ | .rsnsWrite _ _
  | .turnOnCheckDone _ | .noconv _ | .holdoffEnd _ | .gateBRisen _ | .inrushEnd _ | .limitLoopEngage _
  | .limitLoopRelease _ | .faultTimerExpiry _ | .hardshort _ | .gwrVgs _ | .gwrVds _ | .pumpuv _ | .passshort _
  | .idealDiodeReverseOff _ | .idealDiodeResume _ | .v5GateDrop | .ibaseHoldExpiry _ | .dscdone _ _ | .dscfault _
  | .slewEnd _ | .trimEval _ | .adcFrame _ _ _ _ | .averageUpdate | .derateEval _ | .monitorTick _ _ _
  | .monitorPeriodStart _ | .stest _ | .selfTestEnd _ | .ecmdClear _ | .thermCfgWrite _ _ | .thermNtcWrite _ _
  | .ledgerCut | .linkUp _ | .linkDown _ | .frameForward _ _ | .time _ | .timeSend | .ftlockLost | .leaseRenew _ _
  | .renewSend | .renewTimeout | .ack _ | .leaseReturn _ _ | .leaseReq _ _ | .leaseGrant _ _ | .nak _ _
  | .updAct _ _ | .regTunnel _ _ | .tunnelReply _ | .tunnelSend | .tunnelTimeout | .shedPoint | .leaseExpiry
  | .childLeaseExpiry _ | .transactionTimeout _ | .rsvTop | .rsvPass | .commit | .rollback | .owngrant | .returnI
  | .ftset _ | .feedReverseOff _ | .feedResume _ | .feedGood _ | .feedWarnStart _ | .feedWarnEnd _
  | .cmeasPassage _ | .saveTrigger _ | .save | .saveWriteDone _ _ | .saveAbandon | .warmStart _ | .parkPowerLoss
  | .saveArm | .proxyCheckin _ _ | .flagLate _ | .flagClockCheck _ _ | .flagForce | .flagPulseEnd _
  | .restartCore _ | .reinitPort _ | .restartArb _ | .releaseCore _ | .deviceReset _ | .powerCycle _
  | .coreRestartBegin _ | .coreRestartLoaded _ _ | .restartBoundExpiry _ | .arbiterRestartLoaded _ _ | .haltEntry
  | .rstNPulse _ | .otpSenseDone | .arbiterImageVerified _ | .fileImageCertified _ | .portsLive | .take | .release
  | .positionReady | .readn | .reads | .program | .sealRegion | .otpCommandEnd _ _ | .otpOvrWrite _
  | .otpStickyWrite _ | .otpUnlkWrite _ | .updBegin | .updEnd | .updAbort | .updErase | .schedule | .cancel
  | .updRollback | .relay | .relayFrameSend | .confirm | .hostChunk _ _ | .installDone _ | .stagingErased
  | .activationStart | .activationRecheck | .quietPortRestart _ | .trialEnd | .svcDetect | .svcLost | .svcPacketGap
  | .svcHello _ | .svcWrite _ | .svcBegin _ | .svcEnd _ | .svcStatus _ | .svcSchedule _ | .svcConfirm _
  | .svcRollback _ | .svcAbort _ | .svcBaud _ | .registerWrite _ _ _ _ _ | .rcRead _ _ | .sdaTimeout _
  | .groupCommit | .mailboxIssue _ | .portsOff _ _ | .commitPorts _ _ _ | .eclear _ _ | .revertPorts _ _ _
  | .powerOnReset _ | .startModeEntry _ | .startModeExit _ _ | .vioLoss | .vioReturn | .xtalSwitch | .xtalFail
  | .sinkVbusDetect _ _ | .fabricFrameDiscard _ | .svcPacketDiscard | .chunkWriteDone | .lowenergyChange _
  | .startModeLoss => none

/-- The row of a queue, ledger, actuator or SYS word (opcodes 0x33 to 0x3F but 0x36), by its form field. -/
def decodeQ (c : CoreId) (op : Nat) (f : FormQ) : Option Instr :=
  match op with
  | 0x33 => some (.await c f)
  | 0x34 => some (if f.sub.getLsbD 0 then .tsetAbsolute c f else .tsetRelative c f)
  | 0x35 => some (.tclr c f)
  | 0x37 => some (.qpush c f)
  | 0x38 => some (.qpop c f)
  | 0x39 => some (if f.sub.getLsbD 11 then .qpeekEvent c f else .qpeekSlot c f)
  | 0x3A => some (.lrsv c f)
  | 0x3B => some (.lcmt c f)
  | 0x3C => some (if f.sub.getLsbD 0 then .lrelReservation c f else .lrelGrant c f)
  | 0x3D => match fld f.sub 0 4 with
    | 0 => some (.lrdGrant c f)
    | 1 => some (.lrdReservation c f)
    | 2 => some (.lrdCeiling c f)
    | 3 => some (.lrdAvailable c f)
    | 4 => some (.lrdGrantSum c f)
    | 5 => some (.lrdHeadroom c f)
    | _ => none
  | 0x3E => match fld f.n 0 3 with
    | 0 => some (.actVset c f)
    | 1 => some (.actIlim c f)
    | 2 => some (.actConv c f)
    | 3 => some (.actGateOff c f)
    | 4 => some (.actDsc c f)
    | 5 => some (.actVconn c f)
    | _ => none
  | 0x3F => match fld f.sub 8 4 with
    | 0 => some (.chk c f)
    | 1 => some (.log c f)
    | 2 => some (.fsend c f)
    | 3 => some (.frecv c f)
    | _ => none
  | _ => none

/-- The row a legal Paltein word spells on core c. The three GATE rows share one word, told apart by the value in g[a]
(R114): the word decodes to the first. A reserved actuator number has no row; the word runs and returns NOT_PERMITTED. -/
def decodeWord (c : CoreId) (w : Word) : Option Instr :=
  if wordBad w then none
  else match wOp w with
  | 0x01 => some (.add c (decA w))
  | 0x02 => some (.sub c (decA w))
  | 0x03 => some (.and c (decA w))
  | 0x04 => some (.or c (decA w))
  | 0x05 => some (.xor c (decA w))
  | 0x06 => some (.shl c (decA w))
  | 0x07 => some (.shr c (decA w))
  | 0x08 => some (.sar c (decA w))
  | 0x09 => some (.slt c (decA w))
  | 0x0A => some (.sltu c (decA w))
  | 0x0B => some (.min c (decA w))
  | 0x0C => some (.max c (decA w))
  | 0x0D => some (.minu c (decA w))
  | 0x0E => some (.maxu c (decA w))
  | 0x0F => some (.addsu c (decA w))
  | 0x10 => some (.subsu c (decA w))
  | 0x11 => some (.mul c (decA w))
  | 0x12 => some (.mulh c (decA w))
  | 0x13 => some (.mulhu c (decA w))
  | 0x14 => some (.div c (decA w))
  | 0x15 => some (.divu c (decA w))
  | 0x16 => some (.rem c (decA w))
  | 0x17 => some (.remu c (decA w))
  | 0x18 => some (.addi c (decI w))
  | 0x19 => some (.andi c (decI w))
  | 0x1A => some (.ori c (decI w))
  | 0x1B => some (.xori c (decI w))
  | 0x1C => some (.shli c (decI w))
  | 0x1D => some (.shri c (decI w))
  | 0x1E => some (.sari c (decI w))
  | 0x1F => some (.lui c (decI w))
  | 0x20 => some (.slti c (decI w))
  | 0x21 => some (.sltiu c (decI w))
  | 0x22 => some (.muli c (decI w))
  | 0x23 => some (.ldw c (decI w))
  | 0x24 => some (.ldh c (decI w))
  | 0x25 => some (.ldhs c (decI w))
  | 0x26 => some (.ldb c (decI w))
  | 0x27 => some (.ldbs c (decI w))
  | 0x28 => some (.stw c (decI w))
  | 0x29 => some (.sth c (decI w))
  | 0x2A => some (.stb c (decI w))
  | 0x2B => some (.ext c (decA w))
  | 0x2C => some (.exts c (decA w))
  | 0x2D => some (.ins c (decA w))
  | 0x2E => some (.br c (decB w))
  | 0x2F => some (.loop c (decL w))
  | 0x30 => some (.call c (decI w))
  | 0x31 => some (.ret c (decA w))
  | 0x32 => some (.endI c (decA w))
  | 0x36 => some (.tevt c (decA w))
  | op => decodeQ c op (decQ w)

/-- The row a Paltein command stands for: its form field selects it. -/
def formOk : Instr → Bool
  | .tsetRelative _ f => !f.sub.getLsbD 0
  | .tsetAbsolute _ f => f.sub.getLsbD 0
  | .qpeekEvent _ f => f.sub.getLsbD 11
  | .qpeekSlot _ f => !f.sub.getLsbD 11
  | .lrelGrant _ f => !f.sub.getLsbD 0
  | .lrelReservation _ f => f.sub.getLsbD 0
  | .lrdGrant _ f => decide (fld f.sub 0 4 = 0)
  | .lrdReservation _ f => decide (fld f.sub 0 4 = 1)
  | .lrdCeiling _ f => decide (fld f.sub 0 4 = 2)
  | .lrdAvailable _ f => decide (fld f.sub 0 4 = 3)
  | .lrdGrantSum _ f => decide (fld f.sub 0 4 = 4)
  | .lrdHeadroom _ f => decide (fld f.sub 0 4 = 5)
  | .actVset _ f => decide (fld f.n 0 3 = 0)
  | .actIlim _ f => decide (fld f.n 0 3 = 1)
  | .actConv _ f => decide (fld f.n 0 3 = 2)
  | .actGateOff _ f => decide (fld f.n 0 3 = 3)
  | .actGateSourceOn _ f => decide (fld f.n 0 3 = 3)
  | .actGateIdealDiode _ f => decide (fld f.n 0 3 = 3)
  | .actDsc _ f => decide (fld f.n 0 3 = 4)
  | .actVconn _ f => decide (fld f.n 0 3 = 5)
  | .chk _ f => decide (fld f.sub 8 4 = 0)
  | .log _ f => decide (fld f.sub 8 4 = 1)
  | .fsend _ f => decide (fld f.sub 8 4 = 2)
  | .frecv _ f => decide (fld f.sub 8 4 = 3)
  | .add _ _ | .sub _ _ | .and _ _ | .or _ _ | .xor _ _ | .shl _ _ | .shr _ _ | .sar _ _ | .slt _ _ | .sltu _ _
  | .min _ _ | .max _ _ | .minu _ _ | .maxu _ _ | .addsu _ _ | .subsu _ _ | .mul _ _ | .mulh _ _ | .mulhu _ _
  | .div _ _ | .divu _ _ | .rem _ _ | .remu _ _ | .addi _ _ | .andi _ _ | .ori _ _ | .xori _ _ | .shli _ _
  | .shri _ _ | .sari _ _ | .lui _ _ | .slti _ _ | .sltiu _ _ | .muli _ _ | .ldw _ _ | .ldh _ _ | .ldhs _ _
  | .ldb _ _ | .ldbs _ _ | .stw _ _ | .sth _ _ | .stb _ _ | .ext _ _ | .exts _ _ | .ins _ _ | .br _ _ | .loop _ _
  | .call _ _ | .ret _ _ | .endI _ _ | .await _ _ | .tclr _ _ | .tevt _ _ | .qpush _ _ | .qpop _ _ | .lrsv _ _
  | .lcmt _ _ | .handlerDispatch _ | .premoveStallEnd _ _ _ | .coreTimerExpiry _ _ | .coalesceIntervalEnd _ _
  | .eventReoffer _ _ | .brokenPromise _ | .paceSample _ _ | .frameReceived _ _ | .earlyDecode _ _ _ _
  | .invalidSymbol _ | .lineIdleTimeout _ | .goodcrcTransmit _ | .goodcrcReceive _ _ _ | .txStart _ | .txFrameEnd _
  | .treceiveExpiry _ | .amsHoldExpiry _ | .sinkTxOkElapsed _ | .hardResetReceived _ | .hardResetDuringReset _
  | .cableResetReceived _ | .sendHardReset _ | .hardResetTransmit _ | .sendCableReset _ | .cableResetTransmit _
  | .bistCarrier _ | .bistCarrierEnd _ | .bistTestData _ | .amsEnd _ | .hrDone _ | .push _ _ | .pop _ _
  | .clrovf _ _ | .rxReoffer _ _ | .ccTerminationChange _ _ _ | .ccOverVoltage _ _ | .ccIsolationClose _ _
  | .tccDebounceExpiry _ _ | .tpdDebounceExpiry _ | .ttryCcDebounceExpiry _ | .tdrpToggle _ | .tdrpTryExpiry _
  | .ttryTimeout _ | .srcDisconnect _ | .snkVbusLost _ _ | .vbusOnTimeout _ _ | .srcAttachVbLow _ _
  | .terrorRecoveryExpiry _ | .wetCheckEnd _ _ | .wetCheckSbuOv _ | .wetRecheck _ | .wetCheckNow _ | .wetOverride _
  | .vconnOcTrip _ | .vconnReverse _ | .vconnInputUv _ | .tcCommit _ | .pdCommit _ | .pwCommit _ | .spCommit _
  | .mnCommit _ | .ldgCommit | .fabCommit | .fedCommit | .hbsCommit | .revert _ | .movingTimeout _
  | .ppsGuardExpiry _ | .eprGuardExpiry _ | .prsBegin _ | .term _ | .swapEnd _ | .errrec _ | .swapBackstopExpiry _
  | .safe0 _ _ | .frsSignal _ | .fastSourcing _ _ | .fastSourcingHoldoffEnd _ | .hrPsHardReset _ | .hrSafe0 _ _
  | .hrgoSource _ | .hrTurnOnTimeout _ | .hrgoSink _ _ | .hrSinkTimeout _ _ | .penWrite _ _ _ | .rsnsWrite _ _
  | .turnOnCheckDone _ | .noconv _ | .holdoffEnd _ | .gateBRisen _ | .inrushEnd _ | .limitLoopEngage _
  | .limitLoopRelease _ | .faultTimerExpiry _ | .hardshort _ | .gwrVgs _ | .gwrVds _ | .pumpuv _ | .passshort _
  | .idealDiodeReverseOff _ | .idealDiodeResume _ | .v5GateDrop | .ibaseHoldExpiry _ | .dscdone _ _ | .dscfault _
  | .slewEnd _ | .trimEval _ | .adcFrame _ _ _ _ | .averageUpdate | .derateEval _ | .monitorTick _ _ _
  | .monitorPeriodStart _ | .stest _ | .selfTestEnd _ | .ecmdClear _ | .thermCfgWrite _ _ | .thermNtcWrite _ _
  | .ledgerCut | .linkUp _ | .linkDown _ | .frameForward _ _ | .time _ | .timeSend | .ftlockLost | .leaseRenew _ _
  | .renewSend | .renewTimeout | .ack _ | .leaseReturn _ _ | .leaseReq _ _ | .leaseGrant _ _ | .nak _ _
  | .updAct _ _ | .regTunnel _ _ | .tunnelReply _ | .tunnelSend | .tunnelTimeout | .shedPoint | .leaseExpiry
  | .childLeaseExpiry _ | .transactionTimeout _ | .rsvTop | .rsvPass | .commit | .rollback | .owngrant | .returnI
  | .ftset _ | .feedReverseOff _ | .feedResume _ | .feedGood _ | .feedWarnStart _ | .feedWarnEnd _
  | .cmeasPassage _ | .saveTrigger _ | .save | .saveWriteDone _ _ | .saveAbandon | .warmStart _ | .parkPowerLoss
  | .saveArm | .proxyCheckin _ _ | .flagLate _ | .flagClockCheck _ _ | .flagForce | .flagPulseEnd _
  | .restartCore _ | .reinitPort _ | .restartArb _ | .releaseCore _ | .deviceReset _ | .powerCycle _
  | .coreRestartBegin _ | .coreRestartLoaded _ _ | .restartBoundExpiry _ | .arbiterRestartLoaded _ _ | .haltEntry
  | .rstNPulse _ | .otpSenseDone | .arbiterImageVerified _ | .fileImageCertified _ | .portsLive | .take | .release
  | .positionReady | .readn | .reads | .program | .sealRegion | .otpCommandEnd _ _ | .otpOvrWrite _
  | .otpStickyWrite _ | .otpUnlkWrite _ | .updBegin | .updEnd | .updAbort | .updErase | .schedule | .cancel
  | .updRollback | .relay | .relayFrameSend | .confirm | .hostChunk _ _ | .installDone _ | .stagingErased
  | .activationStart | .activationRecheck | .quietPortRestart _ | .trialEnd | .svcDetect | .svcLost | .svcPacketGap
  | .svcHello _ | .svcWrite _ | .svcBegin _ | .svcEnd _ | .svcStatus _ | .svcSchedule _ | .svcConfirm _
  | .svcRollback _ | .svcAbort _ | .svcBaud _ | .registerWrite _ _ _ _ _ | .rcRead _ _ | .sdaTimeout _
  | .groupCommit | .mailboxIssue _ | .portsOff _ _ | .commitPorts _ _ _ | .eclear _ _ | .revertPorts _ _ _
  | .powerOnReset _ | .startModeEntry _ | .startModeExit _ _ | .vioLoss | .vioReturn | .xtalSwitch | .xtalFail
  | .sinkVbusDetect _ _ | .fabricFrameDiscard _ | .svcPacketDiscard | .chunkWriteDone | .lowenergyChange _
  | .startModeLoss => true

end Sys2Proof
end

