-- ==== Sys2Proof/Machine/Cores.lean ====
section
/-! DEFINITION. Raising events on the cores: event classes (R125), coalescing (R126), slot matching (R130, R131),
admission and refusal (R141, R142), deadlines (R134). -/

namespace Sys2Proof.Machine

/-! ### Event classes (R125) -/

/-- Classes whose events raised within one interval are coalesced (R125, R126). -/
def coalesced (cls : Nat) : Bool :=
  decide (cls = 3 ∨ cls = 6 ∨ cls = 8 ∨ cls = 9 ∨ cls = 10 ∨ cls = 11 ∨ cls = 12 ∨ cls = 0x23 ∨ cls = 0x24 ∨ cls = 0x25)

/-- Non-critical classes that are not timers (R125). -/
def nonCritical (cls : Nat) : Bool :=
  decide (cls = 7 ∨ cls = 0x20 ∨ cls = 0x21 ∨ cls = 0x22 ∨ cls = 0x26 ∨ cls = 0x27)

/-- Timer classes (R125). -/
def isTimer (cls : Nat) : Bool := decide (0x10 ≤ cls ∧ cls ≤ 0x17)

/-- The class can be raised on a file core (R125). -/
def fileClass (cls : Nat) : Bool := decide (cls ≤ 13) || isTimer cls

/-- The class can be raised on the arbiter (R125). -/
def arbClass (cls : Nat) : Bool :=
  decide (cls = 0 ∨ (11 ≤ cls ∧ cls ≤ 13) ∨ (0x20 ≤ cls ∧ cls ≤ 0x27)) || isTimer cls

/-- Critical classes that are demands of the feasibility tests, timers aside (R125, R138). -/
def criticalClass (cls : Nat) : Bool :=
  decide ((1 ≤ cls ∧ cls ≤ 6) ∨ (8 ≤ cls ∧ cls ≤ 12) ∨ (0x23 ≤ cls ∧ cls ≤ 0x25))

/-- Minimum interval of a class in us, timers aside (R125). -/
def classInterval (cls : Nat) : Nat :=
  if cls = 1 then 476 else if cls = 2 ∨ cls = 3 then 990 else if cls = 4 ∨ cls = 5 ∨ cls = 6 then 275
  else if cls = 8 then 10000 else 1000

/-! ### Handler slots (R128, R130) -/

/-- Data Size of an extended header (R82). -/
def extSize (e : Half) : Nat := fld e 0 9

/-- Extended bit, Number of Data Objects and message type of a PD header. -/
def hdrExt (h : Half) : Bool := h.getLsbD 15
def hdrNdo (h : Half) : Nat := fld h 12 3
def hdrType (h : Half) : Nat := fld h 0 5
def hdrId (h : Half) : BitVec 3 := BitVec.ofNat 3 (fld h 9 3)

/-- A frame matches a slot by its fields (R130). -/
def frameMatches (e : HEntry) (x : Sop) (h : Half) : Bool :=
  e.msop.getLsbD x.idx.val && (hdrExt h == e.msop.getLsbD 3) && ((hdrExt h || decide (0 < hdrNdo h)) == e.msop.getLsbD 4)
    && decide (hdrType h = e.mtype.toNat) && decide (e.mindo.toNat ≤ hdrNdo h)

/-- The slots of an image with their numbers. -/
def LoadedImage.indexed (im : LoadedImage) : List (Nat × SlotInfo) :=
  im.slots.zipIdx.filterMap fun x => x.1.map fun i => (x.2, i)

/-- Slot n of an image. -/
def LoadedImage.slot (im : LoadedImage) (n : Nat) : Option SlotInfo := (im.slots[n]?).join

/-- A non-CONT slot of the class that matches: for EARLY and RXMSG by the frame, for other classes any (R130;
log 16). -/
def slotMatches (cls : Nat) (m : Option (Sop × Half)) (e : HEntry) : Bool :=
  e.valid && decide (e.cls.toNat = cls) && !e.cont && !e.dflt &&
    match m with
    | some (x, h) => frameMatches e x h
    | none => true

/-- The slot chosen under the matching rule (R130). -/
def chooseSlot (im : LoadedImage) (cls : Nat) (m : Option (Sop × Half)) : Option Nat :=
  match im.indexed.find? fun x => slotMatches cls m x.2.e with
  | some x => some x.1
  | none => (im.indexed.find? fun x => x.2.e.valid && decide (x.2.e.cls.toNat = cls) && !x.2.e.cont && x.2.e.dflt).map
      fun x => x.1

/-- The slot of an event: the AWAIT binding first, then the matching rule (R131). -/
def Core.slotFor (C : Core) (cls : Nat) (m : Option (Sop × Half)) : Option Nat :=
  match C.awaits.find? fun x => decide (x.1 = cls) with
  | some x => some x.2
  | none => C.image.bind fun im => chooseSlot im cls m

/-- TMIN of a timer class: the smallest among its slots (R127). -/
def LoadedImage.tmin (im : LoadedImage) (cls : Nat) : Nat :=
  let l := im.indexed.filterMap fun x => if x.2.e.valid ∧ x.2.e.cls.toNat = cls then some x.2.e.tmin.toNat else none
  l.foldl min (l.headD 0)

/-- The class is critical on an image: by the table, or for a timer by CRIT of its slots (R125, R129). -/
def LoadedImage.critical (im : LoadedImage) (cls : Nat) : Bool :=
  if isTimer cls then im.indexed.any fun x => x.2.e.valid && decide (x.2.e.cls.toNat = cls) && x.2.e.crit
  else !nonCritical cls

/-- Stall allowance A of an EARLY slot: its occupancy less the same steps outside EARLY (R136, R137). -/
def SlotInfo.rerunOcc (i : SlotInfo) (sf : Nat) : Nat := 4 * (i.bound + sf)

/-- S_F: the largest bound among the valid FAULT slots (R136). -/
def LoadedImage.sf (im : LoadedImage) : Nat :=
  (im.indexed.filterMap fun x => if x.2.e.valid ∧ x.2.e.cls.toNat = 13 then some x.2.bound else none).foldl max 0

/-- One demand of the feasibility tests: class, C in ns, D in us, T in us (R138). -/
structure Demand where
  cls : Nat
  c   : Nat
  d   : Nat
  t   : Nat
  deriving DecidableEq, Repr

/-- The demand of a class over a list of its (C, D) pairs. -/
def demandOf (cls t : Nat) (l : List (Nat × Nat)) : Option Demand :=
  match l with
  | [] => none
  | x :: r => some { cls, c := r.foldl (fun a y => max a y.1) x.1, d := r.foldl (fun a y => min a y.2) x.2, t }

/-- The demands of an image: each critical class with the largest C and smallest D of its slots (R138); EARLY slots
are also RXMSG demands as reruns, with D = 550 us and C less A (R137). -/
def LoadedImage.demands (im : LoadedImage) : List Demand :=
  (List.range 0x28).filterMap fun cls =>
    if (criticalClass cls || (isTimer cls && im.critical cls)) = true then
      let own := im.indexed.filterMap fun x =>
        if x.2.e.valid ∧ x.2.e.cls.toNat = cls then some (x.2.occ, x.2.ded) else none
      let reruns := if cls = 2 then im.indexed.filterMap fun x =>
        if x.2.e.valid ∧ x.2.e.cls.toNat = 1 then some (x.2.rerunOcc im.sf, 550) else none else []
      demandOf cls (if isTimer cls then im.tmin cls else classInterval cls) (own ++ reruns)
    else none

/-! ### Jobs -/

/-- Occupancy in ns of a job on a core (R136). -/
def Core.occ (C : Core) (slot : Nat) : Nat := ((C.image.bind fun im => im.slot slot).map fun i => i.occ).getD 0

/-- Critical and non-critical jobs pending. -/
def Core.crPend (C : Core) : Nat := (C.jobs.filter fun j => !j.nc).length
def Core.ncPend (C : Core) : Nat := (C.jobs.filter fun j => j.nc).length

/-- Insert a job into the pending list in absolute-deadline order, after equal deadlines (R141). -/
def insertByDeadline (now : Word) (j : Job) : List Job → List Job
  | [] => [j]
  | x :: t => if until' now x.deadline ≤ until' now j.deadline then x :: insertByDeadline now j t else j :: x :: t

/-- The test of R141 for the jobs in order: used is R + P plus the occupancies of the jobs before. -/
def admitTest (now : Word) (ds : List Demand) (occ : Nat → Nat) : Nat → List Job → Bool
  | _, [] => true
  | used, j :: t =>
    let left := until' now j.deadline
    let c := used + occ j.slot
    let crit := ds.foldl (fun a d => a + (left.toNat / d.t + 1) * d.c) 0
    decide (0 ≤ left) && decide (c + crit ≤ left.toNat * 1000) && admitTest now ds occ c t

/-- R of R141: the certified occupancy of the running handler less the time it has run, in ns. -/
def Core.running (C : Core) (now : Word) : Nat :=
  match C.run with
  | none => 0
  | some h => C.occ h.job.slot - (now - h.start).toNat * 1000

/-- The admitted non-critical jobs that have not ended, the running one among them (R141). -/
def Core.admitted (C : Core) : List Job :=
  (match C.run with
    | some h => if h.job.nc then [h.job] else []
    | none => []) ++ C.jobs.filter fun x => x.nc

/-- The admission test of R141 for a new non-critical job. A running non-critical job counts in the list with its d_k and
C_j, and as the running handler in R: the rule excepts it from neither (log 124). -/
def Core.admits (C : Core) (now : Word) (j : Job) : Bool :=
  match C.image with
  | none => false
  | some im =>
    let p := (C.jobs.filter fun x => !x.nc).foldl (fun a x => a + C.occ x.slot) 0
    admitTest now im.demands C.occ (C.running now + p)
      (insertByDeadline now j (C.admitted.foldl (fun l x => insertByDeadline now x l) []))

/-- The job of an event whose slot is n (R131, R134). -/
def Core.mkJob (C : Core) (now : Word) (r : Raised) (n : Nat) (nc : Bool) : Job :=
  let ded := ((C.image.bind fun im => im.slot n).map fun i => i.e.deadline).getD 0
  { cls := r.cls, slot := n, queue := r.queue, seq := r.seq, time := now, deadline := now + ded, arg := r.arg, nc,
    id := C.nextId }

/-- Discard of an event with no slot (R131): UNHCNT and UNHANDLED. -/
def Core.unhandled (C : Core) : Core :=
  { C with cr := { C.cr with evt := setB C.cr.evt 5 true
                             lastref := setF C.cr.lastref 24 8 (satAdd (BitVec.ofNat 8 (fld C.cr.lastref 24 8)) 1).toNat } }

/-- The record of a refusal (R142): REFUSED, the count, and class, code and SEQ. -/
def Core.refused (C : Core) (cls code : Nat) (seq : Byte) : Core :=
  { C with cr := { C.cr with
      evt := setB C.cr.evt 3 true
      refcnt := satInc C.cr.refcnt
      lastref := setF (setF (setF C.cr.lastref 16 8 code) 8 8 (if cls = 7 then seq.toNat else 0)) 0 8 cls } }

/-- A job becomes pending; a binding it used is removed (R106, R131). -/
def Core.pend (C : Core) (j : Job) : Core :=
  { C with jobs := C.jobs ++ [j], nextId := C.nextId + 1,
           awaits := C.awaits.filter fun x => decide (x.1 ≠ j.cls) }

/-- Refusal code of a non-critical event, 0 when it is admitted (R141, R142). -/
def Core.ncCode (C : Core) (now : Word) (r : Raised) (m : Option (Sop × Half)) : Nat :=
  if C.st ≠ .running then 0x34
  else match C.slotFor r.cls m with
    | none => 0x32
    | some n =>
      if C.paceAlarm then 0x31 else if 8 ≤ C.ncPend then 0x33
      else if C.admits now (C.mkJob now r n true) then 0 else 0x30

/-- A refused class of the table's last column that is offered again every 1,000 us (R125). -/
def reoffered (cls : Nat) : Bool := isTimer cls || decide (cls = 0x21 ∨ cls = 0x26 ∨ cls = 0x27)

/-- Raising a non-critical event on a core: admitted, or refused in the same tick with every effect of R142 that lies
in the core; a refused HOSTCMD entry leaves its queue. The code is 0 when admitted. -/
def State.raiseNc (s : State) (c : CoreId) (r : Raised) : Nat × State :=
  let C := s.core c
  let code := C.ncCode s.now r none
  if code = 0 then
    (0, s.modCore c fun C => C.pend (C.mkJob s.now r ((C.slotFor r.cls none).getD 0) true))
  else
    let s1 := s.modCore c fun C =>
      let C1 := if code = 0x32 then C.unhandled else C
      let C2 := C1.refused r.cls code r.seq
      if reoffered r.cls then { C2 with reoffer := C2.reoffer ++ [r] } else C2
    let s2 := match corePort c with
      | some p => if r.cls = 7 then s1.modQ p 6 fun q => { q with ents := q.ents.filter fun e => decide (e.seq ≠ r.seq) }
                  else s1
      | none => s1
    (code, s2)


/-- How the ARG of an occurrence joins those latched before it: PACE shows the latest, TXEND the latest STAT with
every queue bit, the others every bit (R125, R126). -/
def joinArg (cls : Nat) (old new : Word) : Word :=
  if cls = 12 then new else if cls = 3 then (new &&& 0xFF00) ||| ((old ||| new) &&& 0x7) else old ||| new

/-- Holding an event raised while its core is not running: it is raised again at the end of START (R134). Occurrences of one
coalesced class are joined. RXMSG entries stay in their queues and are offered again from there (R306); an EARLY event is
held while its frame is under reception. -/
def Core.hold (C : Core) (r : Raised) : Core :=
  if r.cls = 2 then C
  else if coalesced r.cls = true ∧ C.held.any (fun x => decide (x.cls = r.cls)) = true then
    { C with held := C.held.map fun x => if x.cls = r.cls then { x with arg := joinArg r.cls x.arg r.arg } else x }
  else { C with held := C.held ++ [r] }

/-- Raising a critical event (or START) at once: its slot is fixed, or it is discarded as unhandled (R131). -/
def State.raiseCrit (s : State) (c : CoreId) (r : Raised) (m : Option (Sop × Half)) : State :=
  if (s.core c).st ≠ .running then s.modCore c fun C => C.hold r
  else s.modCore c fun C =>
    match C.slotFor r.cls m with
    | none => C.unhandled
    | some n => C.pend (C.mkJob s.now r n false)

/-- Raising an occurrence of a coalesced class (R126): at once when no interval is open, else latched. -/
def State.raiseCoal (s : State) (c : CoreId) (cls : Nat) (arg : Word) : State :=
  if (s.core c).st ≠ .running then s.modCore c fun C => C.hold { cls, arg }
  else match (s.core c).coal.find? fun x => decide (x.cls = cls) with
    | none => (s.modCore c fun C => { C with coal := C.coal ++ [{ cls, latched := none }] }).raiseCrit c { cls, arg } none
    | some _ => s.modCore c fun C => { C with coal := C.coal.map fun x =>
        if x.cls = cls then { x with latched := some (joinArg cls (x.latched.getD 0) arg) } else x }

/-- The LEDGER event on all nine cores (R245, R247). -/
def State.raiseLedger (s : State) (arg : Word) : State := s.forCores fun s c => s.raiseCoal c 11 arg

/-- COREDOWN on the arbiter (R297, R306). -/
def State.raiseCoreDown (s : State) (p : PortId) : State := s.raiseCoal arbiterId 0x25 (1 <<< p.val)

/-! ### Event latches of a port and the event each raises -/

/-- A Pn_TC_EVT bit sets and raises the TC event with ARG = Pn_TC_EVT. -/
def State.tcEvt (s : State) (p : PortId) (b : Nat) : State :=
  let s1 := s.modTc p fun t => { t with evt := setB t.evt b true }
  s1.raiseCoal (fileCore p) 8 ((s1.port p).tc.evt.setWidth 32)

/-- ARG of the PW event (R212). -/
def Port.pwArg (P : Port) : Word := P.pw.evt.setWidth 32 ||| (P.ct.cevt.setWidth 32 <<< 16)

/-- ARG of the MN event (R238). -/
def Port.mnArg (P : Port) : Word := P.mn.evt.setWidth 32 ||| (P.sp.evt.setWidth 32 <<< 16)

/-- A Pn_PW_EVT bit sets and raises the PW event (R212). -/
def State.pwEvt (s : State) (p : PortId) (b : Nat) : State :=
  let s1 := s.modPw p fun w => { w with evt := setB w.evt b true }
  s1.raiseCoal (fileCore p) 9 (s1.port p).pwArg

/-- A Pn_PD_CEVT bit sets and raises the PW event (07 Pn_PD_CEVT, R212). -/
def State.cEvt (s : State) (p : PortId) (b : Nat) : State :=
  let s1 := s.modCt p fun c => { c with cevt := setB c.cevt b true }
  s1.raiseCoal (fileCore p) 9 (s1.port p).pwArg

/-- A Pn_MN_EVT bit sets and raises the MN event (R238). -/
def State.mnEvt (s : State) (p : PortId) (b : Nat) : State :=
  let s1 := s.modMn p fun m => { m with evt := setB m.evt b true }
  s1.raiseCoal (fileCore p) 10 (s1.port p).mnArg

/-- A Pn_SP_EVT bit sets and raises the MN event (R238). -/
def State.spEvt (s : State) (p : PortId) (b : Nat) : State :=
  let s1 := s.modSp p fun x => { x with evt := setB x.evt b true }
  s1.raiseCoal (fileCore p) 10 (s1.port p).mnArg

/-- ARG of LINKCMD: Pn_PD_EVT bits 12:9 and 7:5 as latched (R125). -/
def Phy.linkArg (d : Phy) : Word := d.evt.setWidth 32 &&& 0x1EE0

/-- A Pn_PD_EVT bit that raises LINKCMD sets (bits 12, 10, 9, 7:5). -/
def State.linkEvt (s : State) (p : PortId) (b : Nat) : State :=
  let s1 := s.modPd p fun d => { d with evt := setB d.evt b true }
  s1.raiseCoal (fileCore p) 6 (s1.port p).pd.linkArg

/-- A FED_EVT bit sets and raises FEED on the arbiter (R274). -/
def State.fedEvt (s : State) (b : Nat) : State :=
  let s1 := s.modFed fun f => { f with evt := setB f.evt b true }
  s1.raiseCoal arbiterId 0x23 (s1.fed.evt.setWidth 32)

/-- ARG at the end of a coalescing interval: every occurrence since the last event, with the register the class shows
as it stands now (R126, R212, R238; log 17). -/
def State.coalArg (s : State) (c : CoreId) (cls : Nat) (latched : Word) : Word :=
  match corePort c with
  | some p =>
    let P := s.port p
    if cls = 6 then latched ||| P.pd.linkArg
    else if cls = 8 then latched ||| P.tc.evt.setWidth 32
    else if cls = 9 then latched ||| P.pwArg
    else if cls = 10 then latched ||| P.mnArg
    else latched
  | none => if cls = 0x23 then latched ||| s.fed.evt.setWidth 32 else latched

/-- End of a coalescing interval (R126). -/
def State.coalEnd (s : State) (c : CoreId) (cls : Nat) : State :=
  match (s.core c).coal.find? fun x => decide (x.cls = cls) with
  | none => s
  | some x =>
    match x.latched with
    | none => s.modCore c fun C => { C with coal := C.coal.filter fun y => decide (y.cls ≠ cls) }
    | some a =>
      (s.modCore c fun C => { C with coal := C.coal.map fun y => if y.cls = cls then { y with latched := none } else y }).raiseCrit
        c { cls, arg := s.coalArg c cls a } none

/-- Deadline of EARLY and of a rerun (R134): event time, the remaining bits of the frame at the partner's rate, 25 us,
the device's GoodCRC at 300 kbit/s, 35 us; to the nearest us (log 18). -/
def earlyDeadline (t : Word) (hdr : Half) (rate : Nat) : Word :=
  let bits := 40 * hdrNdo hdr + 45
  let den := 300 * max 1 rate
  let num := bits * 1000 * 300 + 149 * 1000 * max 1 rate + 60 * den
  t + BitVec.ofNat 32 ((2 * num + den) / (2 * den))

/-- Us that n bits last at a rate in kbit/s, to the nearest us. -/
def bitsUs (n rate : Nat) : Nat := (n * 1000 + rate / 2) / rate

/-- The EARLY event of the frame r under reception, its header's end at TMB_NOW hdrEnd: raised for a frame that a valid EARLY
slot matches, its slot fixed now (R127, R130, R131). Its deadline is the latest commit instant of R33: the frame's end does
not move with the event time (R134). -/
def State.raiseEarly (s : State) (c : CoreId) (r : RxFrame) (hdrEnd : Word) (e : Raised) : State :=
  s.modCore c fun C =>
    match (C.image.bind fun im => chooseSlot im 1 (some (r.sop, r.hdr))).bind fun _ => C.slotFor 1 (some (r.sop, r.hdr)) with
    | none => C
    | some n => C.pend { C.mkJob s.now e n false with deadline := earlyDeadline hdrEnd r.hdr r.rate, inRx := true }

/-- The events held while the core was not running are raised, with the end of START as their time; an EARLY event belongs to
the frame still under reception (R134). -/
def State.raiseHeld (s : State) (c : CoreId) : State :=
  let l := (s.core c).held
  let s0 := s.modCore c fun C => { C with held := [] }
  l.foldl (fun s r =>
    if r.cls = 1 then match (corePort c).bind fun p => (s.port p).pd.rx with
      | some x => s.raiseEarly c x (x.time + BitVec.ofNat 32 (bitsUs 20 x.rate)) r
      | none => s
    else if coalesced r.cls then s.raiseCoal c r.cls r.arg
    else if nonCritical r.cls then (s.raiseNc c r).2 else s.raiseCrit c r none) s0

end Sys2Proof.Machine
end

