-- ==== Sys2Proof/Machine/PortVals.lean ====
section
/-! DEFINITION. Computed values of a port: the held record (07), roles and terminations (02), current limits and the
power-good window (08), the set-point codes (09). -/

namespace Sys2Proof.Machine

/-! ### Type-C -/

/-- ROLE, TRY, RPLVL, DCSRC, VCONNEN, WETEN, SNKWET of a Pn_TC_CTL word. -/
def ctlRole (c : Half) : Nat := fld c 0 2
def ctlTry (c : Half) : Nat := fld c 4 2
def ctlRplvl (c : Half) : Nat := fld c 6 2
def ctlDcsrc (c : Half) : Nat := fld c 8 3
def ctlVconnEn (c : Half) : Bool := c.getLsbD 11
def ctlWetEn (c : Half) : Bool := c.getLsbD 13
def ctlSnkWet (c : Half) : Bool := c.getLsbD 14

/-- The port is in Attached.SRC or Attached.SNK (R60). -/
def Tc.attached (t : Tc) : Bool := decide (t.st = .attachedSrc ∨ t.st = .attachedSnk)

/-- Grant that an Rp level needs, in mW (R38). -/
def rpMw (lvl : Nat) : Nat := if lvl = 0 then 4500 else if lvl = 1 then 7500 else 15000

/-- Current of an Rp level, in mA (R192). -/
def rpMa (lvl : Nat) : Nat := if lvl = 0 then 900 else if lvl = 1 then 1500 else 3000

/-- Highest Rp level a grant covers; Default is never withdrawn (R38). -/
def covered (grant : Nat) : Fin 3 := if 15000 ≤ grant then 2 else if 7500 ≤ grant then 1 else 0

/-- Level of an Rp termination. -/
def termLevel : Term → Option Nat
  | .rpDef => some 0
  | .rp15 => some 1
  | .rp30 => some 2
  | .openT | .ra | .rd | .overV => none

/-- The partner's termination on the active CC (R37). -/
def Tc.activeCc (t : Tc) : Term := if t.pol then t.cc2 else t.cc1

/-- The partner's termination on the other CC. -/
def Tc.otherCc (t : Tc) : Term := if t.pol then t.cc1 else t.cc2

/-! ### The Type-C state machine by itself (R35, R36, R45, R54) -/

/-- Number of CC pins that show Rp, and Rd. -/
def Tc.rpPins (t : Tc) : Nat := t.cc1.isRp.toNat + t.cc2.isRp.toNat
def Tc.rdPins (t : Tc) : Nat := (decide (t.cc1 = .rd)).toNat + (decide (t.cc2 = .rd)).toNat

/-- What the port shows on a CC pin: the termination of its state, withdrawn from a pin that a wet check measures (R35,
R54). -/
def Tc.shown (t : Tc) (pin : CcPin) : Pres :=
  if t.check ≠ .none ∧ t.meas.getLsbD (if pin = .cc1 then 0 else 1) = true then .openP else t.pres

/-- Below this level in mV an Rp of a level reads Ra, and at or above `openFrom` it reads open (R36). -/
def raBelow (rp : Fin 3) : Nat := if rp = 0 then 200 else if rp = 1 then 400 else 800
def openFrom (rp : Fin 3) : Nat := if rp = 2 then 2600 else 1600

/-- The class of a CC pin at mv mV, by what the port presents on it and its Rp level (R36). The tables hold no row for a
pin on which the port presents nothing: it reads open (log 110). -/
def classify (sh : Pres) (rp : Fin 3) (mv : Nat) : Term :=
  match sh with
  | .rp => if mv < raBelow rp then .ra else if mv < openFrom rp then .rd else .openT
  | .rd | .deadRd => if mv < 200 then .openT else if mv < 660 then .rpDef else if mv < 1230 then .rp15 else .rp30
  | .openP => .openT

/-- A CC pin is classified: its isolation switch is closed, and it is not the pin that carries VCONN (R36, R52;
log 97). -/
def Tc.reads (t : Tc) (pin : CcPin) : Bool :=
  match pin with
  | .cc1 => !t.iso1 && !(t.vconn && t.pol)
  | .cc2 => !t.iso2 && !(t.vconn && !t.pol)

/-- The class last taken of a pin. -/
def Tc.term (t : Tc) (pin : CcPin) : Term := if pin = .cc1 then t.cc1 else t.cc2

/-- A new class of a pin; a check that runs loses its verdict (R55). -/
def Tc.setTerm (t : Tc) (pin : CcPin) (x : Term) : Tc :=
  let t1 := { t with gone := t.gone || (decide (t.check ≠ Check.none) && decide (x ≠ t.term pin)) }
  match pin with
  | .cc1 => { t1 with cc1 := x }
  | .cc2 => { t1 with cc2 := x }

/-- The state a port goes to by role (R45). -/
def byRole (role : Nat) : TcState := if role = 1 then .unattachedSrc else if role = 3 then .disabled else .unattachedSnk

/-- What a port presents in an unattached state: dead-battery Rd until the first commit (R40). -/
def Tc.presFor (t : Tc) (st : TcState) : Pres :=
  if st = .unattachedSrc ∨ st = .attachWaitSrc then .rp
  else if st = .disabled ∨ st = .wet ∨ st = .errorRecovery then .openP
  else if t.committed then .rd else .deadRd

/-- The running check is over; a command that asked for it is answered with CST 0x01, whatever ended it (log 112). -/
def Tc.endCheck (t : Tc) : Tc :=
  { t with
    check := .none, meas := 0, gone := false, asked := false
    wetcmd := if t.asked then { t.wetcmd with cst := 1 } else t.wetcmd }

/-- A check of kind k starts (R54). In the source role, and in Wet, where no termination is present, it measures every pin;
in the sink role SBU1, SBU2 and the CC pins that show no Rp. -/
def Tc.startCheck (t : Tc) (k : Check) : Tc :=
  let snk := decide (k = .sink) || (decide (k = .commanded) && decide (t.st = .unattachedSnk))
  { t with
    check := k, gone := false
    meas := if snk then BitVec.ofNat 4 ((!t.cc1.isRp).toNat + 2 * (!t.cc2.isRp).toNat + 12) else 0xF }

/-- Entry to an unattached, Disabled, ErrorRecovery or Wet state: what belongs to the former state ends. A check that runs
ends without verdict; a commanded one is answered (R45, R55; log 112). -/
def Tc.enter (t : Tc) (st : TcState) : Tc :=
  { t.endCheck with
    st, pres := t.presFor st, debounced := false, tryOver := false, snkDry := false, dryRun := 0
    toDis := if st = .errorRecovery then t.toDis else false }

/-- The start of a sink wet check at AttachWait.SNK; a port that presents dead-battery Rd runs none (R54, R57). -/
def Tc.sinkCheck (t : Tc) : Tc :=
  if t.pres = .deadRd then { t with check := .none, snkDry := true } else { t.startCheck .sink with snkDry := false }

/-- A partner seen in an unattached state starts the wait (R45); not while an attach is ignored (R47). A commanded check
that runs there ends without verdict (log 112). -/
def Tc.seek (t : Tc) : Tc :=
  if t.discWait then t
  else if t.st = .unattachedSnk ∧ 0 < t.rpPins then
    ({ t.endCheck with st := .attachWaitSnk, debounced := false } : Tc).sinkCheck
  else if t.st = .unattachedSrc ∧ 0 < t.rdPins then
    { t.endCheck with st := .attachWaitSrc, debounced := false }
  else t

/-- VB below 0.8 V ends the wait after a discharge fault, and the port looks for a partner again (R47). -/
def Tc.vbBelow (t : Tc) : Tc := if t.discWait then ({ t with discWait := false } : Tc).seek else t

/-- The port is on its way to an attach (R45): what a discharge fault ends (R47). -/
def Tc.attaching (t : Tc) : Bool :=
  decide (t.st = .attachWaitSnk ∨ t.st = .attachWaitSrc ∨ t.st = .wetCheck ∨ t.st = .trySrc ∨ t.st = .tryWaitSnk
    ∨ t.st = .trySnk ∨ t.st = .tryWaitSrc)

/-! ### The held record (R160) -/

/-- Codes of TYPE (R161): 0 none, 1 SPR Fixed, 2 PPS, 3 SPR AVS, 4 EPR Fixed, 5 EPR AVS. -/
def cfgType (c : Word) : Nat := fld c 8 3
def cfgObj (c : Word) : Nat := fld c 16 4
def cfgEprMode (c : Word) : Bool := c.getLsbD 15
def cfgCabEpr (c : Word) : Bool := c.getLsbD 14
def cfgCab5A (c : Word) : Bool := c.getLsbD 13
def eprType (t : Nat) : Bool := decide (t = 4 ∨ t = 5)

/-- TYPE of the held record. -/
def Ct.typ (c : Ct) : Nat := cfgType c.concfg

/-- HELDPWR: the held power in mW, rounded up. -/
def Ct.power (c : Ct) : Nat := ceilDiv (c.conv.toNat * c.coni.toNat) 1000

/-- ARM and FRCUR of Pn_PD_FRS. -/
def frsArm (f : Half) : Bool := f.getLsbD 7
def frsCur (f : Half) : Nat := fld f 10 2

/-! ### Power path fields -/

def Pw.rsns (w : Pw) : Nat := fld w.ctl 8 8
def Pw.pen (w : Pw) : Bool := w.ctl.getLsbD 0
def Pw.hslvl (w : Pw) : Nat := fld w.lim 24 8
def Pw.runmarg (w : Pw) : Nat := fld w.lim 16 8
def Pw.simp (w : Pw) : Nat := fld w.cfg 24 8
def Pw.inrlim (w : Pw) : Nat := fld w.lim 0 16
def Pw.pgn (w : Pw) : Nat := fld w.cfg 4 4
def Pw.pgwin (w : Pw) : Nat := fld w.pgw 0 8
/-- The highest OCP level the hard-short level leaves (R232): 0.9 x HSLVL, in mA. -/
def Pw.ocpCap (w : Pw) : Nat := if w.rsns = 0 then 0 else 9000 * w.hslvl / w.rsns
/-- A discharge is active (R189). -/
def Pw.dsc (w : Pw) : Bool := w.dscHw || w.dscAct

/-- Type code of a gate mode. -/
def GateMode.code : GateMode → Nat
  | .off => 0
  | .sourceOn => 1
  | .idealDiode => 2

/-- Code of PHASE. -/
def Phase.code : Phase → Nat
  | .none => 0
  | .inrush => 1
  | .running => 2

/-- I_base of R192. Where the partner shows no Rp, Default is taken (log 19). -/
def Port.iBase (P : Port) : Nat :=
  let own :=
    if P.ct.typ ≠ 0 then P.ct.coni.toNat
    else if P.pw.frBase then rpMa (frsCur P.ct.frs - 1)
    else if P.tc.st = .attachedSnk then rpMa ((termLevel P.tc.activeCc).getD 0)
    else rpMa (ctlRplvl P.tc.ctl)
  max own (P.pw.ibaseKeep.getD 0)

/-- I_run of R192, in mA. -/
def Port.iRun (P : Port) : Nat := P.iBase * (100 + P.pw.runmarg) / 100

/-- I_lim of R192: INRLIM in inrush; I_run otherwise (log 19). -/
def Port.iLim (P : Port) : Nat := if P.pw.phase = .inrush then P.pw.inrlim else P.iRun

/-- The gates as they stand. -/
def Pw.gates (w : Pw) : GateSt := { mode := w.mode, phase := w.phase, turn := w.turn, limact := w.limact, revoff := w.revoff }

/-- The gates as a trip of this us sees them: as they stood before they went off in it (R198, R235; log 129). -/
def Pw.gatesAt (w : Pw) (us : Nat) : GateSt :=
  match w.before with
  | some (u, g) => if u = us then g else w.gates
  | none => w.gates

/-- The gates are remembered before they go off, once in a us. -/
def Pw.remember (w : Pw) (us : Nat) : Pw := { w with before := some (us, w.gatesAt us) }

/-- The UVP trip input is armed and not suppressed (R199, R230). -/
def GateSt.uvpArmed (g : GateSt) : Bool := decide (g.mode = .sourceOn) && decide (g.phase = .running) && !g.limact

/-- Trip inputs armed, per sieve (R230). -/
def GateSt.armedIn (g : GateSt) : BitVec 4 :=
  let on := decide (g.mode ≠ .off)
  let uv := decide (g.mode = .sourceOn) && decide (g.phase = .running)
  BitVec.ofNat 4 (on.toNat + 2 * uv.toNat + 4 * on.toNat + 8 * (decide (g.mode = .sourceOn)).toNat)

/-- Trip inputs armed, per sieve (R230); suppression of UVP (R199) included. -/
def GateSt.armed (g : GateSt) : BitVec 4 :=
  let on := decide (g.mode ≠ .off)
  BitVec.ofNat 4 (on.toNat + 2 * g.uvpArmed.toNat + 4 * on.toNat + 8 * (decide (g.mode = .sourceOn)).toNat)

/-- Simmer mode applies with the gates in a mode (R193). -/
def State.simmerOf (s : State) (p : PortId) (m : GateMode) : Bool :=
  let P := s.port p
  decide (m = .sourceOn) && ((s.epren && P.pw.ctl.getLsbD 3) || decide (21000 < P.ct.conv.toNat))

/-- Simmer mode is in force (R193). -/
def State.simmer (s : State) (p : PortId) : Bool := s.simmerOf p (s.port p).pw.mode

/-- I_eff of R192 in mA, rounded up, at a VDS_A of `vds` mV: in Simmer mode SIMP / max(VDS_A, 0.5 V) at most. -/
def State.iEff (s : State) (p : PortId) (vds : Nat) : Nat :=
  let P := s.port p
  if s.simmer p then min P.iLim (ceilDiv (P.pw.simp * 1000000) (max vds 500)) else P.iLim

/-! ### Power-good window (R208), in thousandths of a mV -/

/-- Upper edge for a record of a type and voltage. -/
def winHi (pgwin typ conv : Nat) : Nat := if typ = 0 then 5500000 else conv * (1000 + pgwin)

/-- Lower edge; `fold`: a PPS output in current fold-back, where the edge falls to 3,300 mV and never rises (log 131). -/
def winLo (pgwin typ conv : Nat) (fold : Bool) : Nat :=
  if typ = 0 then 4750000 else if typ = 2 ∧ fold = true then min 3300000 (conv * (1000 - pgwin)) else conv * (1000 - pgwin)

/-- The sensed current is at or above 0.95 x CONI (R208). -/
def Port.foldback (P : Port) (i : Int) : Bool := decide ((95 * P.ct.coni.toNat : Nat) ≤ 100 * i)

/-- VB lies inside the power-good window of the held record. -/
def Port.inWindow (P : Port) (vb : Nat) (i : Int) : Bool :=
  decide (winLo P.pw.pgwin P.ct.typ P.ct.conv.toNat (P.foldback i) ≤ vb * 1000
    ∧ vb * 1000 ≤ winHi P.pw.pgwin P.ct.typ P.ct.conv.toNat)

/-- VB lies inside vSafe5V (R208). -/
def vSafe5 (vb : Nat) : Bool := decide (4750 ≤ vb ∧ vb ≤ 5500)

/-! ### Set-point drive fields and codes -/

def Sp.trimmax (x : Sp) : Nat := fld x.cfg 24 8
def Sp.slew (x : Sp) : Nat := fld x.cfg 16 8
def Sp.cdcmax (x : Sp) : Nat := fld x.cfg 8 8
def Sp.trimen (x : Sp) : Bool := x.cfg.getLsbD 7
def Sp.cdcen (x : Sp) : Bool := x.cfg.getLsbD 6

/-- Open-loop FBS code of a voltage (R215). -/
def Sp.openCode (x : Sp) (v : Nat) : Int :=
  let span : Int := x.vmax.toNat - x.vmin.toNat
  if span ≤ 0 then 0 else clampI 0 4095 (roundDiv (((v : Int) - x.vmin.toNat) * 4095) span)

/-- FBS code of the ramp value with the trim correction (R221). -/
def Sp.recode (x : Sp) : Sp := { x with fbs := (clampI 0 4095 (x.openCode x.ramp + x.corr)).toNat }

/-- CLS code of a current limit (R216). -/
def Sp.clsCode (x : Sp) (i : Nat) : Nat :=
  if x.iclfs = 0 then 1023 else min 1023 ((2 * i * 1024 + x.iclfs.toNat) / (2 * x.iclfs.toNat))

/-- Cable-drop compensation of R222 from the last ten frames, rounded down to a mV (log 20). -/
def Port.cdc (P : Port) : Nat :=
  if P.sp.cdcen = false ∨ P.ms.last = [] then 0
  else
    let n := P.ms.last.length
    let isum := P.ms.last.foldl (fun a x => a + x.2) (0 : Int)
    if isum ≤ 0 then 0
    else min (min (isum.toNat * P.sp.rdrop.toNat / (1000 * n)) (P.sp.cdcmax * 10)) (P.sp.vset * P.pw.pgwin / 2000)

/-- The trim loop may run, the wait after a ramp aside (R221). -/
def Port.trimCan (P : Port) : Bool :=
  P.sp.trimen && P.sp.cen && P.sp.dir && decide (P.pw.mode = .sourceOn) && decide (P.pw.phase = .running)
    && !P.pw.limact && !P.sp.slewing

/-- TRIMRUN: the loop runs (R221). -/
def Port.trimRuns (P : Port) : Bool := P.trimCan && decide (P.sp.wait = 0)

/-- TRIMSAT: |corr| is TRIMMAX and |e| was above 0.5 % (R223). -/
def Sp.trimsat (x : Sp) : Bool := decide (x.corr.natAbs = x.trimmax) && x.eBig

/-- The pass-short check runs (R203, R190 step 1). -/
def State.pschk (s : State) (p : PortId) : Bool :=
  let P := s.port p
  decide (P.pw.mode = .off) && decide (4000 ≤ P.ms.visn.toNat) &&
    (decide (P.pw.turn = .check) ||
      (!P.pw.holdoff && decide (P.tc.st ≠ .attachedSnk) && decide (P.ct.swap = .none) &&
        match P.pw.hoAt with
        | none => true
        | some t => decide (t + 1000 ≤ s.us)))

/-! ### The judgement of a Pn_MN commit (R240) -/

/-- x lies outside lo to hi. -/
def outside (lo hi x : Nat) : Bool := decide (x < lo ∨ hi < x)

/-- BLOCK_COMMIT after a COMMIT (R375). -/
def commitResult (rsn : Nat) : Commit := { cmd := 0xC5, ref := decide (rsn ≠ 0), rsn := BitVec.ofNat 6 rsn }

/-- The live and the staged fields of the block. -/
def Mn.live (m : Mn) : MnVals := { ctl := m.ctl, cfg := m.cfg, vlvl := m.vlvl, ilvl := m.ilvl, trk := m.trk }
def Mn.staging (m : Mn) : MnVals := { ctl := m.ctlS, cfg := m.cfgS, vlvl := m.vlvlS, ilvl := m.ilvlS, trk := m.trkS }

/-- R240: the judgement of fields v on the port as it stands. -/
def Port.mnJudge (P : Port) (v : MnVals) : Nat :=
  let ovp := fld v.vlvl 16 16
  let uvp := fld v.vlvl 0 16
  let ocp := fld v.ilvl 16 16
  let absV := v.cfg.getLsbD 1
  let absI := v.cfg.getLsbD 2
  let M := fld v.ctl 20 4
  let hi := winHi P.pw.pgwin P.ct.typ P.ct.conv.toNat
  let lo := winLo P.pw.pgwin P.ct.typ P.ct.conv.toNat (P.foldback P.ms.i.toInt)
  if outside 1 128 (fld v.ctl 24 8) ∨ outside 1 8 M ∨ outside 1 M (fld v.ctl 16 4) ∨ outside 1 65535 (fld v.ctl 0 16)
      ∨ outside 1000 60000 ovp ∨ outside 0 59000 uvp ∨ outside 100 50000 ocp ∨ outside 50 5000 (fld v.ilvl 0 16)
      ∨ outside 5 100 (fld v.trk 16 8) ∨ outside 15 50 (fld v.trk 8 8) ∨ outside 15 25 (fld v.trk 0 8) then 1
  else if absV ∧ ovp < uvp + 1000 then 0x0C
  else if absV ∧ ovp * 1000 ≤ hi then 0x0D
  else if absV ∧ lo ≤ uvp * 1000 then 0x0E
  else if absI ∧ ocp < P.iLim then 0x0F
  else if absI ∧ P.pw.ocpCap < ocp then 0x0A else 0

/-- A commit of fields v at us, `old` in force before it: accepted, it takes v and restarts the tick and period counts, not
the sieve histories (R240). A commit of the fields in force is accepted as it is (R375). -/
def Port.mnTake (P : Port) (us : Nat) (old v : MnVals) : Mn :=
  let rsn := if v = old then 0 else P.mnJudge v
  let w := if rsn = 0 then v else old
  let m : Mn := { P.mn with
    ctl := w.ctl, cfg := w.cfg, vlvl := w.vlvl, ilvl := w.ilvl, trk := w.trk
    com := commitResult rsn, judged := some (us, old, v) }
  if rsn = 0 then { m with per := 0, begun := false } else m

/-- A change of the held record counts before a Pn_MN commit of the same us, which is judged anew (R240; log 130). -/
def Port.mnAgain (P : Port) (us : Nat) : Mn :=
  match P.mn.judged with
  | some (u, old, v) => if u = us then P.mnTake us old v else P.mn
  | none => P.mn

end Sys2Proof.Machine
end

