-- ==== Sys2Proof/Machine/Ledger.lean ====
section
/-! DEFINITION. The ledger's arithmetic (10): sums, available power, headroom, overdraw, and the ledger operations of
R113, R244 and R267's reservations. -/

namespace Sys2Proof.Machine

/-- Sum of the committed grants. -/
def Ldg.gsum (l : Ldg) : Nat := l.grant.toList.foldl (· + ·) 0

/-- Real reservation of a port. -/
def Ldg.rsv (l : Ldg) (p : PortId) : Nat := l.rsvF[p] + l.rsvA[p]

/-- Sum of the real reservations. -/
def Ldg.rsum (l : Ldg) : Nat := l.rsvF.toList.foldl (· + ·) 0 + l.rsvA.toList.foldl (· + ·) 0

/-- FEEDCAP (R272). -/
def Fed.feedcap (f : Fed) : Nat :=
  let cap (c : FeedSt) := if c.good then c.cap.toNat else 0
  let b := min f.buscap.toNat (cap f.f1 + cap f.f2)
  if f.ew then min b f.shedcap.toNat else b

/-! ### Fabric quantities (R243, R249, R255) -/

/-- The root role (R249). -/
def Fab.root (f : Fab) : Bool := f.cfg.getLsbD 15

/-- Own address: 0 at the root (R249). -/
def Fab.own (f : Fab) : Option (BitVec 14) := if f.root then some 0 else f.addr

/-- A down link is enabled: its bit is 1 and the child's address exists (R249). -/
def Fab.downEn (f : Fab) (k : Fin 2) : Bool :=
  f.cfg.getLsbD (1 + k.val) &&
    match f.own with
    | some a => decide (2 * a.toNat + 1 + k.val ≤ 16382)
    | none => true

/-- TR: open top reservations (R242). -/
def Fab.tr (f : Fab) : Nat := f.txe.toList.foldl (fun a e => if e.opn ∧ !e.pass then a + e.amt else a) 0

/-- X_c as the lease terms count it. -/
def Fab.xc (f : Fab) (k : Fin 2) : Nat := if f.downEn k then f.child[k].x else 0

/-- F_c as the lease terms count it. -/
def Fab.fc (f : Fab) (k : Fin 2) : Nat := if f.downEn k then f.child[k].f else 0

/-- Subtree floor F_sub (R255). -/
def Fab.fsub (f : Fab) : Nat := f.floor.toNat + f.fc 0 + f.fc 1

/-- The lease term of R243. -/
def Fab.term (f : Fab) : Int :=
  if f.root then (f.rootcap.toNat : Int) - (f.fc 0 + f.xc 0) - (f.fc 1 + f.xc 1) - f.tr
  else if f.shed then f.floor.toNat
  else (f.floor.toNat : Int) + f.xin - f.xc 0 - f.xc 1 - f.tr

/-- Open entries on a link (R267). -/
def Fab.openOn (f : Fab) (k : Fin 2) : Nat :=
  f.txe.toList.foldl (fun a e => if e.opn ∧ e.link = k then a + e.amt else a) 0

/-- Room on a link (R267). -/
def Fab.room (f : Fab) (k : Fin 2) : Int :=
  (f.lcap[k].toNat : Int) - (f.child[k].f + f.child[k].x) - f.openOn k

/-- Available power for a choice of sources (R243). -/
def availOf (src : Nat) (feed : Nat) (term : Int) : Nat :=
  if src = 1 then feed else if src = 2 then term.toNat else min feed term.toNat

/-- P_avail (R243). -/
def State.pAvail (s : State) : Nat := availOf (fld s.ldg.cfg 0 2) s.fed.feedcap s.fab.term

/-- Committed grants plus real reservations. -/
def State.used (s : State) : Nat := s.ldg.gsum + s.ldg.rsum

/-- P_avail with the fabric block as f. -/
def State.availWith (s : State) (f : Fab) : Nat := availOf (fld s.ldg.cfg 0 2) s.fed.feedcap f.term

/-- R244: an operation that makes P_avail `a` lowers it, and the sums would exceed it. -/
def State.overAvail (s : State) (a : Nat) : Bool := decide (a < s.pAvail ∧ a < s.used)

/-- R244: an operation that leaves the fabric block as f lowers P_avail, and the sums would exceed it. -/
def State.overBudget (s : State) (f : Fab) : Bool := s.overAvail (s.availWith f)

/-- The headroom of a non-speculative operation, saturating at 0 (R243). -/
def State.headroom (s : State) : Nat := s.pAvail - s.used

/-- C_V of R229. -/
def State.cv (s : State) : Nat := if s.epren then 240000 else 100000

/-- Derated ceiling of a factor (R229). -/
def ceilOf (cv factor : Nat) : Nat := max 4500 (cv * factor / 256)

/-- Derated ceiling of a port. -/
def State.ceil (s : State) (p : PortId) : Nat := ceilOf s.cv (s.port p).ms.factor

/-! ### Overdraw (R246) and changes of P_avail (R245) -/

/-- The lease term alone makes the ledger overdrawn while the device is shedding. -/
def State.leaseAlone (s : State) : Bool :=
  s.fab.shed && !s.fab.root && decide (s.fab.term < s.used) &&
    (decide (fld s.ldg.cfg 0 2 = 2) || decide (s.used ≤ s.fed.feedcap))

/-- The lease expiry in main-timebase us. -/
def State.expiryNow (s : State) : Word :=
  if s.fab.xexp.toNat ≤ s.fab.ftime.toNat then s.now
  else s.now + BitVec.ofNat 32 (s.fab.xexp.toNat - s.fab.ftime.toNat)

/-- CUTDLY from now. -/
def State.cutdlyNow (s : State) : Word := s.now + BitVec.ofNat 32 (fld s.ldg.cfg 8 8 * 10000)

/-- The overdraw state follows the sums and P_avail (R246). -/
def State.overdraw (s : State) : State :=
  if s.used ≤ s.pAvail then s.modLdg fun l => { l with overdrawn := false, cutAt := none, cause := .none }
  else if !s.ldg.overdrawn then
    s.modLdg fun l => { l with
      overdrawn := true
      evt := setB l.evt 2 true
      cutAt := some (if s.leaseAlone then s.expiryNow else s.cutdlyNow)
      cause := if s.leaseAlone then .lease else .cutdly }
  else if s.ldg.cause = .lease ∧ !s.leaseAlone ∧
      until' s.now s.cutdlyNow < until' s.now (s.ldg.cutAt.getD s.cutdlyNow) then
    s.modLdg fun l => { l with cutAt := some s.cutdlyNow, cause := .cutdly }
  else s

/-- The ledger is frozen: a save or a park is under way (R279 step 1). -/
def State.frozen (s : State) : Bool := decide (s.phase = .saving ∨ s.phase = .parked)

/-- After any change: AVAIL and the LEDGER event when P_avail changed, and the overdraw state (R245, R246). -/
def State.settle (s : State) : State :=
  if s.frozen then s else
  let s1 := if s.pAvail ≠ s.ldg.avail then
      (s.modLdg fun l => { l with avail := s.pAvail, evt := setB l.evt 0 true }).raiseLedger 2
    else s
  s1.overdraw

/-! ### Grants and reservations -/

/-- A new grant of a port; a fall first lowers Rp outside a contract to the highest covered level (R38). -/
def State.setGrant (s : State) (p : PortId) (g : Nat) : State :=
  let s1 := s.modTc p fun t =>
    if g < s.ldg.grant[p] ∧ !(s.port p).ct.pd3 then { t with rp := if covered g < t.rp then covered g else t.rp } else t
  s1.modLdg fun l => { l with grant := l.grant.set p g }

/-- n taken from the reservation of a port, the taking core's own share first; `arb`: the arbiter takes. -/
def Ldg.takeRsv (l : Ldg) (p : PortId) (arb : Bool) (n : Nat) : Ldg :=
  if arb then
    { l with rsvA := l.rsvA.set p (l.rsvA[p] - n), rsvF := l.rsvF.set p (l.rsvF[p] - (n - l.rsvA[p])) }
  else
    { l with rsvF := l.rsvF.set p (l.rsvF[p] - n), rsvA := l.rsvA.set p (l.rsvA[p] - (n - l.rsvF[p])) }

/-- Status of LRSV (R113, R244); `tent`: tentative reservations the operation must count (R157). -/
def State.lrsvStatus (s : State) (p : PortId) (tent amt : Nat) : Nat :=
  if s.present p = false then 0x13
  else if s.ceil p < s.ldg.grant[p] + s.ldg.rsv p + amt then 0x11
  else if 0 < amt ∧ s.pAvail < s.used + tent + amt then 0x10
  else 0

/-- LRSV carried out. -/
def State.lrsvDo (s : State) (p : PortId) (arb : Bool) (amt : Nat) : State :=
  (s.modLdg fun l =>
    if arb then { l with rsvA := l.rsvA.set p (l.rsvA[p] + amt) }
    else { l with rsvF := l.rsvF.set p (l.rsvF[p] + amt) }).overdraw

/-- Status of LCMT (R113). -/
def State.lcmtStatus (s : State) (p : PortId) (amt : Nat) : Nat :=
  if s.present p = false then 0x13 else if s.ldg.rsv p < amt then 0x12 else 0

/-- LCMT carried out. -/
def State.lcmtDo (s : State) (p : PortId) (arb : Bool) (amt : Nat) : State :=
  (s.modLdg fun l => l.takeRsv p arb amt).setGrant p (s.ldg.grant[p] + amt)

/-- Status of LREL of a grant (R113). -/
def State.lrelGStatus (s : State) (p : PortId) (amt : Nat) : Nat :=
  if s.present p = false then 0x13 else if amt ≠ 0xFFFFFFFF ∧ s.ldg.grant[p] < amt then 0x14 else 0

/-- LREL of a grant carried out. -/
def State.lrelGDo (s : State) (p : PortId) (amt : Nat) : State := (s.setGrant p (s.ldg.grant[p] - amt)).overdraw

/-- Status of LREL of a reservation (R113). -/
def State.lrelRStatus (s : State) (p : PortId) (amt : Nat) : Nat :=
  if s.present p = false then 0x13 else if amt ≠ 0xFFFFFFFF ∧ s.ldg.rsv p < amt then 0x14 else 0

/-- LREL of a reservation carried out. -/
def State.lrelRDo (s : State) (p : PortId) (arb : Bool) (amt : Nat) : State :=
  (s.modLdg fun l => l.takeRsv p arb (min amt (l.rsv p))).overdraw

end Sys2Proof.Machine
end

