-- ==== Sys2Proof/Machine/TakeBack.lean ====
section
/-! DEFINITION. Premove buffers and take-back (06: R150-R156): tentative reservations, buffer counts, the record of a
resolution, and what a frame that is not accepted does to the premove and to a held EARLY event. -/

namespace Sys2Proof.Machine

/-- Store-buffer entries a staged effect holds (R118: one per store, and per copied word of QPOP and QPEEK). -/
def Staged.sto : Staged → Nat
  | .store _ _ => 1
  | .reg _ _ | .qpush _ _ _ | .qpop _ _ | .qpeekEvent _ _ _ _ | .qpeekSlot _ _ _ | .lrsv _ _ | .lcmt _ _
  | .lrelGrant _ _ | .lrelRsv _ _ | .act _ _ _ | .chk _ | .log _ _ _ | .tset _ _ _ | .tclr _ | .await _ _ => 0

/-- Effect-buffer entries a staged effect holds. -/
def Staged.eff (x : Staged) : Nat := 1 - x.sto

/-- Buffer use of a handler. -/
def Handler.sto (h : Handler) : Nat := h.staged.foldl (fun a x => a + x.sto) 0
def Handler.eff (h : Handler) : Nat := h.staged.foldl (fun a x => a + x.eff) 0

/-- Tentative reservation of a premove: its LRSV that returned DONE (R119, R148). -/
def Handler.tent (h : Handler) : Nat :=
  h.staged.foldl (fun a x => match x with
    | .lrsv amt 0 => a + amt.toNat
    | .lrsv _ _ | .store _ _ | .reg _ _ | .qpush _ _ _ | .qpop _ _ | .qpeekEvent _ _ _ _ | .qpeekSlot _ _ _ | .lcmt _ _
    | .lrelGrant _ _ | .lrelRsv _ _ | .act _ _ _ | .chk _ | .log _ _ _ | .tset _ _ _ | .tclr _ | .await _ _ => a) 0

/-- The unresolved premove of a port, if there is one (R146). -/
def State.premove (s : State) (p : PortId) : Option Handler :=
  (s.core (fileCore p)).run.bind fun h => if h.premove then some h else none

/-- PMV_n_TENT. -/
def State.tentOf (s : State) (p : PortId) : Nat := ((s.premove p).map Handler.tent).getD 0

/-- PMV_TENTSUM: every tentative reservation (R157). -/
def State.tentSum (s : State) : Nat := (List.finRange 8).foldl (fun a p => a + s.tentOf p) 0

/-- Cause codes of PMV_n_LAST. -/
inductive PmvCause where
  | played | badFrame | duplicate | hardReset | cableReset | detach | notAccepted | mismatch | fault | restart
  deriving DecidableEq, Repr

/-- Code of a cause (PMV_n_LAST.CAUSE). -/
def PmvCause.code : PmvCause → Nat
  | .played => 0
  | .badFrame => 1
  | .duplicate => 2
  | .hardReset => 3
  | .cableReset => 4
  | .detach => 5
  | .notAccepted => 6
  | .mismatch => 7
  | .fault => 8
  | .restart => 9

/-- The record of a resolution (R156, PMV_n_COUNT, PMV_n_LAST, PMV_n_LTIME, PMV_EVT). -/
def State.pmvRecord (s : State) (p : PortId) (h : Handler) (c : PmvCause) : State :=
  let s1 := s.modPmv p fun r => { r with
    played := if c = .played then satInc r.played else r.played
    taken := if c = .played then r.taken else satInc r.taken
    last := BitVec.ofNat 32 (c.code * 2 ^ 24 + h.job.slot * 2 ^ 16 + h.eff * 2 ^ 8 + h.sto)
    ltime := s.now }
  let e := if c = .mismatch then setB s1.pmv.evt p.val true
    else if c = .fault then setB s1.pmv.evt (8 + p.val) true else s1.pmv.evt
  { s1 with pmv := { s1.pmv with evt := e } }

/-- Premove scratch becomes undefined: free bytes (R151; log 1). -/
def State.scratchFree (s : State) (c : CoreId) : State :=
  let fresh := (List.range 2048).filterMap fun i =>
    if Config.freeByte (s.freeCtr + i) = 0 then none else some (0x3800 + i, Config.freeByte (s.freeCtr + i))
  let s1 := s.modCore c fun C => { C with data := (C.data.filter fun x => decide (x.1 < 0x3800)) ++ fresh }
  { s1 with freeCtr := s1.freeCtr + 2048 }

/-- A premove is taken back: both buffers are discarded with its tentative reservations, the core is free (R156). -/
def State.takeBack (s : State) (p : PortId) (c : PmvCause) : State :=
  match s.premove p with
  | none => s
  | some h =>
    (((s.modCore (fileCore p) fun C => { C with run := none }).pmvRecord p h c).scratchFree (fileCore p))

/-- The EARLY event of a frame that is not accepted is removed, one held for the end of START too (R147, R134). -/
def Core.dropEarly (C : Core) : Core :=
  { C with jobs := C.jobs.filter fun j => !j.inRx, held := C.held.filter fun r => decide (r.cls ≠ 1) }

/-- A frame that ends without being accepted: its premove is taken back, its EARLY event removed, its slot withdrawn
(R72, R147, R153). -/
def State.frameLost (s : State) (p : PortId) (c : PmvCause) : State :=
  ((s.takeBack p c).modCore (fileCore p) Core.dropEarly).modPd p fun d => { d with rx := none }

end Sys2Proof.Machine
end

