-- ==== Sys2Proof/Machine/PowerPath.lean ====
section
/-! DEFINITION. Power path operations (08): turn-off pulses, power-good, trips and Lid, gate modes, discharge, and the
event commands of the path. -/

namespace Sys2Proof.Machine

/-- Power-good is withdrawn, with PGDOWN when it was given; a sample of the same us no longer counts (R209, R210). -/
def State.pgDown (s : State) (p : PortId) : State :=
  let s1 := s.modPw p fun w => { w with pg := false, pgCnt := 0, pgBad := 0, pgDue := false }
  if (s.port p).pw.pg then s1.pwEvt p 3 else s1

/-- The end of a us in which a sample completed the PGN count: power-good is given, and MOVING clears (R162, R209). A trip of
the us has undone it (R210; log 129). -/
def State.pgGive (s : State) (p : PortId) : State :=
  let P := s.port p
  if P.pw.pgDue then
    let s1 := s.modPort p fun P =>
      let done := P.ct.moving && decide (P.pw.pgn ≤ P.ct.movCnt)
      { P with
        pw := { P.pw with pgDue := false }
        ct := { P.ct with moving := P.ct.moving && !done, movCnt := if done then 0 else P.ct.movCnt } }
    if !P.pw.pg && decide (P.pw.pgn ≤ P.pw.pgCnt) then (s1.modPw p fun w => { w with pg := true }).pwEvt p 2 else s1
  else s

/-- The trim loop stops: TRIMOK clears (R223). -/
def State.trimStop (s : State) (p : PortId) : State :=
  s.modSp p fun x => { x with trimok := false, okRun := 0, badRun := 0 }

/-- Both gates go off: a pending turn-on ends, power-good is withdrawn, the gates leave their mode (R191, R192). -/
def State.gatesOff (s : State) (p : PortId) : State :=
  ((s.modPw p fun w => { w.remember s.us with
    mode := .off, phase := .none, turn := .none, defer := .off, ga := false, gb := false
    revoff := false, limact := false, fastHold := false, frBase := false, ibaseKeep := none }).pgDown p).trimStop p

/-- Both turn-off pulse generators fire: both gates go off and the hold-off begins (R187, R188). -/
def State.fireGens (s : State) (p : PortId) : State := (s.gatesOff p).modPw p fun w => { w with holdoff := true }

/-- CEN goes low (R197). -/
def State.cenLow (s : State) (p : PortId) : State := (s.modSp p fun x => { x with cen := false }).trimStop p

/-- The hardware starts a discharge (R207); after a discharge fault the bleed is not driven until Lid clears (R197;
log 132). -/
def State.dscStart (s : State) (p : PortId) : State :=
  s.modPw p fun w => { w with dscHw := w.dscHw || !(w.lid && w.lidDsc) }

/-- A Pn_MN commit of this us is judged anew after a change of the held record (R240). -/
def State.mnAgain (s : State) (p : PortId) : State := s.modPort p fun P => { P with mn := P.mnAgain s.us }

/-- VB as a command reports it; a fault-blocked attach is released below 0.8 V (R47). -/
def State.setVb (s : State) (p : PortId) (vb : Nat) : State :=
  s.modPort p fun P => { P with
    pw := { P.pw with vbPin := vb }
    tc := if vb < 800 then P.tc.vbBelow else P.tc }

/-- Trip causes of R198 whose sieve output is 1, as bits c - 1 of ALSO. -/
def Mn.alsoBits (m : Mn) : Nat :=
  (if m.out.getLsbD 2 then 4 else 0) + (if m.out.getLsbD 3 then 8 else 0) + (if m.out.getLsbD 0 then 16 else 0)
    + (if m.out.getLsbD 1 then 32 else 0)

/-- ALSO and CAUSE of a trip record after the causes of a set, as bits c - 1, are added to those it holds: CAUSE is the first
of R198's table, the others are in ALSO. -/
def tripCauses (old causes sieves : Nat) : Nat × Nat :=
  let c := ((List.range 12).find? fun i => causes.testBit i).getD 0
  ((old ||| causes ||| sieves) &&& (0xFFF - 2 ^ c), c + 1)

/-- A trip was taken in this us. -/
def Pw.trippedAt (w : Pw) (us : Nat) : Bool := decide (w.tripUs = some us)

/-- The causes a trip record holds by now: its CAUSE, and of ALSO those that tripped or would have. -/
def Pw.tripWord (w : Pw) (g : GateSt) (us c sieves : Nat) : Word :=
  if w.trippedAt us then
    let x := tripCauses (fld w.trip 16 12) (2 ^ (fld w.trip 8 8 - 1) ||| 2 ^ (c - 1)) sieves
    setF (setF w.trip 16 12 x.1) 8 8 x.2
  else
    let x := tripCauses 0 (2 ^ (c - 1)) sieves
    BitVec.ofNat 32 (x.1 * 2 ^ 16 + x.2 * 2 ^ 8 + g.phase.code * 2 ^ 6 + g.mode.code * 2 ^ 4 + g.limact.toNat)

/-- A trip with cause code c (R197, R198). A further cause in the us of a trip joins its record. DSCFAULT releases DSC
(R207). -/
def State.trip (s : State) (p : PortId) (c : Nat) : State :=
  let P := s.port p
  let g := P.pw.gatesAt s.us
  let first := !P.pw.trippedAt s.us
  let s1 := s.modPw p fun w => { w with
    trip := w.tripWord g s.us c P.mn.alsoBits, tripUs := some s.us
    ttime := if first then s.now else w.ttime
    tvb := if first then P.ms.vb else w.tvb, ti := if first then P.ms.i else w.ti
    tvgsa := if first then w.vgsa else w.tvgsa, tvgsb := if first then w.vgsb else w.tvgsb
    tripcnt := if first then satInc w.tripcnt else w.tripcnt
    lid := true, lidAt := s.now, lidOk := false
    lidDsc := (w.lid && w.lidDsc) || decide (c = 0x0B) }
  let s2 := (s1.fireGens p).cenLow p
  let s3 :=
    if c = 0x0B then s2.modPw p fun w => { w with dscHw := false, dscAct := false }
    else if P.tc.st = .attachedSnk then s2 else s2.dscStart p
  s3.pwEvt p 0

/-- Sieve outputs latched in the us of a trip that do not trip are set in ALSO (R198). -/
def State.tripAlso (s : State) (p : PortId) : State :=
  let P := s.port p
  if P.pw.trippedAt s.us then
    s.modPw p fun w => { w with
      trip := setF w.trip 16 12 ((fld w.trip 16 12 ||| P.mn.alsoBits) &&& (0xFFF - 2 ^ (fld w.trip 8 8 - 1))) }
  else s

/-! ### Gate modes (R189-R191, R425) -/

/-- Histories of the sieves in the mask are set to 0: their trip inputs become armed (R234). -/
def Mn.arm (m : Mn) (mask : Nat) : Mn :=
  { m with
    hist := Vector.ofFn fun i => if mask.testBit i.val then 0 else m.hist[i]
    out := m.out &&& ~~~(BitVec.ofNat 4 mask) }

/-- Entry to ideal-diode mode: GA driven fully on, PHASE running (R425). -/
def State.idealOn (s : State) (p : PortId) : State :=
  (s.modPw p fun w => { w with
    mode := .idealDiode, phase := .running, turn := .none, defer := .off, ga := true, gb := false, revoff := false }).modMn p
      fun m => m.arm 0x5

/-- First failing condition of a turn-on (R189), as an ACTRSN code; 0 when it is accepted. A partner that shows Rd, or Rp,
on both pins is no partner of the port's state (R48; log 114). -/
def State.gateRsn (s : State) (p : PortId) (v : Nat) : Nat :=
  let P := s.port p
  if P.pw.pen = false then 2
  else if P.pw.lid then 1
  else if P.pw.dsc then 3
  else if v = 1 then
    if P.pw.mode = .idealDiode ∨ P.sp.cen = false ∨ P.sp.dir = false then 4
    else if P.tc.st ≠ .attachedSrc ∨ P.tc.rdPins = 2 then 5 else 0
  else
    if P.pw.mode = .sourceOn ∨ P.sp.dir then 4 else if P.tc.st ≠ .attachedSnk ∨ P.tc.rpPins = 2 then 5 else 0

/-- The refusal of a GATE, CONV or DSC write (R189). -/
def State.actRefuse (s : State) (p : PortId) (rsn : Nat) : State :=
  s.modPw p fun w => { w with actrsn := BitVec.ofNat 4 rsn }

/-- An accepted turn-on, or its deferral to the end of the hold-off (R187, R190, R425). -/
def State.turnOn (s : State) (p : PortId) (m : GateMode) : State :=
  if (s.port p).pw.holdoff then s.modPw p fun w => { w with defer := m }
  else match m with
    | .off => s
    | .sourceOn => s.modPw p fun w => { w with turn := .check, defer := .off }
    | .idealDiode => s.idealOn p

/-- GATE write of a file core (R114, R189): status and state. -/
def State.gateWrite (s : State) (p : PortId) (v : Word) : Nat × State :=
  let P := s.port p
  if v = 0 then
    (0, if P.pw.mode = .off ∧ P.pw.turn = .none ∧ P.pw.defer = .off then s else s.fireGens p)
  else if v = 1 then
    if P.pw.mode = .sourceOn then (0, s)
    else if s.gateRsn p 1 ≠ 0 then (0x20, s.actRefuse p (s.gateRsn p 1))
    else if P.pw.turn ≠ .none ∨ P.pw.defer = .sourceOn then (0, s)
    else (0, s.turnOn p .sourceOn)
  else if v = 2 then
    if P.pw.mode = .idealDiode then (0, s)
    else if s.gateRsn p 2 ≠ 0 then (0x20, s.actRefuse p (s.gateRsn p 2))
    else (0, s.turnOn p .idealDiode)
  else (0x20, s)

/-- DSC write (R207): status and state. -/
def State.dscWrite (s : State) (p : PortId) (v : Word) : Nat × State :=
  let P := s.port p
  if v = 0 then (0, s.modPw p fun w => { w with dscAct := false })
  else if v = 1 then
    if P.pw.lid ∧ P.pw.lidDsc then (0x20, s.actRefuse p 1)
    else if P.pw.mode ≠ .off then (0x20, s.actRefuse p 6)
    else (0, s.modPw p fun w => { w with dscAct := true })
  else (0x20, s)

/-! ### Event commands of the path -/

/-- R200, R201: a write of Pn_PW_CTL.PEN. An arbiter write of 1 is ignored. -/
def State.penWrite (s : State) (p : PortId) (w : Who) (v : Bool) : State :=
  if v then
    if w = .arbiter then s
    else
      let W := (s.port p).pw
      let s1 := s.modPw p fun x => { x with ctl := setB x.ctl 0 true }
      if W.lid ∧ W.pen = false then
        if W.lidOk then (s1.modPw p fun x => { x with lid := false, lidDsc := false }).pwEvt p 6 else s1.pwEvt p 7
      else s1
  else (s.modPw p fun x => { x with ctl := setB x.ctl 0 false }).fireGens p

/-- HSLVL lies below the LIMIT_ORDER bound of R213. -/
def limitOrderBad (hslvl inrlim runmarg rsns : Nat) : Bool :=
  decide (hslvl * 10000000 < 12 * max (inrlim * 100) (5000 * (100 + runmarg)) * rsns)

/-- R21, Pn_PW_CTL.RSNS: a write outside the range, against LIMIT_ORDER, or while the block runs changes nothing. -/
def State.rsnsWrite (s : State) (p : PortId) (v : Byte) : State :=
  let W := (s.port p).pw
  if W.mode ≠ .off ∨ v.toNat < 20 ∨ 200 < v.toNat ∨ limitOrderBad W.hslvl W.inrlim W.runmarg v.toNat then s
  else s.modPw p fun x => { x with ctl := setF x.ctl 8 8 v.toNat }

/-- R190 step 2: GB is driven on. -/
def State.turnOnCheckDone (s : State) (p : PortId) : State :=
  if (s.port p).pw.turn = .check then
    (s.modPw p fun w => { w with turn := .gateB, mode := .sourceOn, phase := .inrush, gb := true }).modMn p fun m => m.arm 0xD
  else s

/-- R190: the turn-on is abandoned. -/
def State.noconv (s : State) (p : PortId) : State :=
  if (s.port p).pw.turn = .check then (s.modPw p fun w => { w with turn := .none }).pwEvt p 9 else s

/-- R187: the hold-off ends, and a deferred turn-on proceeds. -/
def State.holdoffEnd (s : State) (p : PortId) : State :=
  if (s.port p).pw.holdoff then
    (s.modPw p fun w => { w with holdoff := false, hoAt := some s.us, defer := .off }).turnOn p (s.port p).pw.defer
  else s

/-- R190 step 3: GA is released to the limit loop. -/
def State.gateBRisen (s : State) (p : PortId) : State :=
  if (s.port p).pw.turn = .gateB then s.modPw p fun w => { w with turn := .gateA, ga := true } else s

/-- R190 step 4: PHASE becomes running. -/
def State.inrushEnd (s : State) (p : PortId) : State :=
  if (s.port p).pw.turn = .gateA ∧ !(s.port p).pw.limact then
    ((s.modPw p fun w => { w with turn := .none, phase := .running }).modMn p fun m => m.arm 0x2).pwEvt p 1
  else s

/-- R192, R194: the sensed magnitude, `ma` at a VDS_A of `vds` mV, reaches I_eff: LIMACT sets, the fault timer starts,
power-good is withdrawn. Held off in fast sourcing (R206). -/
def State.limitEngage (s : State) (p : PortId) (ma vds : Nat) : State :=
  let W := (s.port p).pw
  if (W.ga || W.gb) && !W.limact && !W.fastHold && decide (s.iEff p vds ≤ ma) then
    ((s.modPw p fun w => { w with limact := true }).pgDown p).trimStop p
  else s

/-- R194, R199: the magnitude has stayed below 0.95 x I_eff for 20 us: LIMACT clears, and a UVP output that is still 1
trips. -/
def State.limitRelease (s : State) (p : PortId) (ma vds : Nat) : State :=
  if (s.port p).pw.limact && decide (100 * ma < 95 * s.iEff p vds) then
    let s1 := s.modPw p fun w => { w with limact := false, limOff := some s.us }
    if (s1.port p).pw.gates.uvpArmed && (s1.port p).mn.out.getLsbD 1 then s1.trip p 6 else s1
  else s

/-- R194: the fault timer reaches FTIM, also in the us in which the loop releases or the gates go off (log 129). The cause
goes by the mode in force. -/
def State.faultTimer (s : State) (p : PortId) : State :=
  let g := (s.port p).pw.gatesAt s.us
  if g.limact || decide ((s.port p).pw.limOff = some s.us) then s.trip p (if s.simmerOf p g.mode then 8 else 7) else s

/-- R202: a gate has not risen at TRISE. -/
def State.gwrVgs (s : State) (p : PortId) : State :=
  let W := (s.port p).pw.gatesAt s.us
  if W.turn = .gateB ∨ (W.turn = .gateA ∧ !W.limact) ∨ (W.mode = .idealDiode ∧ !W.revoff) then s.trip p 9 else s

/-- R202: a drain-source voltage stays above 250 mV. -/
def State.gwrVds (s : State) (p : PortId) : State :=
  let W := (s.port p).pw.gatesAt s.us
  if W.mode = .sourceOn ∨ (W.mode = .idealDiode ∧ !W.revoff ∧ !W.limact) then s.trip p 0x0A else s

/-- R198: a fully-on gate sags below 6 V. -/
def State.pumpuv (s : State) (p : PortId) : State :=
  let W := (s.port p).pw.gatesAt s.us
  if W.mode ≠ .off ∧ !W.revoff then s.trip p 0x0C else s

/-- R203: the pass-short check finds a shorted pair. -/
def State.passshort (s : State) (p : PortId) : State := if s.pschk p then s.trip p 2 else s

/-- R204: reverse turn-off; disarmed in fast sourcing (R206). -/
def State.idealReverse (s : State) (p : PortId) : State :=
  let W := (s.port p).pw
  if W.mode = .idealDiode ∧ !W.revoff ∧ !W.faston then
    (((s.modPw p fun w => { w with
      ga := false, gb := false, holdoff := true, revoff := true, limact := false, ibaseKeep := none
      revcnt := satInc w.revcnt }).pgDown p).pwEvt p 4)
  else s

/-- R205: ideal-diode operation resumes once the hold-off has ended. -/
def State.idealResume (s : State) (p : PortId) : State :=
  let W := (s.port p).pw
  if W.mode = .idealDiode ∧ W.revoff ∧ !W.holdoff then
    (s.modPw p fun w => { w with revoff := false, ga := true, gb := false }).pwEvt p 5
  else s

/-- R188: V5 below 4.3 V fires the generators of all ports and sets SUPPLY; Lid is not latched. -/
def State.v5Drop (s : State) : State :=
  s.forPresent fun s p => (s.fireGens p).pwEvt p 10

/-- R192: I_base takes the lower value. -/
def State.ibaseExpiry (s : State) (p : PortId) : State := s.modPw p fun w => { w with ibaseKeep := none }

/-- R207: a hardware-started discharge ends below 0.8 V. -/
def State.dscDone (s : State) (p : PortId) (vb : Nat) : State :=
  let s0 := s.setVb p vb
  if (s0.port p).pw.dscHw ∧ vb < 800 then (s0.modPw p fun w => { w with dscHw := false }).pwEvt p 8 else s0

/-- R192: when HELDI falls with a gate on, the previous higher value stays in I_base. -/
def State.heldFalls (s : State) (p : PortId) (new : Nat) : State :=
  let P := s.port p
  if new < P.ct.coni.toNat ∧ (P.pw.ga || P.pw.gb) then
    s.modPw p fun w => { w with ibaseKeep := some (max P.ct.coni.toNat (w.ibaseKeep.getD 0)) }
  else s

end Sys2Proof.Machine
end

