-- ==== Sys2Proof/Machine/SetPoint.lean ====
section
/-! DEFINITION. Set-point drive (09): VSET, ILIM and CONV writes, the ramp, the trim loop, and the VCONN actuator (02). -/

namespace Sys2Proof.Machine

/-- A refused VSET or ILIM write (R217): SPRSN and the REFUSED event. -/
def State.spRefuse (s : State) (p : PortId) (rsn : Nat) : State :=
  (s.modSp p fun x => { x with sprsn := BitVec.ofNat 4 rsn }).spEvt p 3

/-- SPRSN of a VSET write, 0 when it is accepted (R217). -/
def Port.vsetRsn (P : Port) (v : Word) : Nat :=
  if v.toNat ≥ 65536 then 4
  else if v.toNat < P.sp.vmin.toNat ∨ P.sp.vmax.toNat < v.toNat then 1
  else if P.sp.dir ∧ winHi P.pw.pgwin P.ct.typ P.ct.conv.toNat < v.toNat * 1000 then 2 else 0

/-- An accepted VSET: at once while CEN = 0 or on the first write after CEN rose, else a ramp (R219). -/
def Sp.vsetDo (x : Sp) (v : Nat) : Sp :=
  if x.cen = false ∨ x.exempt then
    ({ x with vset := v, ramp := v, slewing := false, exempt := x.exempt && !x.cen } : Sp).recode
  else { x with vset := v, slewing := decide (x.ramp ≠ v) }

/-- The trim target follows VSET (R221, R222). -/
def State.retarget (s : State) (p : PortId) : State :=
  s.modPort p fun P => { P with sp := { P.sp with target := P.sp.vset + P.cdc } }

/-- VSET write (R217, R219): status and state. -/
def State.vsetWrite (s : State) (p : PortId) (v : Word) : Nat × State :=
  let P := s.port p
  if P.vsetRsn v ≠ 0 then (0x20, s.spRefuse p (P.vsetRsn v))
  else
    let s1 := (s.modSp p fun x => x.vsetDo v.toNat).retarget p
    if P.sp.slewing ∧ (s1.port p).sp.slewing = false then (0, (s1.modSp p fun x => { x with wait := 2 }).spEvt p 2)
    else if (s1.port p).sp.slewing then (0, s1.trimStop p) else (0, s1)

/-- SPRSN of an ILIM write, 0 when it is accepted (R217). -/
def Port.ilimRsn (P : Port) (v : Word) : Nat :=
  if v.toNat ≥ 65536 then 4 else if P.sp.iclfs.toNat < v.toNat then 3 else 0

/-- ILIM write (R216, R217): status and state. -/
def State.ilimWrite (s : State) (p : PortId) (v : Word) : Nat × State :=
  let P := s.port p
  if P.ilimRsn v ≠ 0 then (0x20, s.spRefuse p (P.ilimRsn v))
  else (0, s.modSp p fun x => { x with ilim := v.toNat, cls := x.clsCode v.toNat })

/-- CONV set to CEN and DIR (R218, R219). -/
def Sp.convDo (x : Sp) (cen dir : Bool) : Sp :=
  { x with cen, dir, exempt := if cen && !x.cen then true else x.exempt }

/-- ACTRSN of a CONV write, 0 when it is accepted (R218). -/
def Port.convRsn (P : Port) (v : Word) : Nat :=
  if v.getLsbD 0 && P.pw.lid then 1
  else if v.getLsbD 1 ≠ P.sp.dir ∧ P.pw.mode ≠ .off then 6
  else if v.getLsbD 1 ≠ P.sp.dir ∧ P.sp.cen then 4 else 0

/-- CONV write (R218): status and state. -/
def State.convWrite (s : State) (p : PortId) (v : Word) : Nat × State :=
  let P := s.port p
  if v.toNat ≥ 4 then (0x20, s)
  else if P.convRsn v ≠ 0 then (0x20, s.actRefuse p (P.convRsn v))
  else
    let s1 := s.modSp p fun x => x.convDo (v.getLsbD 0) (v.getLsbD 1)
    (0, if v = 3 then s1 else s1.trimStop p)

/-- VCONN write (R49, R50, R114): never onto a pin not classified Ra at attach. -/
def State.vconnWrite (s : State) (p : PortId) (v : Word) : Nat × State :=
  let P := s.port p
  if v = 0 then (0, s.modTc p fun t => { t with vconn := false })
  else if v = 1 then
    if P.tc.attached && P.ct.rapin then (0, s.modTc p fun t => { t with vconn := true }) else (0x20, s)
  else (0x20, s)

/-- R114: the write of actuator j of port p. -/
def State.actWrite (s : State) (p : PortId) (j : Nat) (v : Word) : Nat × State :=
  if j = 0 then s.vsetWrite p v else if j = 1 then s.ilimWrite p v else if j = 2 then s.convWrite p v
  else if j = 3 then s.gateWrite p v else if j = 4 then s.dscWrite p v else if j = 5 then s.vconnWrite p v else (0x13, s)

/-- One us of a ramp (R219): toward VSET by SLEW mV, with the FBS code of the new value. -/
def Sp.rampTick (x : Sp) : Sp :=
  if x.slewing then
    ({ x with ramp := if x.ramp ≤ x.vset then min x.vset (x.ramp + x.slew) else max x.vset (x.ramp - x.slew) } : Sp).recode
  else x

/-- R219: the ramp reaches VSET: SLEWING clears, SLEWEND is set, and the wait of the trim loop begins (R221). -/
def State.slewEnd (s : State) (p : PortId) : State :=
  if (s.port p).sp.slewing ∧ (s.port p).sp.ramp = (s.port p).sp.vset then
    (s.modSp p fun x => { x with slewing := false, wait := 2 }).spEvt p 2
  else s

/-- One evaluation of the trim loop on the frames of P (R221, R223). The error is scaled by the number of frames. -/
def Port.trimStep (P : Port) : Sp :=
  let x := P.sp
  let n : Int := P.ms.last.length
  let target := x.vset + P.cdc
  let e : Int := n * target - P.ms.last.foldl (fun a y => a + (y.1 : Int)) 0
  let mag := e.natAbs
  let span : Int := x.vmax.toNat - x.vmin.toNat
  let step : Int := clampI (-8) 8 (roundDiv (e * 4095) (2 * n * span))
  let lim : Int := x.trimmax
  let corr := if n * target < (mag : Int) * 1000 then clampI (-lim) lim (x.corr + step) else x.corr
  let ok := decide ((mag : Int) * 200 ≤ n * target)
  let bad := decide (n * target < (mag : Int) * 100)
  let okRun := if ok then x.okRun + 1 else 0
  let badRun := if bad then x.badRun + 1 else 0
  ({ x with
    target, corr, okRun, badRun, eBig := !ok
    trimok := if 3 ≤ okRun then true else if 3 ≤ badRun then false else x.trimok } : Sp).recode

/-- The wait of one whole period after a ramp, at a trim boundary: it counts whether or not the loop may run otherwise
(R221). -/
def Sp.boundary (x : Sp) : Sp := if x.slewing then x else { x with wait := x.wait - 1 }

/-- R221: a trim boundary. Where the loop runs, it evaluates. -/
def State.trimEval (s : State) (p : PortId) : State :=
  let s0 := s.modSp p Sp.boundary
  let P := s0.port p
  if !P.trimRuns then s0.trimStop p
  else if P.ms.last = [] then s0
  else
    let s1 := s0.modSp p fun _ => P.trimStep
    let s2 := if P.trimStep.trimok && !P.sp.trimok then s1.spEvt p 0 else s1
    if P.trimStep.trimsat && !P.sp.trimsat then s2.spEvt p 1 else s2

/-- Fast sourcing presets (R220): DIR and CEN go to 1, FBS and CLS take the preset codes without a ramp. A ramp ends with it,
and the wait of the trim loop begins (R221). -/
def Sp.preset (x : Sp) (ma : Nat) : Sp :=
  ({ x with cen := true, dir := true, vset := 5000, ramp := 5000, slewing := false, exempt := false
            wait := if x.slewing then 2 else x.wait
            ilim := ma, cls := x.clsCode ma } : Sp).recode

end Sys2Proof.Machine
end

