-- ==== Sys2Proof/Machine/Link.lean ====
section
/-! DEFINITION. Queue entries and link operations of the PHY that resets, detach and contracts share (03): how a TX entry
ends, message identity, and the effects of Hard Reset and detach on the link. -/

namespace Sys2Proof.Machine

/-- Code of ST (R81). -/
def EntSt.code : EntSt → Nat
  | .empty => 0
  | .receiving => 1
  | .received => 2
  | .pending => 3
  | .transmitting => 4
  | .sent => 5
  | .failed => 6
  | .discarded => 7

/-- STAT byte of an entry (R80). -/
def Entry.stat (e : Entry) : Byte := BitVec.ofNat 8 (e.st.code * 32 + e.rsn.toNat)

/-- The 40 bytes of an entry (R80). -/
def Entry.bytes (e : Entry) : List Byte :=
  [e.stat, e.len] ++ leBytes 2 e.hdr.toNat ++ leBytes 2 e.ext.toNat ++ [e.flg, e.seq] ++ e.data.toList
    ++ leBytes 4 e.time.toNat

/-- The entry that 40 bytes spell; STAT, SEQ and TIME are the queue's to fill (R79, R80). -/
def Entry.ofBytes (b : List Byte) : Entry :=
  { len := b.getD 1 0
    hdr := BitVec.ofNat 16 (ofLe ((b.drop 2).take 2)), ext := BitVec.ofNat 16 (ofLe ((b.drop 4).take 2))
    flg := b.getD 6 0, data := toVec 28 (b.drop 8) }

/-- A full queue: eight occupied slots (R76). -/
def Queue.full (q : Queue) : Bool := decide (8 ≤ q.ents.length)

/-- Completed entries that still have a slot of their own (R78). -/
def Queue.trim (q : Queue) : Queue := { q with fin := q.fin.drop (q.ents.length + q.fin.length - 8) }

/-- An entry appended with the next SEQ (R79). -/
def Queue.push (q : Queue) (e : Entry) : Queue :=
  ({ q with ents := q.ents ++ [{ e with seq := q.seq }], seq := q.seq + 1 } : Queue).trim

/-- The head removed (R84) at us t. -/
def Queue.pop (q : Queue) (t : Nat) : Queue :=
  { q with ents := q.ents.drop 1, freed := if q.full then some t else q.freed }

/-- The queue had no free slot at us t, which lies before us `us` with no entry added since: it is full now, or a pop after
t made room (R60). -/
def Queue.fullAt (q : Queue) (t : Nat) : Bool := q.full || (q.freed.map fun f => decide (t < f)).getD false

/-- The TX queue of a SOP* type (R76). -/
def txQ (x : Sop) : Fin 8 := if x = .sop then 1 else if x = .sopP then 3 else 5

/-- The RX queue of a SOP* type (R76). -/
def rxQ (x : Sop) : Fin 8 := if x = .sop then 0 else if x = .sopP then 2 else 4

/-- SOP* type of a queue. -/
def qSop (k : Fin 8) : Sop := if k.val / 2 = 0 then .sop else if k.val / 2 = 1 then .sopP else .sopPP

/-- Pn_PD_EVT bit of an end of transmission (R78). -/
def endBit : EntSt → Nat
  | .sent => 2
  | .discarded => 4
  | .failed | .empty | .receiving | .received | .pending | .transmitting => 3

/-- The events of an ended entry: its Pn_PD_EVT bit, the failure count, and TXEND (R75, R78, R125). -/
def State.txEndEvt (s : State) (p : PortId) (k : Fin 8) (e : Entry) : State :=
  (s.modPd p fun d => { d with
    evt := setB d.evt (endBit e.st) true
    nFail := if e.st = .failed then satInc d.nFail else d.nFail }).raiseCoal (fileCore p) 3
      (BitVec.ofNat 32 (2 ^ (k.val / 2) + e.stat.toNat * 256))

/-- Entry i of a TX queue ends; `eop`: the EOP of its last attempt, which its TIME takes (R78). -/
def State.txEnd (s : State) (p : PortId) (k : Fin 8) (i : Nat) (st : EntSt) (rsn : Nat) (eop : Option Word) :
    State :=
  match (s.queue p k).ents[i]? with
  | none => s
  | some e =>
    let e1 : Entry := { e with st, rsn := BitVec.ofNat 5 rsn, time := eop.getD e.time, held := false }
    (s.modQ p k fun q => ({ q with ents := q.ents.eraseIdx i, fin := q.fin ++ [e1] } : Queue).trim).txEndEvt p k e1

/-- The first n entries of a TX queue fail with a reason. -/
def State.failN : Nat → State → PortId → Fin 8 → Nat → State
  | 0, s, _, _, _ => s
  | n + 1, s, p, k, rsn =>
    let busy := ((s.queue p k).ents.head?.map fun e => decide (e.st = .transmitting)).getD false
    State.failN n (s.txEnd p k 0 .failed rsn (if busy then (s.port p).pd.tx.bind fun b => b.eop else none)) p k rsn

/-- Every entry of a TX queue fails with a reason (R73). -/
def State.failQ (s : State) (p : PortId) (k : Fin 8) (rsn : Nat) : State :=
  State.failN (s.queue p k).ents.length s p k rsn

/-- Every entry of the three TX queues fails with a reason (R73). -/
def State.failAll (s : State) (p : PortId) (rsn : Nat) : State := ((s.failQ p 1 rsn).failQ p 3 rsn).failQ p 5 rsn

/-- MessageID state of every type reset: counters 0, stored IDs invalid (R73). -/
def Phy.msgReset (d : Phy) : Phy := { d with txId := Vector.replicate 3 0, rxVal := Vector.replicate 3 false }

/-- Rp of a port that presents it: under a PD 3.x contract by collision avoidance, else RPLVL as far as the grant covers
it (R38, R39, R70). -/
def State.rpSet (s : State) (p : PortId) : State :=
  let P := s.port p
  let base : Fin 3 :=
    if ctlRplvl P.tc.ctl < (covered s.ldg.grant[p]).val then (if ctlRplvl P.tc.ctl = 0 then 0 else 1)
    else covered s.ldg.grant[p]
  let lvl : Fin 3 := if P.ct.pd3 then (if P.pd.amsOpen then 1 else 2) else base
  s.modTc p fun t => { t with rp := lvl }

/-- Hard Reset on the link (R73): all TX entries fail HARD_RESET, the frame under reception is withdrawn and its premove
taken back, MessageID state resets, the PHY enters the Hard Reset wait. A BIST carrier ends with it, with no BISTEND and its
command left at CST 0x03 (log 122). -/
def State.phyHardReset (s : State) (p : PortId) : State :=
  ((s.frameLost p .hardReset).failAll p 3).modPd p fun d => { d.msgReset with
    tx := none, crcDue := none, amsOpen := false, bistTd := false, bistCar := false, hrwait := true }

/-- Detach on the link (R73, R74): all TX entries fail DETACH, the PHY is off until the next attach. A BIST carrier, and a
commanded Hard or Cable Reset not yet sent, end with it, their command left at CST 0x03 (log 122). -/
def State.phyDetach (s : State) (p : PortId) : State :=
  ((s.frameLost p .detach).failAll p 4).modPd p fun d => { d.msgReset with
    tx := none, crcDue := none, amsOpen := false, sinkOk := false, bistTd := false, bistCar := false
    hrwait := false, hrPend := false, crPend := false }

end Sys2Proof.Machine
end

