-- ==== Sys2Proof/Machine/Contract.lean ====
section
/-! DEFINITION. Contract record, swaps and the Hard Reset sequence (07), as far as they need no Type-C transition. -/

namespace Sys2Proof.Machine

/-- The contract of a port no longer in force as PD 3.x source: Rp returns to RPLVL (R38, R39). -/
def State.pd3Off (s : State) (p : PortId) : State :=
  if (s.port p).ct.pd3 then (s.modCt p fun c => { c with pd3 := false }).rpSet p else s

/-- The held record becomes TYPE = none, its staging copies too; `cable`: the cable bits are cleared as well (R160). -/
def State.heldNone (s : State) (p : PortId) (cable : Bool) : State :=
  (((s.heldFalls p 0).modCt p fun c =>
    let keep : Word := if cable then 0 else c.concfg &&& 0x6000
    { c with conv := 0, convS := 0, coni := 0, coniS := 0, concfg := keep, concfgS := keep
             moving := false, movCnt := 0, convOld := 0, typOld := 0 }).mnAgain p).pd3Off p

/-- ARM cleared, with its staging copy (R180, R375). -/
def Ct.armOff (c : Ct) : Ct := { c with frs := setB c.frs 7 false, frsS := setB c.frsS 7 false }

/-- SWAP returns to none; the flags of the swap and fast sourcing end with it (R180, R206). -/
def State.swapOff (s : State) (p : PortId) : State :=
  s.modPort p fun P => { P with
    ct := { P.ct with swap := .none, termed := false, frsSrc := false, frsSig := false }
    pw := { P.pw with faston := false, fastHold := false } }

/-- A swap and a Hard Reset sequence of a port end together (R281, R312). -/
def State.sequenceOff (s : State) (p : PortId) : State :=
  (s.swapOff p).modCt p fun c => { c with hrseq := .none, hrTurn := false, hrStep3 := false }

/-- A Pn_PD_ROLE command with its status. -/
def State.rcmdSet (s : State) (p : PortId) (cmd : Byte) (ok : Bool) : State :=
  s.modCt p fun c => { c with rcmd := { cmd, cst := if ok then 1 else 2 } }

/-- R181 steps 1 and 2: a Hard Reset begins or begins anew on the PP side. Step 2 fires no generator (R188). -/
def State.hrBegin (s : State) (p : PortId) : State :=
  let src := decide ((s.port p).tc.st = .attachedSrc)
  let s1 := ((s.swapOff p).heldNone p false).modCt p fun c => { c.armOff with
    hrseq := .before4, hrSrc := src, hrStep3 := false, hrTurn := false }
  if src then s1 else (s1.cenLow p).gatesOff p

/-- A Hard Reset on the link and on the power path (R73, R181). -/
def State.hardReset (s : State) (p : PortId) : State := (s.phyHardReset p).hrBegin p

/-- R174 PRS_BEGIN: old source or old sink from PROLE. -/
def State.prsBegin (s : State) (p : PortId) : State :=
  let P := s.port p
  if P.tc.attached ∧ P.ct.swap = .none ∧ P.ct.hrseq = .none then
    ((s.heldNone p false).modCt p fun c => { c.armOff with
      swap := if P.pd.ctl.getLsbD 4 then .oldSource else .oldSink, termed := false }).rcmdSet p 0x50 true
  else s.rcmdSet p 0x50 false

/-- R174 TERM: terminations and STATE change, and PROLE is inverted, in one tick; no ATTACH, POL unchanged. -/
def State.term (s : State) (p : PortId) (vb : Nat) : State :=
  let P := s.port p
  if P.ct.swap = .none ∨ (P.ct.swap = .oldSource ∧ 800 ≤ vb) then s.rcmdSet p 0x54 false
  else
    let toSrc := decide (P.tc.st ≠ .attachedSrc)
    let s1 := s.modPort p fun P => { P with
      tc := { P.tc with st := if toSrc then .attachedSrc else .attachedSnk, pres := if toSrc then .rp else .rd }
      pd := { P.pd with ctl := setB P.pd.ctl 4 (!P.pd.ctl.getLsbD 4) }
      ct := { P.ct with termed := true } }
    (s1.rpSet p).rcmdSet p 0x54 true

/-- R174 SWAP_END; ARM is cleared (R180), FASTON clears (R206). -/
def State.swapEnd (s : State) (p : PortId) : State :=
  if (s.port p).ct.termed then ((s.swapOff p).modCt p Ct.armOff).rcmdSet p 0x45 true else s.rcmdSet p 0x45 false

/-- R175: VB below 0.8 V during a swap. -/
def State.safe0 (s : State) (p : PortId) (vb : Nat) : State :=
  let s0 := s.setVb p vb
  if (s0.port p).ct.swap ≠ .none ∧ vb < 800 then s0.cEvt p 3 else s0

/-- R180 step 1: the FR_Swap signal. With ARM = 0 only FRUNARMED is set. -/
def State.frsSignal (s : State) (p : PortId) : State :=
  let P := s.port p
  if !P.tc.attached then s
  else if frsArm P.ct.frs then
    ((s.heldNone p false).modCt p fun c => { c with swap := .frSwap, termed := false, frsSig := true }).cEvt p 0
  else s.cEvt p 2

/-- R180 step 3, R206, R220: VB falls below 5.5 V in an FR_Swap and fast sourcing starts. The converter is exempt from Lid
(R218); the gates are not: Lid and PEN = 0 hold them off (R197, R201; log 21). I_base comes from FRCUR at once (R206). Trip
inputs that become armed lose their histories (R234). -/
def State.fastSourcing (s : State) (p : PortId) (vb : Nat) : State :=
  let s0 := s.setVb p vb
  let P := s0.port p
  if P.ct.swap = .frSwap ∧ frsArm P.ct.frs ∧ P.ct.frsSrc = false ∧ vb < 5500 then
    let on := P.pw.pen && !P.pw.lid
    ((s0.modPort p fun P => { P with
      pw := { P.pw with
        mode := if on then .sourceOn else P.pw.mode, phase := if on then .running else P.pw.phase
        turn := .none, defer := .off, ga := on, gb := on
        revoff := false, faston := true, fastHold := true, frBase := true, limact := false, ibaseKeep := none }
      sp := P.sp.preset (rpMa (frsCur P.ct.frs - 1))
      mn := if on then P.mn.arm (0xF - P.pw.gates.armedIn.toNat) else P.mn
      ct := { P.ct with frsSrc := true } }).cEvt p 1)
  else s0

/-- R206: the 10 ms hold-off of the limit loop ends. -/
def State.fastHoldEnd (s : State) (p : PortId) : State := s.modPw p fun w => { w with fastHold := false }

/-- R162: MOVING times out. -/
def State.movingTimeout (s : State) (p : PortId) : State :=
  if (s.port p).ct.moving then (s.modCt p fun c => { c with moving := false, movCnt := 0 }).cEvt p 5 else s

/-- The PPS guard runs (R168). -/
def Port.ppsGuard (P : Port) : Bool := decide (P.ct.typ = 2) && decide (P.tc.st = .attachedSrc)

/-- The EPR guard runs (R170). -/
def Port.eprGuard (P : Port) : Bool := cfgEprMode P.ct.concfg && decide (P.tc.st = .attachedSrc)

/-- A guard expires: the hardware sends Hard Reset as SEND_HARD_RESET does, and sets GUARDHR (R168, R170). -/
def State.guardExpiry (s : State) (p : PortId) (runs : Bool) : State :=
  if runs then (s.modPd p fun d => { d with hrPend := true }).cEvt p 6 else s

/-- R181 step 3: tPSHardReset. -/
def State.hrPs (s : State) (p : PortId) : State :=
  let P := s.port p
  if P.ct.hrseq = .before4 ∧ P.ct.hrStep3 = false then
    let s1 := s.modCt p fun c => { c with hrStep3 := true, hrseq := .vbWait }
    let s2 := if P.ct.hrSrc then ((s1.fireGens p).cenLow p).dscStart p else s1
    s2.modTc p fun t => { t with vconn := false }
  else s

/-- R181 step 4: the attach-time roles are restored. -/
def State.hrSafe0 (s : State) (p : PortId) (vb : Nat) : State :=
  let s0 := s.setVb p vb
  let P := s0.port p
  if P.ct.hrseq = .vbWait ∧ vb < 800 then
    let s1 := s0.modPort p fun P => { P with
      tc := { P.tc with
        st := if P.ct.attpr then .attachedSrc else .attachedSnk
        pres := if P.ct.attpr then .rp else if P.tc.committed then .rd else .deadRd }
      pd := { P.pd with ctl := setB (setB P.pd.ctl 4 P.ct.attpr) 5 (P.ct.attpr || P.ct.attdr) }
      ct := { P.ct with hrseq := .goWait } }
    (s1.rpSet p).cEvt p 3
  else s0

/-- R181 step 5a. -/
def State.hrgoSource (s : State) (p : PortId) : State :=
  let P := s.port p
  if P.ct.hrseq = .goWait ∧ P.ct.attpr then
    (s.modCt p fun c => { c with hrseq := .doneWait, hrTurn := true }).cEvt p 4
  else s

/-- R181 step 5b: VB at 4.0 V or more. -/
def State.hrgoSink (s : State) (p : PortId) (vb : Nat) : State :=
  let s0 := s.setVb p vb
  let P := s0.port p
  if P.ct.hrseq = .goWait ∧ P.ct.attpr = false ∧ 4000 ≤ vb then
    (s0.modCt p fun c => { c with hrseq := .doneWait }).cEvt p 4
  else s0

/-- The VCONN input of a port's group lies above 4.5 V (R49). -/
def State.vconnInOk (s : State) (p : PortId) : Bool :=
  decide (4500 < if p.val < 4 then s.pins.vconn1 else s.pins.vconn2)

/-- R181 step 6a: VB has entered vSafe5V; VCONN closes if it was applied at attach and R49 still holds. -/
def State.hrVbIn (s : State) (p : PortId) (vb : Nat) : State :=
  let P := s.port p
  if P.ct.hrTurn ∧ vSafe5 vb then
    s.modPort p fun P => { P with
      ct := { P.ct with hrTurn := false }
      tc := if P.ct.attvc && ctlVconnEn P.tc.ctl && P.ct.rapin && s.vconnInOk p then { P.tc with vconn := true } else P.tc }
  else s

end Sys2Proof.Machine
end

