-- ==== Sys2Proof/Machine/Typec.lean ====
section
/-! DEFINITION. The Type-C state machine (02): attach, detach, ErrorRecovery, wet checks, VCONN, and the event commands
that drive them. -/

namespace Sys2Proof.Machine

/-- The port goes by role, and looks for a partner there (R45). -/
def State.goByRole (s : State) (p : PortId) : State :=
  let t := (s.port p).tc
  let st := byRole (ctlRole t.ctl)
  let s1 := s.modTc p fun t => t.enter st
  (if st = .unattachedSrc then s1.rpSet p else s1).modTc p Tc.seek

/-- An armed override cleared by a detach (R57). -/
def Tc.overrideOff (t : Tc) : Tc :=
  if t.override then { t with override := false, wetcmd := { t.wetcmd with cst := 0 } } else t

/-- The actions of a detach, in one tick (R47, R57, R73, R160). -/
def State.detachActs (s : State) (p : PortId) : State :=
  let s1 := ((s.fireGens p).dscStart p).modTc p fun t => { t.overrideOff with vconn := false, deadbat := false }
  let s2 := (((s1.phyDetach p).swapOff p).heldNone p true).modCt p fun c => { c.armOff with
    hrseq := .none, hrTurn := false, hrStep3 := false }
  s2.tcEvt p 1

/-- Detach to the state by role (R45, R47). -/
def State.detach (s : State) (p : PortId) : State := (s.detachActs p).goByRole p

/-- Entry to ErrorRecovery (R45): gates off, DSC on, VCONN off, terminations open; from an attached state the detach is
carried out with it. -/
def State.errRec (s : State) (p : PortId) : State :=
  let s1 := if (s.port p).tc.attached then s.detachActs p
    else ((s.fireGens p).dscStart p).modTc p fun t => { t with vconn := false }
  (s1.modTc p fun t => t.enter .errorRecovery).tcEvt p 10

/-- The port is taken through ErrorRecovery to Disabled (R45, R310). -/
def State.errRecDisable (s : State) (p : PortId) : State :=
  if (s.port p).tc.st = .disabled then s else (s.modTc p fun t => { t with toDis := true }).errRec p

/-- Entry to Disabled at once (R45, R312). -/
def State.toDisabled (s : State) (p : PortId) : State := s.modTc p fun t => t.enter .disabled

/-! ### Attach -/

/-- What both attaches do (R37, R46, R160, Pn_PD_CTL). -/
def State.attach (s : State) (p : PortId) (src : Bool) : State :=
  let t := (s.port p).tc
  let pol := if src then decide (t.cc2 = .rd) else !t.cc1.isRp
  let other := if pol then t.cc1 else t.cc2
  let ra := src && decide (other = .ra)
  let vc := ra && ctlVconnEn t.ctl && s.vconnInOk p
  let s1 := (s.heldNone p true).modPort p fun P => { P with
    tc := { P.tc with
      st := if src then .attachedSrc else .attachedSnk, pres := if src then .rp else P.tc.presFor .unattachedSnk
      pol, deadbat := !src && decide (P.tc.pres = .deadRd), vconn := vc
      check := .none, debounced := false, tryOver := false, snkDry := false }
    pd := { P.pd with ctl := setF (setB (setB P.pd.ctl 4 src) 5 src) 0 2 2, amsOpen := false, sinkOk := false }
    ct := { P.ct with attpr := src, attdr := src, attvc := vc, rapin := ra } }
  (s1.rpSet p).tcEvt p 0

/-- The source attach after a dry check or none: Try.SNK or Attached.SRC (R45). -/
def State.srcAttach (s : State) (p : PortId) : State :=
  if ctlTry (s.port p).tc.ctl = 2 then
    s.modTc p fun t => { t.enter .unattachedSnk with st := .trySnk, pres := .rd }
  else s.attach p true

/-- AttachWait.SRC once tCCDebounce is over (R45). -/
def State.srcWaitDone (s : State) (p : PortId) (vb : Nat) : State :=
  let t := (s.port p).tc
  if t.rdPins = 2 then (s.modTc p fun t => { t with st := .unorientedDebugSrc, check := .none }).tcEvt p 9
  else if t.rdPins = 1 then
    if 800 ≤ vb then s.modTc p fun t => { t with debounced := true }
    else if ctlWetEn t.ctl then s.modTc p fun t => ({ t with st := .wetCheck } : Tc).startCheck .source
    else s.srcAttach p
  else s

/-- AttachWait.SNK once tCCDebounce is over (R41, R45). -/
def State.snkWaitDone (s : State) (p : PortId) (vb : Nat) : State :=
  let t := (s.port p).tc
  if t.rpPins = 2 then (s.modTc p fun t => { t with st := .debugSnk, check := .none }).tcEvt p 9
  else if t.rpPins = 1 then
    if ctlTry t.ctl = 1 then
      (s.modTc p fun t => { t.enter .unattachedSrc with st := .trySrc }).rpSet p
    else if 4000 ≤ vb ∧ t.snkDry then s.attach p false
    else s.modTc p fun t => { t with debounced := true }
  else s

/-- TryWait.SNK once tCCDebounce is over (R45); Rp on both pins is never admitted (R48; log 114). -/
def State.tryWaitSnkDone (s : State) (p : PortId) (vb : Nat) : State :=
  if (s.port p).tc.rpPins ≠ 1 then s
  else if 4000 ≤ vb then s.attach p false else s.modTc p fun t => { t with debounced := true }

/-! ### Event commands -/

/-- The Try states leave when the termination they look for is absent and their time is over (R45). -/
def State.tryLeave (s : State) (p : PortId) : State :=
  let t := (s.port p).tc
  if t.st = .trySnk ∧ t.rpPins = 0 then (s.modTc p fun t => { t.enter .unattachedSrc with st := .tryWaitSrc }).rpSet p
  else if t.st = .tryWaitSrc ∧ t.rdPins = 0 then (s.modTc p fun t => t.enter .unattachedSnk).modTc p Tc.seek
  else if t.st = .trySrc ∧ t.rdPins = 0 then s.modTc p fun t => { t.enter .unattachedSnk with st := .tryWaitSnk }
  else s

/-- The rows of R45 after a CC pin has a new class; a new class restarts its debounce (R36). In AttachWait.SNK a sink check
starts anew when Rp is back on one pin after a check without verdict (log 113). -/
def State.ccTaken (s : State) (p : PortId) (old : Tc) : State :=
  let t := (s.port p).tc
  let s2 := s.modPd p fun d => if t.activeCc = .rp30 then d else { d with sinkOk := false }
  if t.st = .attachedSnk then
    if old.activeCc ≠ t.activeCc ∧ old.activeCc.isRp ∧ t.activeCc.isRp then s2.tcEvt p 2 else s2
  else if t.st = .unattachedSnk ∨ t.st = .unattachedSrc then s2.modTc p Tc.seek
  else if t.st = .errorRecovery then s2
  else
    let same := decide (old.cc1 = t.cc1) && decide (old.cc2 = t.cc2)
    let s3 := s2.modTc p fun t => { t with debounced := t.debounced && same }
    if t.tryOver then s3.tryLeave p
    else if t.st = .attachWaitSnk ∧ t.check = .none ∧ t.snkDry = false ∧ t.rpPins = 1 then s3.modTc p Tc.sinkCheck
    else s3

/-- R36: the level of a CC pin passes into another class. A level above 6 V is CC_OVER_VOLTAGE's. -/
def State.ccChange (s : State) (p : PortId) (pin : CcPin) (mv : Nat) : State :=
  let t := (s.port p).tc
  if t.reads pin ∧ mv ≤ 6000 then (s.modTc p fun t => t.setTerm pin (classify (t.shown pin) t.rp mv)).ccTaken p t else s

/-- R52: a CC pin rises above 6 V. -/
def State.ccOv (s : State) (p : PortId) (pin : CcPin) : State :=
  let s1 := (s.modTc p fun t => match pin with
    | .cc1 => { t with cc1 := .overV, iso1 := true }
    | .cc2 => { t with cc2 := .overV, iso2 := true }).tcEvt p 5
  if (s1.port p).tc.st = .disabled then s1 else s1.errRec p

/-- ErrorRecovery ends: tErrorRecovery is over and both isolation switches are closed (R45). -/
def State.errRecExit (s : State) (p : PortId) : State :=
  let t := (s.port p).tc
  if t.st = .errorRecovery ∧ t.debounced ∧ !t.iso1 ∧ !t.iso2 then
    if t.toDis ∨ ctlRole t.ctl = 3 then s.toDisabled p else s.goByRole p
  else s

/-- R52: the isolation switch of a pin closes; the pin reads open until its level is classified (log 115). -/
def State.ccIsoClose (s : State) (p : PortId) (pin : CcPin) : State :=
  (s.modTc p fun t => match pin with
    | .cc1 => { t with cc1 := if t.cc1 = .overV then .openT else t.cc1, iso1 := false }
    | .cc2 => { t with cc2 := if t.cc2 = .overV then .openT else t.cc2, iso2 := false }).errRecExit p

/-- R45: tErrorRecovery elapses. -/
def State.errRecTimer (s : State) (p : PortId) : State :=
  if (s.port p).tc.st = .errorRecovery then (s.modTc p fun t => { t with debounced := true }).errRecExit p else s

/-- R45: tCCDebounce elapses. -/
def State.ccDebounce (s : State) (p : PortId) (vb : Nat) : State :=
  let s0 := s.setVb p vb
  let st := (s0.port p).tc.st
  if st = .attachWaitSrc then s0.srcWaitDone p vb
  else if st = .attachWaitSnk then s0.snkWaitDone p vb
  else if st = .tryWaitSnk then s0.tryWaitSnkDone p vb
  else s0

/-- R45: VB falls below 0.8 V while AttachWait.SRC waits. -/
def State.srcVbLow (s : State) (p : PortId) (vb : Nat) : State :=
  let s0 := s.setVb p vb
  let t := (s0.port p).tc
  if t.st = .attachWaitSrc ∧ t.debounced then s0.srcWaitDone p vb else (s0.modTc p Tc.seek)

/-- R45: VB rises to 4.0 V on a port that waits for it with Rp debounced. -/
def State.snkVbus (s : State) (p : PortId) (vb : Nat) : State :=
  let s0 := s.setVb p vb
  let t := (s0.port p).tc
  if t.st = .attachWaitSnk ∧ t.debounced then s0.snkWaitDone p vb
  else if t.st = .tryWaitSnk ∧ t.debounced then s0.tryWaitSnkDone p vb
  else s0

/-- R45: a termination has been absent for tPDDebounce. The DETACH of a debug accessory is a detach for R57 (log 116). -/
def State.pdDebounce (s : State) (p : PortId) : State :=
  let t := (s.port p).tc
  if t.st = .attachWaitSrc ∧ t.rdPins = 0 then s.goByRole p
  else if t.st = .attachWaitSnk ∧ t.rpPins = 0 then s.goByRole p
  else if t.st = .tryWaitSnk ∧ t.rpPins = 0 then (s.modTc p fun t => t.enter .unattachedSnk).modTc p Tc.seek
  else if (t.st = .unorientedDebugSrc ∧ t.rdPins < 2) ∨ (t.st = .debugSnk ∧ t.rpPins < 2) then
    ((s.modTc p Tc.overrideOff).goByRole p).tcEvt p 1
  else s

/-- R45: tTryCCDebounce elapses in a Try or TryWait state. A partner that shows Rp, or Rd, on both pins is not attached
(R48; log 114). -/
def State.tryDebounce (s : State) (p : PortId) : State :=
  let t := (s.port p).tc
  if t.st = .trySnk ∧ t.rpPins = 1 then
    if t.tryOver then s.attach p false else s.modTc p fun t => { t with debounced := true }
  else if (t.st = .tryWaitSrc ∨ t.st = .trySrc) ∧ t.rdPins = 1 then s.attach p true
  else s

/-- R45: a DRP toggle phase elapses. After a discharge fault the port stays in its state until VB is below 0.8 V (R47). -/
def State.drpToggle (s : State) (p : PortId) : State :=
  let t := (s.port p).tc
  if ctlRole t.ctl ≠ 2 ∨ t.discWait then s
  else if t.st = .unattachedSnk ∧ t.rpPins = 0 then
    ((s.modTc p fun t => t.enter .unattachedSrc).rpSet p).modTc p Tc.seek
  else if t.st = .unattachedSrc ∧ t.rdPins = 0 then
    (s.modTc p fun t => t.enter .unattachedSnk).modTc p Tc.seek
  else s

/-- R45: tDRPTry elapses. While the termination the port looks for is seen, the row waits for it to leave (tryLeave). -/
def State.drpTry (s : State) (p : PortId) : State :=
  let t := (s.port p).tc
  if t.st = .trySnk ∧ t.rpPins = 1 ∧ t.debounced then s.attach p false
  else if t.st = .trySnk ∨ t.st = .tryWaitSrc ∨ t.st = .trySrc then (s.modTc p fun t => { t with tryOver := true }).tryLeave p
  else s

/-- R45: tTryTimeout elapses in Try.SRC. -/
def State.tryTimeout (s : State) (p : PortId) : State :=
  if (s.port p).tc.st = .trySrc then (s.modTc p fun t => { t with tryOver := true }).tryLeave p else s

/-- R45, R47: no Rd on the active CC for tSRCDisconnect. -/
def State.srcDisconnect (s : State) (p : PortId) : State :=
  let t := (s.port p).tc
  if t.st = .attachedSrc ∧ t.activeCc ≠ .rd then s.detach p else s

/-- R45: VB below 3.67 V in Attached.SNK, outside a Hard Reset and a swap. -/
def State.snkVbLost (s : State) (p : PortId) (vb : Nat) : State :=
  let s0 := s.setVb p vb
  let P := s0.port p
  if P.tc.st = .attachedSnk ∧ vb < 3670 ∧ P.ct.swap = .none ∧ P.ct.hrseq = .none then s0.detach p else s0

/-- R45, R46: VB not inside vSafe5V tVBUSON after the entry, no PD transition in progress: no swap, no Hard Reset sequence and
no change of the set point under way (MOVING, R162; log 22). -/
def State.vbusOn (s : State) (p : PortId) (vb : Nat) : State :=
  let s0 := s.setVb p vb
  let P := s0.port p
  if P.tc.st = .attachedSrc ∧ !vSafe5 vb ∧ P.ct.swap = .none ∧ P.ct.hrseq = .none ∧ P.ct.moving = false then s0.errRec p
  else s0

/-- R47, R181 step 4, R207: a discharge, or a Hard Reset sequence in either role, misses tVBUSOFF. An unattached port ignores a new attach until VB is below 0.8 V, one under
way included, and stays in the state it detached to. -/
def State.dscFault (s : State) (p : PortId) : State :=
  if (s.port p).pw.dsc ∨ (s.port p).ct.hrseq = .before4 ∨ (s.port p).ct.hrseq = .vbWait then
    let s1 := (s.trip p 0x0B).modTc p fun t => if t.attached then t else { t with discWait := true }
    if (s1.port p).tc.attaching then s1.goByRole p else s1
  else s

/-- R174 ERRREC. -/
def State.errrecCmd (s : State) (p : PortId) : State :=
  if (s.port p).tc.attached then (s.errRec p).rcmdSet p 0x52 true else s.rcmdSet p 0x52 false

/-- R174: the swap backstop. -/
def State.swapBackstop (s : State) (p : PortId) : State :=
  if (s.port p).ct.swap ≠ .none then (s.cEvt p 7).errRec p else s

/-- R181 step 6a: tSrcTurnOn elapses without VB in vSafe5V. -/
def State.hrTurnTimeout (s : State) (p : PortId) : State := if (s.port p).ct.hrTurn then s.errRec p else s

/-- R181 step 5b: 2,000 ms pass; the sequence ends without HRGO and the detach rule applies again. -/
def State.hrSinkEnd (s : State) (p : PortId) (vb : Nat) : State :=
  let s0 := s.setVb p vb
  let P := s0.port p
  if P.ct.hrseq ≠ .none ∧ P.ct.hrseq ≠ .doneWait ∧ P.ct.attpr = false then
    ((s0.modCt p fun c => { c with hrseq := .none, hrStep3 := false }).modPd p fun d => { d with hrwait := false }).snkVbLost p vb
  else s0

/-- R28: the PP detector sees Hard Reset while the LINK domain is held: gates off, DSC on, and the sequence of R181 runs. -/
def State.hrInReset (s : State) (p : PortId) : State :=
  if s.linkUp = false ∧ (s.port p).tc.attached ∧ s.phase ≠ .unpowered ∧ s.phase ≠ .parked then
    ((s.fireGens p).dscStart p).hrBegin p
  else s

/-! ### VCONN (R50) -/

/-- A VCONN switch opens with an event bit. -/
def State.vconnOpen (s : State) (p : PortId) (b : Nat) : State :=
  if (s.port p).tc.vconn then (s.modTc p fun t => { t with vconn := false }).tcEvt p b else s

/-- R50: input under-voltage of a VCONN group. -/
def State.vconnUv (s : State) (g : Fin 2) : State :=
  let s0 := s.modPins fun n => if g = 0 then { n with vconn1 := min n.vconn1 4499 } else { n with vconn2 := min n.vconn2 4499 }
  s0.forPorts fun s p =>
    let P := s.port p
    if decide (p.val / 4 = g.val) && s.present p &&
        (P.tc.vconn || (decide (P.tc.st = .attachedSrc) && ctlVconnEn P.tc.ctl && P.ct.rapin)) then
      (s.modTc p fun t => { t with vconn := false }).tcEvt p 8
    else s

/-! ### Wet checks (R53-R57) -/

/-- Pn_TC_WETZ reading of an impedance in ohms: 0.1 kilohm units, 0xFFFF at 1,000 kilohm or more. -/
def wetZ (z : Nat) : Half := if 1000000 ≤ z then 0xFFFF else BitVec.ofNat 16 (z / 100)

/-- Pn_TC_WETD reading: |Z1 - Z16| / Z1 in whole per cent, saturating at 255. -/
def wetD (z1 z16 : Nat) : Byte :=
  if z1 = 0 ∨ 1000000 ≤ z1 then 0 else BitVec.ofNat 8 (min 255 ((max z1 z16 - min z1 z16) * 100 / z1))

/-- The current chosen in step 2 by the impedance it meets (R54): 10 uA, 2.5 uA, 0.25 uA as 0, 1, 2; 3 where the pin passes
0.3 V even at 0.25 uA. -/
def wetCurrent (z : Nat) : Nat := if z < 30000 then 0 else if z < 120000 then 1 else if z < 1200000 then 2 else 3

/-- A pin passes 0.3 V in step 3 (R54): its current steps down and step 3 restarts, at most twice; at 0.25 uA, or after the
second restart, the pin reads 1,000 kilohm or more (3). x: the currents of the four pins, and the restarts so far. -/
def wetPass (x : List Nat × Nat) (i : Fin 4) : List Nat × Nat :=
  let l := x.1.getD i.val 3
  if 2 ≤ l ∨ 2 ≤ x.2 then (x.1.set i.val 3, x.2) else (x.1.set i.val (l + 1), x.2 + 1)

/-- The currents of the four pins when step 3 has run whole, and its restarts. -/
def wetCurrents (r : WetReading) : List Nat × Nat :=
  r.passes.foldl wetPass ((List.range 4).map fun i => wetCurrent (r.trial.getD i 0), 0)

/-- |Z1| of pin i in ohms as it is read: 1,000 kilohm where no current kept it below 0.3 V. -/
def wetImp (r : WetReading) (i : Nat) : Nat := if (wetCurrents r).1.getD i 3 = 3 then 1000000 else r.z1.getD i 0

/-- A pin reads wet (R55); pins 0 and 1 are CC, 2 and 3 SBU. -/
def pinWet (i z1 z16 sbuThr : Nat) : Bool :=
  decide (z1 < 1000000 ∧ 25 * z1 < 100 * (max z1 z16 - min z1 z16)) ||
  decide (i < 2 ∧ z1 < 1000000 ∧ ¬ (4100 ≤ z1 ∧ z1 ≤ 6100) ∧ ¬ (800 ≤ z1 ∧ z1 ≤ 1200)) ||
  decide (2 ≤ i ∧ z1 < sbuThr)

/-- Verdict of a check on the measured pins: none, or wet (R55). -/
def wetVerdict (meas : BitVec 4) (r : WetReading) (sbuThr : Nat) : Option Bool :=
  if r.left then none
  else some ((List.range 4).any fun i => meas.getLsbD i && pinWet i (wetImp r i) (r.z16.getD i 0) sbuThr)

/-- The readings of a check go to Pn_TC_WETZ and Pn_TC_WETD. -/
def Tc.readings (t : Tc) (r : WetReading) : Tc :=
  { t with
    wetz := Vector.ofFn fun i => if t.meas.getLsbD i.val then wetZ (wetImp r i.val) else 0xFFFF
    wetd := Vector.ofFn fun i => if t.meas.getLsbD i.val then wetD (wetImp r i.val) (r.z16.getD i.val 0) else 0 }

/-- A dry or overridden verdict of a check of kind k (R45, R56). -/
def State.wetDry (s : State) (p : PortId) (k : Check) : State :=
  let t := (s.port p).tc
  if t.st = .wet then
    if 2 ≤ t.dryRun then (s.goByRole p).tcEvt p 4 else s.modTc p fun t => { t with dryRun := t.dryRun + 1 }
  else match k with
    | .source => if t.st = .wetCheck then s.srcAttach p else s
    | .sink =>
      if t.st = .attachWaitSnk then
        let s1 := s.modTc p fun t => { t with snkDry := true }
        if t.debounced then s1.snkWaitDone p (s1.port p).pw.vbPin else s1
      else s
    | .none | .commanded | .recheck => s

/-- A check of kind k is one of the sink role: of AttachWait.SNK, of Unattached.SNK, or of Wet where ROLE is not source
(R57; log 117). -/
def Tc.snkRole (t : Tc) (k : Check) : Bool :=
  decide (k = .sink) || decide (t.st = .unattachedSnk) || (decide (t.st = .wet) && decide (ctlRole t.ctl ≠ 1))

/-- The end of a check with a verdict; none is no verdict (R55-R57). -/
def State.wetEnd (s : State) (p : PortId) (v : Option Bool) : State :=
  let t := (s.port p).tc
  let k := t.check
  let s1 := s.modTc p Tc.endCheck
  match v with
  | none =>
    if k = .source ∧ t.st = .wetCheck then s1.goByRole p
    else if k = .sink ∧ t.st = .attachWaitSnk ∧ t.rpPins = 1 then s1.modTc p Tc.sinkCheck
    else s1
  | some wet =>
    let snk := t.snkRole k && ctlSnkWet t.ctl && wet
    let used := t.override && !snk
    let s2 := if used then s1.modTc p fun t => { t with override := false, wetcmd := { t.wetcmd with cst := 1 } } else s1
    if wet then
      let s3 := (s2.modTc p fun t => { t with wetcnt := satInc t.wetcnt }).tcEvt p 3
      if snk || used then s3.wetDry p k
      else if t.st = .wet then s3.modTc p fun t => { t with dryRun := 0 }
      else s3.modTc p fun t => t.enter .wet
    else s2.wetDry p k

/-- R55: a check completes with its readings; a termination that changed under it leaves it without verdict. -/
def State.wetCheckEnd (s : State) (p : PortId) (r : WetReading) : State :=
  let t := (s.port p).tc
  if t.check = .none then s
  else (s.modTc p fun t => t.readings r).wetEnd p (if t.gone then none else wetVerdict t.meas r (fld t.wetcfg 8 8 * 5000))

/-- R53: an SBU pin above 6 V ends the check as wet. WETZ and WETD keep the readings of the check before (log 111). -/
def State.wetSbuOv (s : State) (p : PortId) : State :=
  if (s.port p).tc.check = .none then s else s.wetEnd p (some true)

/-- R56: the recheck interval elapses. -/
def State.wetRecheck (s : State) (p : PortId) : State :=
  let t := (s.port p).tc
  if t.st = .wet ∧ t.check = .none then s.modTc p fun t => t.startCheck .recheck else s

/-- Pn_TC_WETCMD 0x5A: accepted in the unattached states and Wet. -/
def State.wetNow (s : State) (p : PortId) : State :=
  s.modTc p fun t =>
    if t.st = .unattachedSnk ∨ t.st = .unattachedSrc ∨ t.st = .wet then
      let t1 := { t with wetcmd := { cmd := 0x5A, cst := 3 }, asked := true }
      if t.check = .none then t1.startCheck (if t.st = .wet then .recheck else .commanded) else t1
    else { t with wetcmd := { cmd := 0x5A, cst := 2 } }

/-- Pn_TC_WETCMD 0xD7 (R57). -/
def State.wetOverride (s : State) (p : PortId) : State :=
  s.modTc p fun t => { t with override := true, wetcmd := { cmd := 0xD7, cst := 4 } }

end Sys2Proof.Machine
end

