-- ==== Sys2Proof/Machine/Phy.lean ====
section
/-! DEFINITION. The PHY's event commands and the host's queue commands (03). The end of a frame is in Frame.lean. -/

namespace Sys2Proof.Machine

/-- REV reads Rev 3.x. -/
def Phy.rev3 (d : Phy) : Bool := decide (fld d.ctl 0 2 = 2)

/-- A SOP* type is enabled (R60). -/
def Port.sopEnabled (P : Port) (x : Sop) : Bool :=
  match x with
  | .sop => true
  | .sopP => P.pd.ctl.getLsbD 6 && P.tc.vconn
  | .sopPP => P.pd.ctl.getLsbD 7 && P.tc.vconn

/-- The status of a Pn_PD_CMD command. -/
def State.pdCmd (s : State) (p : PortId) (cmd cst : Byte) : State := s.modPd p fun d => { d with cmd := { cmd, cst } }

/-- The status of the running Pn_PD_CMD command, when it is still the one shown. -/
def Phy.cmdDone (d : Phy) (cmd : Byte) : Phy := if d.cmd.cmd = cmd then { d with cmd := { d.cmd with cst := 1 } } else d

/-! ### Reception -/

/-- A header is decoded at all (R59, R60, R423). -/
def State.rxOpen (s : State) (p : PortId) (rate : Nat) : Bool :=
  let P := s.port p
  s.linkUp && P.tc.attached && !P.pd.hrwait && !P.pd.bistCar && decide (270 ≤ rate ∧ rate ≤ 330)

/-- GoodCRC: control message type 1 of the standard. -/
def isGoodCrc (h : Half) : Bool := !hdrExt h && decide (hdrNdo h = 0) && decide (hdrType h = 1)

/-- A header that would end less than 476 us after the previous early decode is not decoded (R423). -/
def Phy.tooSoon (d : Phy) (t : Nat) : Bool :=
  match d.lastEarly with
  | some l => decide (t < l + 476)
  | none => false

/-- R72: early decode. The slot of the frame is reserved, or the frame is dropped: what counts is a free slot at the end of
the SOP* ordered set, 20 bits earlier, which is the entry's TIME (R60, R77; log 23). An EARLY slot that matches gets its
event (R127, R146), a core that does not run at the end of its START (R134). -/
def State.earlyDecode (s : State) (p : PortId) (x : Sop) (hdr : Half) (rate : Nat) : State :=
  let P := s.port p
  if !s.rxOpen p rate || P.pd.rx.isSome || P.pd.tooSoon s.us || !P.sopEnabled x || isGoodCrc hdr then s
  else
    let k := rxQ x
    let rx : RxFrame := { sop := x, hdr, rate, time := s.now - BitVec.ofNat 32 (bitsUs 20 rate)
                          slot := false, early := false }
    if P.pd.bistTd then s.modPd p fun d => { d with rx := some rx }
    else if (s.queue p k).fullAt (s.us - bitsUs 20 rate) then
      (s.modPd p fun d => { d with
        rx := some rx, rxdrop := satInc d.rxdrop, ovf := setB d.ovf k.val true }).linkEvt p 7
    else
      let s1 := s.modPd p fun d => { d with
        rx := some { rx with slot := true, early := true }, lastEarly := some s.us, evt := setB d.evt 0 true }
      let s2 := s1.modPmv p fun m => { m with en := s.pmv.ctl.getLsbD p.val }
      let e : Raised := { cls := 1, arg := BitVec.ofNat 32 k.val, queue := k.val, seq := (s.queue p k).seq }
      if (s2.core (fileCore p)).st = .running then s2.raiseEarly (fileCore p) rx s.now e
      else s2.modCore (fileCore p) fun C => C.hold e

/-- R152, R423: the frame under reception ends without an EOP. -/
def State.badFrame (s : State) (p : PortId) : State := if (s.port p).pd.rx.isSome then s.frameLost p .badFrame else s

/-- The header of the GoodCRC for a frame (R62): message type 1 of the standard. It is built at the frame's EOP (log 120). -/
def Phy.goodCrc (d : Phy) (x : Sop) (id : BitVec 3) : Half :=
  let roles := if x = .sop then (d.ctl.getLsbD 4).toNat * 256 + (d.ctl.getLsbD 5).toNat * 32 else 0
  BitVec.ofNat 16 (id.toNat * 512 + fld d.ctl 0 2 * 64 + roles + 1)

/-- R62: the GoodCRC that is owed goes out. -/
def State.goodCrcTx (s : State) (p : PortId) : State :=
  s.modPd p fun d => match d.crcDue with
    | some x => { d with lastTx := some x, crcDue := none }
    | none => d

/-! ### Transmission -/

/-- Soft_Reset: control message type 0x0D of the standard. -/
def isSoftReset (h : Half) : Bool := !hdrExt h && decide (hdrNdo h = 0) && decide (hdrType h = 0x0D)

/-- The length of an entry agrees with its header (R69). -/
def Entry.lengthOk (e : Entry) : Bool :=
  if hdrExt e.hdr then decide (hdrNdo e.hdr = (e.len.toNat + 5) / 4) && decide (e.len.toNat ≤ 26)
  else decide (e.len.toNat = 4 * hdrNdo e.hdr)

/-- The head of a TX queue when it is pending and not held (R66, R70). -/
def Queue.ready (q : Queue) : Option Entry :=
  match q.ents.head? with
  | some e => if e.st = .pending ∧ !e.held then some e else none
  | none => none

/-- Of two candidates the one with the older push time, the first on a tie (R66). -/
def older (now : Word) (a b : Option (Fin 8 × Entry)) : Option (Fin 8 × Entry) :=
  match a, b with
  | none, _ => b
  | some _, none => a
  | some x, some y => if (now - x.2.time).toNat < (now - y.2.time).toNat then b else a

/-- The next entry to transmit (R66). -/
def State.nextTx (s : State) (p : PortId) : Option (Fin 8 × Entry) :=
  let c (k : Fin 8) := ((s.queue p k).ready).map fun e => (k, e)
  older s.now (older s.now (c 1) (c 3)) (c 5)

/-- R66, R69, R424: the oldest pending entry starts, or ends without being sent. -/
def State.txStart (s : State) (p : PortId) : State :=
  let P := s.port p
  if !s.linkUp || P.pd.rx.isSome || P.pd.tx.isSome || P.pd.crcDue.isSome || P.pd.bistCar || P.pd.hrPend || P.pd.crPend
  then s
  else match s.nextTx p with
    | none => s
    | some (k, e) =>
      let x := qSop k
      if !P.tc.attached then s.txEnd p k 0 .failed 6 none
      else if !P.sopEnabled x then s.txEnd p k 0 .failed 7 none
      else if !e.lengthOk then s.txEnd p k 0 .failed 8 none
      else
        let soft := isSoftReset e.hdr
        let id : BitVec 3 := if soft then 0 else P.pd.txId[x.idx]
        (s.modPd p fun d => { d with
          tx := some { sop := x, tries := 0, id, await := false }
          txId := d.txId.set x.idx id
          rxVal := if soft then d.rxVal.set x.idx false else d.rxVal }).modQ p k fun q =>
            { q with ents := q.ents.modifyHead fun e => { e with st := .transmitting, hdr := setF e.hdr 9 3 id.toNat } }

/-- R67: a frame reaches its EOP; tReceive begins. -/
def State.txFrameEnd (s : State) (p : PortId) : State :=
  s.modPd p fun d => match d.tx with
    | some b => if b.await then d else { d with tx := some { b with await := true, eop := some s.now } }
    | none => d

/-- The entry in transmission ends; `count`: the MessageID counter increments (R63). -/
def State.txFinish (s : State) (p : PortId) (st : EntSt) (rsn : Nat) (count : Bool) : State :=
  match (s.port p).pd.tx with
  | none => s
  | some b =>
    (s.modPd p fun d => { d with
      tx := none
      txId := if count then d.txId.set b.sop.idx (d.txId[b.sop.idx] + 1) else d.txId }).txEnd p (txQ b.sop) 0 st rsn b.eop

/-- R67: a matching GoodCRC. -/
def State.goodCrcRx (s : State) (p : PortId) (x : Sop) (id : BitVec 3) : State :=
  match (s.port p).pd.tx with
  | some b => if b.await ∧ b.sop = x ∧ b.id = id ∧ (s.port p).sopEnabled x then s.txFinish p .sent 0 true else s
  | none => s

/-- nRetryCount (R67). -/
def Phy.retries (d : Phy) : Nat := if d.rev3 then 2 else 3

/-- R67, R424: tReceive expires. -/
def State.treceive (s : State) (p : PortId) : State :=
  let P := s.port p
  match P.pd.tx with
  | none => s
  | some b =>
    if b.await = false then s
    else if b.tries < P.pd.retries then
      if P.sopEnabled b.sop then
        s.modPd p fun d => { d with tx := some { b with tries := b.tries + 1, await := false }, nRetry := satInc d.nRetry }
      else s.txFinish p .failed 7 false
    else s.txFinish p .failed 1 true

/-! ### Pushing a TX entry, collision avoidance (R70, R71) -/

/-- A push of the file core to a TX queue: status and state (R76, R77, R424). A full queue answers first, attached or not
(log 121). -/
def State.txPush (s : State) (p : PortId) (k : Fin 8) (e : Entry) : Nat × State :=
  let P := s.port p
  let x := qSop k
  if (s.queue p k).full then (2, s.modPd p fun d => { d with ovf := setB d.ovf k.val true })
  else
    let ams := e.flg.getLsbD 6 && P.pd.rev3
    let src := ams && P.ct.pd3 && decide (P.tc.st = .attachedSrc) && !P.pd.amsOpen
    let snk := ams && decide (P.tc.st = .attachedSnk) && decide (P.ct.typ ≠ 0) && !P.pd.sinkOk
    let n := (s.queue p k).ents.length
    let s1 := s.modQ p k fun q =>
      q.push { e with st := .pending, rsn := 0, time := s.now, flg := setF e.flg 0 3 x.idx.val, held := src || snk }
    if !P.tc.attached then (0, s1.txEnd p k n .failed 6 none)
    else if !P.sopEnabled x then (0, s1.txEnd p k n .failed 7 none)
    else (0, if src then (s1.modPd p fun d => { d with amsOpen := true }).rpSet p else s1)

/-- Held entries of the three TX queues are released. -/
def State.unhold (s : State) (p : PortId) : State :=
  let f (q : Queue) : Queue := { q with ents := q.ents.map fun e => { e with held := false } }
  ((s.modQ p 1 f).modQ p 3 f).modQ p 5 f

/-- R70: tSinkTx is over. -/
def State.amsHold (s : State) (p : PortId) : State := if (s.port p).tc.st = .attachedSrc then s.unhold p else s

/-- R71: the partner's Rp has read 3.0 A for 15 ms. -/
def State.sinkTxOk (s : State) (p : PortId) : State :=
  let P := s.port p
  if P.tc.st = .attachedSnk ∧ P.tc.activeCc = .rp30 then (s.modPd p fun d => { d with sinkOk := true }).unhold p else s

/-- R70: AMS_END. -/
def State.amsEnd (s : State) (p : PortId) : State :=
  if (s.port p).tc.attached then
    (if (s.port p).pd.amsOpen then (s.modPd p fun d => { d with amsOpen := false }).rpSet p else s).pdCmd p 0x45 1
  else s.pdCmd p 0x45 2

/-! ### Resets and BIST (R73, R74) -/

/-- R73: Hard Reset signalling is received; HRRX is raised. A commanded Hard Reset that waits is still sent. -/
def State.hrReceived (s : State) (p : PortId) : State :=
  if s.linkUp && (s.port p).tc.attached then
    ((s.hardReset p).modPd p fun d => { d with evt := setB d.evt 8 true }).raiseCrit (fileCore p)
      { cls := 4, arg := 0 } none
  else s

/-- R73: Cable Reset signalling is received; an SOP' or SOP'' frame is withdrawn, CRRX is raised. -/
def State.crReceived (s : State) (p : PortId) : State :=
  if s.linkUp && (s.port p).tc.attached then
    let s1 := match (s.port p).pd.rx with
      | some r => if r.sop = Sop.sop then s else s.frameLost p .cableReset
      | none => s
    (s1.modPd p fun d => { d with evt := setB d.evt 11 true }).raiseCrit (fileCore p) { cls := 5, arg := 0 } none
  else s

/-- SEND_HARD_RESET. -/
def State.sendHr (s : State) (p : PortId) : State :=
  if (s.port p).tc.attached then (s.modPd p fun d => { d with hrPend := true }).pdCmd p 0x48 3 else s.pdCmd p 0x48 2

/-- R73: a commanded Hard Reset goes out once no frame is under reception. -/
def State.hrTransmit (s : State) (p : PortId) : State :=
  let d := (s.port p).pd
  if d.hrPend && d.rx.isNone && s.linkUp then
    (((s.hardReset p).modPd p fun d => ({ d with hrPend := false } : Phy).cmdDone 0x48).linkEvt p 9)
  else s

/-- SEND_CABLE_RESET. -/
def State.sendCr (s : State) (p : PortId) : State :=
  if (s.port p).tc.attached && (s.port p).tc.vconn then (s.modPd p fun d => { d with crPend := true }).pdCmd p 0x43 3
  else s.pdCmd p 0x43 2

/-- R73: a commanded Cable Reset goes out once the bus is idle. -/
def State.crTransmit (s : State) (p : PortId) : State :=
  let d := (s.port p).pd
  if d.crPend && d.rx.isNone && d.tx.isNone && d.crcDue.isNone && !d.bistCar && s.linkUp then
    (((s.failQ p 3 5).failQ p 5 5).modPd p fun d =>
      ({ d with crPend := false
                txId := (d.txId.set 1 0).set 2 0, rxVal := (d.rxVal.set 1 false).set 2 false } : Phy).cmdDone 0x43).linkEvt p 10
  else s

/-- BIST_CARRIER (R74). -/
def State.bistCarrier (s : State) (p : PortId) : State :=
  if (s.port p).tc.attached then (s.modPd p fun d => { d with bistCar := true }).pdCmd p 0x42 3 else s.pdCmd p 0x42 2

/-- R74: the carrier ends. -/
def State.bistCarrierEnd (s : State) (p : PortId) : State :=
  if (s.port p).pd.bistCar then (s.modPd p fun d => ({ d with bistCar := false } : Phy).cmdDone 0x42).linkEvt p 12 else s

/-- BIST_TEST_DATA (R74). -/
def State.bistTestData (s : State) (p : PortId) : State :=
  if (s.port p).tc.attached then (s.modPd p fun d => { d with bistTd := true }).pdCmd p 0x54 1 else s.pdCmd p 0x54 2

/-- R181 step 7: HR_DONE. -/
def State.hrDoneCmd (s : State) (p : PortId) : State :=
  let P := s.port p
  if P.tc.attached ∧ P.pd.hrwait ∧ P.ct.hrseq = .doneWait then
    ((s.modPd p fun d => { d with hrwait := false }).modCt p fun c => { c with hrseq := .none }).pdCmd p 0x44 1
  else s.pdCmd p 0x44 2

/-! ### Host queue commands (R84) -/

/-- The status of a Qq_CMD command. -/
def State.qCmd (s : State) (p : PortId) (k : Fin 8) (cmd cst : Byte) : State :=
  s.modQ p k fun q => { q with cmd := { cmd, cst } }

/-- The push of a HOST-CMD entry by the host or the arbiter: full, or the entry and its HOSTCMD event (R77, R84, R125). -/
def State.hostCmdPush (s : State) (p : PortId) (e : Entry) : Nat × State :=
  if (s.queue p 6).full then (2, s.modPd p fun d => { d with ovf := setB d.ovf 6 true })
  else
    let sq := (s.queue p 6).seq
    (0, ((s.modQ p 6 fun q => q.push { e with st := .pending, rsn := 0, time := s.now }).raiseNc (fileCore p)
      { cls := 7, arg := sq.setWidth 32, queue := 6, seq := sq }).2)

/-- PUSH by the host. -/
def State.qPush (s : State) (p : PortId) (k : Fin 8) : State :=
  if !s.present p then s
  else if k ≠ 6 then s.qCmd p k 1 6
  else if fld (s.port p).pd.qsctl 2 2 = 2 then s.qCmd p k 1 5
  else
    let r := s.hostCmdPush p (Entry.ofBytes (s.queue p 6).buf.toList)
    r.2.qCmd p k 1 (if r.1 = 0 then 1 else 2)

/-- POP by the host. -/
def State.qPop (s : State) (p : PortId) (k : Fin 8) : State :=
  if !s.present p then s
  else if k ≠ 7 then s.qCmd p k 2 6
  else if (s.port p).pd.qsctl.getLsbD 0 then s.qCmd p k 2 5
  else match (s.queue p k).ents.head? with
    | none => s.qCmd p k 2 3
    | some e => if e.seq = (s.queue p k).expseq then (s.modQ p k fun q => q.pop s.us).qCmd p k 2 1 else s.qCmd p k 2 4

/-- CLROVF. -/
def State.qClrOvf (s : State) (p : PortId) (k : Fin 8) : State :=
  if !s.present p then s
  else (s.modPd p fun d => { d with ovf := setB d.ovf k.val false }).qCmd p k 3 1

end Sys2Proof.Machine
end

