-- ==== Sys2Proof/Machine/Commits.lean ====
section
/-! DEFINITION. Staged-field commits (R375, R376) of Pn_TC (R58), Pn_PD (R161), Pn_PW (R213), Pn_SP (R239), Pn_MN (R240),
LDG (R265) and FAB (R266). A judgement is a reason code, 0 when the commit is accepted. -/

namespace Sys2Proof.Machine

/-- BLOCK_COMMIT after a REVERT: REF and RSN tell of the last COMMIT (R375). -/
def Commit.reverted (c : Commit) : Commit := { c with cmd := 0x5C }

/-! ### Pn_TC -/

def Tc.pend (t : Tc) : Bool := decide (t.ctlS ≠ t.ctl ∨ t.wetcfgS ≠ t.wetcfg)

/-- R58. -/
def State.tcJudge (s : State) (p : PortId) : Nat :=
  let t := (s.port p).tc
  let role := ctlRole t.ctlS
  if 4 < ctlDcsrc t.ctlS ∨ ctlRplvl t.ctlS = 3 ∨ ctlTry t.ctlS = 3 ∨ outside 10 160 (fld t.wetcfgS 8 8)
      ∨ outside 1 120 (fld t.wetcfgS 0 8) then 1
  else if ctlTry t.ctlS ≠ 0 ∧ role ≠ 2 then 2
  else if ctlRplvl t.ctl < ctlRplvl t.ctlS ∧ (covered s.ldg.grant[p]).val < ctlRplvl t.ctlS then 3
  else if role ≠ ctlRole t.ctl ∧ role ≠ 3 ∧ t.st ≠ .disabled ∧ t.st ≠ .unattachedSnk ∧ t.st ≠ .unattachedSrc
      ∧ ¬ (t.st = .attachedSnk ∧ t.deadbat ∧ (role = 0 ∨ role = 2)) then 4
  else 0

/-- Dead-battery Rd gives way to the powered termination at the first accepted commit (R40, R42, R57). -/
def Tc.endDeadRd (t : Tc) : Tc :=
  let t1 := { t with committed := true, pres := if t.pres = .deadRd then .rd else t.pres }
  if t.pres = .deadRd ∧ t.st = .attachWaitSnk then t1.sinkCheck else t1

/-- The rows of R45 for a committed ROLE; `old` is the role before. -/
def State.roleCommitted (s : State) (p : PortId) (old : Nat) : State :=
  let t := (s.port p).tc
  let role := ctlRole t.ctl
  if role = 3 then
    if t.attached then s.errRecDisable p
    else if t.st = .errorRecovery then s.modTc p fun t => { t with toDis := true }
    else s.toDisabled p
  else if t.st = .errorRecovery then s.modTc p fun t => { t with toDis := false }
  else if t.st = .disabled then s.goByRole p
  else if role ≠ old ∧ (t.st = .unattachedSnk ∨ t.st = .unattachedSrc) then s.goByRole p
  else s

/-- R40, R58: a Pn_TC commit. -/
def State.tcCommit (s : State) (p : PortId) : State :=
  if !s.present p then s
  else
    let old := (s.port p).tc
    let rsn := if old.pend then s.tcJudge p else 0
    let s1 := s.modTc p fun t => { t with com := commitResult rsn }
    if rsn ≠ 0 then s1
    else
      let s2 := s1.modTc p fun t => ({ t with ctl := t.ctlS, wetcfg := t.wetcfgS } : Tc).endDeadRd
      ((s2.roleCommitted p (ctlRole old.ctl)).rpSet p)

/-! ### Pn_PD -/

def Ct.pend (c : Ct) : Bool :=
  decide (c.convS ≠ c.conv ∨ c.coniS ≠ c.coni ∨ c.concfgS ≠ c.concfg ∨ c.frsS &&& 0x0C80 ≠ c.frs &&& 0x0C80)

/-- CONV lies in the range and step of its type (R161). -/
def convOk (typ v : Nat) : Bool :=
  if typ = 0 then decide (v = 0)
  else if typ = 1 then !outside 5000 20000 v && decide (v % 50 = 0)
  else if typ = 2 then !outside 3300 21000 v && decide (v % 20 = 0)
  else if typ = 3 then !outside 9000 20000 v && decide (v % 100 = 0)
  else if typ = 4 then decide (v = 28000 ∨ v = 36000 ∨ v = 48000)
  else if typ = 5 then !outside 15000 48000 v && decide (v % 100 = 0)
  else false

/-- OBJPOS agrees with the type (R161). -/
def objOk (typ pos : Nat) : Bool :=
  decide (pos ≤ 11) && (decide (typ = 0) ||
    (if eprType typ then decide (8 ≤ pos) else decide (1 ≤ pos ∧ pos ≤ 7)))

/-- R161: the judgement of a record and FRS word on port p. -/
def State.pdJudge (s : State) (p : PortId) : Nat :=
  let P := s.port p
  let c := P.ct
  let typ := cfgType c.concfgS
  let v := c.convS.toNat
  let i := c.coniS.toNat
  let epr := cfgEprMode c.concfgS
  let src := decide (P.tc.st = .attachedSrc)
  let arm := frsArm c.frsS
  let grant := s.ldg.grant[p]
  if 5 < typ ∨ (arm ∧ frsCur c.frsS = 0) ∨ !objOk typ (cfgObj c.concfgS) ∨ !convOk typ v ∨ 5000 < i then 1
  else if !P.tc.attached then 5
  else if (c.swap ≠ .none ∨ c.hrseq ≠ .none) ∧ typ ≠ 0 then 4
  else if !s.epren ∧ (eprType typ ∨ epr ∨ 21000 < v) then 6
  else if (eprType typ ∧ !epr) ∨ (cfgEprMode c.concfg ∧ !epr ∧ eprType c.typ) then 7
  else if src ∧ ((3000 < i ∧ !cfgCab5A c.concfgS) ∨ (21000 < v ∧ !cfgCabEpr c.concfgS) ∨ (epr ∧ !cfgCabEpr c.concfgS)) then 8
  else if arm ∧ (ctlRole P.tc.ctl ≠ 2 ∨ P.tc.st ≠ .attachedSnk ∨ c.swap ≠ .none) then 2
  else if (src ∧ grant < ceilDiv (v * i) 1000) ∨ (arm ∧ grant < rpMw (frsCur c.frsS - 1) + c.power) then 9
  else 0

/-- The held record takes the staged values (R160, R162, R39). -/
def State.pdApply (s : State) (p : PortId) : State :=
  let P := s.port p
  let src := decide (P.tc.st = .attachedSrc)
  let typ := cfgType P.ct.concfgS
  let s1 := (s.heldFalls p P.ct.coniS.toNat).modCt p fun c => { c with
    moving := if src ∧ c.convS ≠ c.conv then true else c.moving
    movCnt := if src ∧ c.convS ≠ c.conv then 0 else c.movCnt
    movAt := if src ∧ c.convS ≠ c.conv then s.us else c.movAt
    convOld := if src ∧ c.convS ≠ c.conv then c.conv else c.convOld
    typOld := if src ∧ c.convS ≠ c.conv then BitVec.ofNat 3 c.typ else c.typOld
    conv := c.convS, coni := c.coniS, concfg := c.concfgS, frs := c.frsS, heldT := s.now
    pd3 := if typ = 0 then c.pd3 else c.pd3 || (src && P.pd.rev3) }
  let s2 := (s1.modPw p fun w => { w with frBase := if typ = 0 then w.frBase else false }).mnAgain p
  if typ = 0 then s2.pd3Off p else if src then s2.rpSet p else s2

/-- R160, R161: a Pn_PD commit. -/
def State.pdCommit (s : State) (p : PortId) : State :=
  if !s.present p then s
  else
    let rsn := if (s.port p).ct.pend then s.pdJudge p else 0
    let s1 := if rsn = 0 ∧ (s.port p).ct.pend then s.pdApply p else s
    s1.modCt p fun c => { c with com := commitResult rsn }

/-! ### Pn_PW -/

def Pw.pend (w : Pw) : Bool := decide (w.limS ≠ w.lim ∨ w.cfgS ≠ w.cfg ∨ w.pgwS ≠ w.pgw)

/-- R213. -/
def Pw.judge (w : Pw) : Nat :=
  let v : Pw := { w with lim := w.limS, cfg := w.cfgS, pgw := w.pgwS }
  if outside 20 250 v.hslvl ∨ outside 10 100 v.runmarg ∨ outside 500 8000 v.inrlim ∨ outside 5 60 (fld v.cfg 24 8)
      ∨ outside 1 100 (fld v.cfg 16 8) ∨ outside 2 50 (fld v.cfg 8 8) ∨ outside 2 15 v.pgn ∨ outside 10 100 v.pgwin then 1
  else if limitOrderBad v.hslvl v.inrlim v.runmarg w.rsns then 0x0A else 0

/-- R213: a Pn_PW commit. -/
def State.pwCommit (s : State) (p : PortId) : State :=
  if !s.present p then s
  else s.modPw p fun w =>
    let rsn := if w.pend then w.judge else 0
    if rsn = 0 then { w with lim := w.limS, cfg := w.cfgS, pgw := w.pgwS, com := commitResult 0 }
    else { w with com := commitResult rsn }

/-! ### Pn_SP -/

def Sp.pend (x : Sp) : Bool :=
  decide (x.vminS ≠ x.vmin ∨ x.vmaxS ≠ x.vmax ∨ x.cfgS ≠ x.cfg ∨ x.iclfsS ≠ x.iclfs ∨ x.rdropS ≠ x.rdrop)

/-- VMIN, VMAX or FSI changes (R223). -/
def Sp.rescaled (x : Sp) : Bool := decide (x.vminS ≠ x.vmin ∨ x.vmaxS ≠ x.vmax ∨ fld x.cfgS 0 2 ≠ fld x.cfg 0 2)

/-- R239. -/
def Sp.judge (x : Sp) : Nat :=
  if outside 1 30 (fld x.cfgS 16 8) ∨ outside 0 50 (fld x.cfgS 8 8) ∨ outside 500 20000 x.iclfsS.toNat
      ∨ outside 0 1000 x.rdropS.toNat then 1
  else if x.cen ∧ (x.rescaled ∨ fld x.cfgS 3 1 ≠ fld x.cfg 3 1 ∨ x.iclfsS ≠ x.iclfs) then 4
  else if 4750 < x.vminS.toNat ∨ x.vmaxS.toNat < 5500 ∨ x.vmaxS.toNat < x.vminS.toNat + 5000 then 0x0B else 0

/-- R239: the judgement, and the staged values when it accepts them; corr becomes 0 where the scale changes (R223). -/
def Sp.commit (x : Sp) : Sp :=
  let rsn := if x.pend then x.judge else 0
  if rsn ≠ 0 then { x with com := commitResult rsn }
  else if x.pend then
    let y : Sp := { x with
      vmin := x.vminS, vmax := x.vmaxS, cfg := x.cfgS, iclfs := x.iclfsS, rdrop := x.rdropS
      corr := if x.rescaled then 0 else x.corr, com := commitResult 0 }
    ({ y with cls := y.clsCode y.ilim } : Sp).recode
  else { x with com := commitResult 0 }

/-- R239: a Pn_SP commit. The loop stops where it may no longer run, and TRIMSAT follows its condition (R221, R223). -/
def State.spCommit (s : State) (p : PortId) : State :=
  if !s.present p then s
  else
    let s1 := s.modSp p Sp.commit
    let s2 := if (s1.port p).trimCan then s1 else s1.trimStop p
    if (s2.port p).sp.trimsat && !(s.port p).sp.trimsat then s2.spEvt p 1 else s2

/-! ### Pn_MN -/

def Mn.pend (m : Mn) : Bool :=
  decide (m.ctlS ≠ m.ctl ∨ m.cfgS ≠ m.cfg ∨ m.vlvlS ≠ m.vlvl ∨ m.ilvlS ≠ m.ilvl ∨ m.trkS ≠ m.trk)

/-- R240: a Pn_MN commit. -/
def State.mnCommit (s : State) (p : PortId) : State :=
  if !s.present p then s
  else s.modPort p fun P => { P with mn := P.mnTake s.us P.mn.live P.mn.staging }

/-! ### LDG, FAB -/

/-- R265. -/
def State.ldgJudge (s : State) : Nat :=
  let src := fld s.ldg.cfgS 0 2
  if src = 3 ∨ 100 < fld s.ldg.cfgS 8 8 then 1
  else if availOf src s.fed.feedcap s.fab.term < s.used then 9 else 0

/-- R265: an LDG commit. -/
def State.ldgCommit (s : State) : State :=
  let rsn := if s.ldg.cfgS ≠ s.ldg.cfg then s.ldgJudge else 0
  if rsn = 0 then (s.modLdg fun l => { l with cfg := l.cfgS, com := commitResult 0 }).settle
  else s.modLdg fun l => { l with com := commitResult rsn }

def Fab.pend (f : Fab) : Bool :=
  decide (f.cfgS ≠ f.cfg ∨ f.timingS ≠ f.timing ∨ f.floorS ≠ f.floor ∨ f.rootcapS ≠ f.rootcap ∨ f.lcapS ≠ f.lcap)

/-- Fields of FAB_TIMING. -/
def tLtime (t : Word) : Nat := fld t 22 10
def tShedlead (t : Word) : Nat := fld t 13 9
def tRenew (t : Word) : Nat := fld t 4 9
def tTmo (t : Word) : Nat := fld t 0 4

/-- The block with the staged values in force; a disabled down link loses its F_c (R266). -/
def Fab.staged (f : Fab) : Fab :=
  { f with
    cfg := f.cfgS, timing := f.timingS, floor := f.floorS, rootcap := f.rootcapS, lcap := f.lcapS
    child := Vector.ofFn fun k =>
      if f.cfgS.getLsbD (1 + k.val) then f.child[k] else { f.child[k] with f := 0, known := false } }

/-- A down link is being disabled while it is up or holds an extra (R266). -/
def Fab.childHeld (f : Fab) (k : Fin 2) : Bool :=
  f.cfg.getLsbD (1 + k.val) && !f.cfgS.getLsbD (1 + k.val) &&
    (f.up[(⟨1 + k.val, by omega⟩ : Fin 3)] || decide (0 < f.child[k].x))

/-- A new LCAPc puts X_c + F_c above it (R266). -/
def Fab.lcapLess (f n : Fab) (k : Fin 2) : Bool :=
  decide (n.lcap[k].toNat < f.lcap[k].toNat ∧ n.lcap[k].toNat < n.child[k].x + n.child[k].f)

/-- R266. A commit that does not lower P_avail, or a LCAPc, is not judged against it (R244). -/
def State.fabJudge (s : State) : Nat :=
  let f := s.fab
  let n := f.staged
  if fld f.cfgS 13 2 = 3 ∨ outside 10 1000 (tLtime f.timingS) ∨ outside 5 500 (tShedlead f.timingS)
      ∨ outside 1 500 (tRenew f.timingS) ∨ outside 1 15 (tTmo f.timingS) then 1
  else if tLtime f.timingS < tShedlead f.timingS + 2 * tRenew f.timingS then 0x10
  else if n.root ≠ f.root ∧ (0 < f.xin ∨ 0 < f.child[0].x ∨ 0 < f.child[1].x) then 2
  else if f.childHeld 0 ∨ f.childHeld 1 then 0x11
  else if s.overBudget n ∨ f.lcapLess n 0 ∨ f.lcapLess n 1 then 9 else 0

/-- FLOORERR follows F_sub and ROOTCAP at the root (R255). -/
def Fab.floorCheck (f : Fab) : Fab :=
  let e := f.root && decide (f.rootcap.toNat < f.fsub)
  { f with floorErr := e, evt := if e && !f.floorErr then setB f.evt 6 true else f.evt }

/-- R266: a FAB commit. -/
def State.fabCommit (s : State) : State :=
  let rsn := if s.fab.pend then s.fabJudge else 0
  if rsn ≠ 0 then s.modFab fun f => { f with com := commitResult rsn }
  else if s.fab.pend then (s.modFab fun f => ({ f.staged with com := commitResult 0 } : Fab).floorCheck).settle
  else s.modFab fun f => { f with com := commitResult 0 }

end Sys2Proof.Machine
end

