-- ==== Sys2Proof/Machine/Monitors.lean ====
section
/-! DEFINITION. Window monitors, sieves and the comparator self-test (09, R230-R237). -/

namespace Sys2Proof.Machine

/-- Voltage a record's levels track: 5,000 mV with TYPE none (R232). -/
def trackV (typ conv : Nat) : Nat := if typ = 0 then 5000 else conv

/-- V_t for the OVP level and for the UVP level: the larger and the smaller of both records in MOVING (R232). -/
def Port.trackHi (P : Port) : Nat :=
  let v := trackV P.ct.typ P.ct.conv.toNat
  if P.ct.moving then max v (trackV P.ct.typOld.toNat P.ct.convOld.toNat) else v
def Port.trackLo (P : Port) : Nat :=
  let v := trackV P.ct.typ P.ct.conv.toNat
  if P.ct.moving then min v (trackV P.ct.typOld.toNat P.ct.convOld.toNat) else v

/-- Tracked levels of R232, in mV and mA. -/
def Port.trkOvp (P : Port) : Nat := P.trackHi * (100 + fld P.mn.trk 0 8) / 100
def Port.trkUvp (P : Port) : Nat := if P.ct.typ = 2 then 3000 else P.trackLo * (100 - fld P.mn.trk 8 8) / 100
def Port.trkOcp (P : Port) : Nat :=
  if P.pw.fastHold then P.pw.ocpCap else min (P.iLim * (100 + fld P.mn.trk 16 8) / 100) P.pw.ocpCap

/-- Top and bottom of the power-good window, of both records in MOVING, in thousandths of a mV; under PPS the bottom is
3,300 mV at most (R233). -/
def Port.winTop (P : Port) : Nat :=
  let h := winHi P.pw.pgwin P.ct.typ P.ct.conv.toNat
  if P.ct.moving then max h (winHi P.pw.pgwin P.ct.typOld.toNat P.ct.convOld.toNat) else h
def Port.winBottom (P : Port) : Nat :=
  let l := winLo P.pw.pgwin P.ct.typ P.ct.conv.toNat (decide (P.ct.typ = 2))
  if P.ct.moving then min l (winLo P.pw.pgwin P.ct.typOld.toNat P.ct.convOld.toNat (decide (P.ct.typOld = 2))) else l

/-- Levels in use: OVP, UVP in mV, OCP, REV in mA, and which tracked values stand in (R232, R233). -/
structure Levels where
  ovp : Nat
  uvp : Nat
  ocp : Nat
  rev : Nat
  sub : BitVec 3
  deriving DecidableEq, Repr

/-- R232, R233. -/
def Port.levels (P : Port) : Levels :=
  let m := P.mn
  let absV := m.cfg.getLsbD 1
  let absI := m.cfg.getLsbD 2
  let ao := fld m.vlvl 16 16
  let au := fld m.vlvl 0 16
  let ai := fld m.ilvl 16 16
  let so := absV && decide (ao * 1000 ≤ P.winTop)
  let su := absV && decide (P.winBottom ≤ au * 1000)
  let si := absI && decide (ai < P.iLim ∨ P.pw.ocpCap < ai)
  { ovp := if absV && !so then ao else P.trkOvp
    uvp := if absV && !su then au else P.trkUvp
    ocp := if absI && !si then ai else P.trkOcp
    rev := fld m.ilvl 0 16
    sub := BitVec.ofNat 3 (so.toNat + 2 * su.toNat + 4 * si.toNat) }

/-- A current level as its threshold DAC code in 0.25 mV steps, rounded down (R231). -/
def dacI (ma rsns : Nat) : Nat := min 1023 (ma * rsns * 4 / 10000)

/-- A voltage level at its threshold DAC: 64 mV steps, OVP down and UVP up (R231). -/
def dacOvp (mv : Nat) : Nat := mv / 64 * 64
def dacUvp (mv : Nat) : Nat := ceilDiv mv 64 * 64

/-- One sample of the five comparators, OVV, OVS, UVV, OCP, REV from bit 0 (R230). -/
def Port.sample (P : Port) (l : Levels) (m : MonSample) : BitVec 5 :=
  let above (x : Int) (ma : Nat) := decide ((dacI ma P.pw.rsns * 10000 : Nat) < x * P.pw.rsns * 4)
  BitVec.ofNat 5 ((decide (dacOvp l.ovp < m.vb)).toNat + 2 * (decide (dacOvp l.ovp < m.sn)).toNat
    + 4 * (decide (m.vb < dacUvp l.uvp)).toNat + 8 * (above m.i.natAbs l.ocp).toNat + 16 * (above (-m.i) l.rev).toNat)

/-- Inputs of the four sieves: the OVP sieve takes the OR of OVV and OVS (R230). -/
def sieveIn (raw : BitVec 5) : Fin 4 → Bool
  | 0 => raw.getLsbD 0 || raw.getLsbD 1
  | 1 => raw.getLsbD 2
  | 2 => raw.getLsbD 3
  | 3 => raw.getLsbD 4

/-- Number of ones among the low m bits. -/
def onesIn (h : Byte) (m : Nat) : Nat := (List.range m).foldl (fun a i => a + (h.getLsbD i).toNat) 0

/-- A sieve's next history: the new result in bit 0 (R234). -/
def sieveHist (h : Byte) (b : Bool) : Byte := setF (h <<< 1) 0 1 b.toNat

/-- The trip cause of armed outputs, the first of R198's table: OCP, REVERSE, OVP, UVP. -/
def sieveCause (x : BitVec 4) : Option Nat :=
  if x.getLsbD 2 then some 3 else if x.getLsbD 3 then some 4 else if x.getLsbD 0 then some 5
  else if x.getLsbD 1 then some 6 else none

/-! ### The self-test (R237); comparators OVV, OVS, UVV, OCP, REV are 0 to 4 -/

/-- The level in use at a comparator as its DAC applies it: mV for a voltage, DAC code for a current. -/
def Port.stLevel (P : Port) (l : Levels) (j : Nat) : Nat :=
  if j < 2 then dacOvp l.ovp else if j = 2 then dacUvp l.uvp else dacI (if j = 3 then l.ocp else l.rev) P.pw.rsns

/-- Mid-scale of an input (log 24). -/
def stMid (j : Nat) : Nat := if j < 3 then 32736 else 511

/-- Two values of an input, in ten-thousandths of its unit, lie within 2 % of full scale of each other: 65,472 mV or code
1,023 (log 24). -/
def stNear (j : Nat) (a b : Int) : Bool := decide ((a - b).natAbs ≤ (if j < 3 then 65472 else 1023) * 200)

/-- Case 4 is skipped: the last ADC value of the input lies within 2 % of full scale of the level. The ADC has no value of
SN: a free Bool (log 133). -/
def Port.stSkip4 (P : Port) (l : Levels) (j : Nat) (snNear : Bool) : Bool :=
  let i := P.ms.i.toInt * P.pw.rsns * 4
  if j = 1 then snNear
  else stNear j (if j < 3 then (P.ms.vb.toNat : Int) * 10000 else if j = 3 then i.natAbs else -i) ((P.stLevel l j : Int) * 10000)

/-- A case of comparator j is skipped. -/
def Port.stSkip (P : Port) (l : Levels) (j c : Nat) (snNear : Bool) : Bool :=
  if c = 2 then stNear j ((stMid j : Int) * 10000) ((P.stLevel l j : Int) * 10000)
  else decide (c = 3) && P.stSkip4 l j snNear

/-- Expected result of a self-test case; cases 0 to 3 of comparator j. -/
def Port.stExpect (P : Port) (l : Levels) (raw : BitVec 5) (j c : Nat) : Bool :=
  if c = 0 then decide (j = 2)
  else if c = 1 then decide (j ≠ 2)
  else if c = 2 then (if j = 2 then decide (stMid j < P.stLevel l j) else decide (P.stLevel l j < stMid j))
  else !raw.getLsbD j

/-- The case that a running self-test makes in this tick (R237): its comparator, whether it is skipped, and whether `r`, the
result of the test sample, mismatches. Tick t takes case t mod 4 of comparator t / 4. -/
def Port.stCase (P : Port) (l : Levels) (raw : BitVec 5) (r snNear : Bool) : Option (Nat × Bool × Bool) :=
  if P.mn.testing && decide (P.mn.stTick < 20) then
    let j := P.mn.stTick / 4
    let c := P.mn.stTick % 4
    let sk := P.stSkip l j c snNear
    some (j, sk, !sk && (r != P.stExpect l raw j c))
  else none

/-- The registers of the self-test after a case. -/
def Mn.stTake (m : Mn) : Option (Nat × Bool × Bool) → Mn
  | none => m
  | some (j, sk, bad) =>
    { m with
      stTick := m.stTick + 1
      fail := if bad then setB m.fail j true else m.fail
      skip := if sk then setB m.skip j true else m.skip }

/-- A period of MPER ticks counts one tick (R236). -/
def Mn.countTick (m : Mn) : Mn :=
  { m with per := if fld m.ctl 0 16 ≤ m.per + 1 then 0 else m.per + 1, begun := false }

/-- R231-R237: one comparator tick of a port; `st` is the result of the test sample where a self-test runs. The CC voltages
and the VCONN current it also samples reach no command: they are free values (log 1). -/
def State.monitorTick (s : State) (p : PortId) (x : MonSample) (st : Bool) : State :=
  let P := s.port p
  let l := P.levels
  let raw := P.sample l x
  let mm := fld P.mn.ctl 20 4
  let nn := fld P.mn.ctl 16 4
  let hist : Vector Byte 4 := Vector.ofFn fun i => sieveHist P.mn.hist[i] (sieveIn raw i)
  let out : BitVec 4 := maskOf 4 4 fun i => decide (nn ≤ onesIn (hist[i]?.getD 0) mm)
  let rose := out &&& ~~~P.mn.out
  let t := P.stCase l raw st (Config.freeBool s.freeCtr)
  let newSub := l.sub &&& ~~~P.mn.sub
  let s1 := (s.setVb p x.vb).modMn p fun m => ({ m with
    hist, out, raw, rawl := m.rawl ||| raw, svl := m.svl ||| out, sub := l.sub
    ulvl := BitVec.ofNat 32 (min 65535 l.ovp * 65536 + min 65535 l.uvp)
    uilvl := BitVec.ofNat 32 (min 65535 l.ocp * 65536 + min 65535 l.rev) } : Mn).countTick.stTake t
  let s2 := (List.range 4).foldl (fun s i => if rose.getLsbD i then s.mnEvt p i else s) s1
  let s3 := if newSub ≠ 0 then s2.mnEvt p 4 else s2
  let s4 := if t.any fun c => c.2.2 then s3.mnEvt p 6 else s3
  let s5 := { (s4.modTc p fun t => { t with
      ccv1 := Config.freeByte s.freeCtr ++ Config.freeByte (s.freeCtr + 1)
      ccv2 := Config.freeByte (s.freeCtr + 2) ++ Config.freeByte (s.freeCtr + 3)
      vconni := Config.freeByte (s.freeCtr + 4) ++ Config.freeByte (s.freeCtr + 5) }) with freeCtr := s.freeCtr + 6 }
  match sieveCause (out &&& (P.pw.gatesAt s.us).armed) with
  | some c => s5.trip p c
  | none => s5.tripAlso p

/-- Raw latches that feed the sieves of a mask: OVV and OVS feed OVP (R236). -/
def rawOf (sv : BitVec 4) : BitVec 5 :=
  maskOf 5 5 fun i => if i < 2 then sv.getLsbD 0 else sv.getLsbD (i - 1)

/-- R236: a monitoring period begins, once, before the first of its MPER ticks. -/
def State.monitorPeriod (s : State) (p : PortId) : State :=
  s.modMn p fun m =>
    let clr : BitVec 4 := BitVec.ofNat 4 (fld m.cfg 8 4)
    if m.per ≠ 0 ∨ m.begun then m
    else { m with
      begun := true
      prev := BitVec.ofNat 16 (m.rawl.toNat * 256 + m.svl.toNat)
      svl := m.svl &&& ~~~clr, rawl := m.rawl &&& ~~~(rawOf clr) }

/-- R237: 0x5E of Pn_MN_STEST. While a test runs it is refused, and CST goes on to show the running test (log 134). -/
def State.stest (s : State) (p : PortId) : State :=
  s.modMn p fun m =>
    if m.testing then { m with st := { m.st with cmd := 0x5E } }
    else { m with st := { cmd := 0x5E, cst := 3 }, testing := true, stTick := 0, fail := 0, skip := 0 }

/-- R237: the self-test ends after its 20 ticks. -/
def State.selfTestEnd (s : State) (p : PortId) : State :=
  if (s.port p).mn.testing ∧ (s.port p).mn.stTick = 20 then
    (s.modMn p fun m => { m with testing := false, st := { m.st with cst := 1 } }).mnEvt p 5
  else s

end Sys2Proof.Machine
end

