-- ==== Sys2Proof/Machine/Feeds.lean ====
section
/-! DEFINITION. Feed channels, early warning, VHOLD energy, and the FED commit (11). The save is in Larder.lean. -/

namespace Sys2Proof.Machine

/-- Number of a feed. -/
def feedIx (k : Feed) : Nat := if k = .f1 then 0 else 1

/-- One feed channel, and its change. -/
def Fed.feed (f : Fed) (k : Feed) : FeedSt := if k = .f1 then f.f1 else f.f2
def Fed.modFeed (f : Fed) (k : Feed) (g : FeedSt → FeedSt) : Fed :=
  if k = .f1 then { f with f1 := g f.f1 } else { f with f2 := g f.f2 }

/-- FEN of a feed, EWMODE. -/
def Fed.fen (f : Fed) (k : Feed) : Bool := f.cfg.getLsbD (feedIx k)
def Fed.ewAll (f : Fed) : Bool := f.cfg.getLsbD 2

/-- Sense resistor of a feed in 0.1 milliohm: F1RSNS, F2RSNS (R269). -/
def Fed.rsns (f : Fed) (k : Feed) : Nat := fld f.cfg (16 + 8 * feedIx k) 8

/-- EWTHR in mV of a threshold word, and EWTHR + EWHYST x 100. -/
def ewThr (w : Word) : Nat := fld w 16 16
def ewRelease (w : Word) : Nat := ewThr w + fld w 0 8 * 100

/-- The device's early warning holds (R273). -/
def Fed.ewHolds (f : Fed) : Bool :=
  if f.ewAll then (f.fen .f1 || f.fen .f2) && !(f.fen .f1 && f.f1.good) && !(f.fen .f2 && f.f2.good)
  else (f.fen .f1 && f.f1.warn) || (f.fen .f2 && f.f2.warn)

/-- EW follows its condition: EWON or EWOFF, and FEEDCAP's bound (R274). -/
def State.ewUpdate (s : State) : State :=
  let s1 := if s.fed.ewHolds = s.fed.ew then s
    else (s.modFed fun f => { f with ew := f.ewHolds }).fedEvt (if s.fed.ewHolds then 0 else 1)
  s1.settle

/-- A feed becomes or stops being GOOD (R271). -/
def State.setGood (s : State) (k : Feed) (g : Bool) : State :=
  if (s.fed.feed k).good = g then s else (s.modFed fun f => f.modFeed k fun c => { c with good := g }).fedEvt 6

/-- The tests of R273 on a threshold word: FIN below EWTHR, or a fall within 16 us of more than EWSLOPE x 100 mV; a field of
0 disables its test. -/
def ewMet (w : Word) (fin fell : Nat) : Bool :=
  (decide (ewThr w ≠ 0) && decide (fin < ewThr w)) || (decide (fld w 8 8 ≠ 0) && decide (fld w 8 8 * 100 < fell))

/-- R272: a feed has stayed at or above EWTHR + EWHYST for 10 ms. -/
def State.feedGood (s : State) (k : Feed) (fin : Nat) : State :=
  if s.fed.fen k && !(s.fed.feed k).warn && decide (ewRelease (s.fed.feed k).ew ≤ fin) then (s.setGood k true).ewUpdate else s

/-- R273: a feed meets its early-warning condition. -/
def State.feedWarn (s : State) (k : Feed) (fin before : Nat) : State :=
  if s.fed.fen k && !(s.fed.feed k).warn && ewMet (s.fed.feed k).ew fin (before - fin) then
    (((s.modFed fun f => f.modFeed k fun c => { c with warn := true }).setGood k false).fedEvt (2 + feedIx k)).ewUpdate
  else s

/-- R273: the condition of a feed ends. -/
def State.feedWarnEnd (s : State) (k : Feed) (fin fell : Nat) : State :=
  if decide (ewRelease (s.fed.feed k).ew ≤ fin) && !ewMet (s.fed.feed k).ew fin fell then
    (s.modFed fun f => f.modFeed k fun c => { c with warn := false }).ewUpdate
  else s

/-- R270: reverse turn-off of a feed. -/
def State.feedReverse (s : State) (k : Feed) : State :=
  if s.fed.fen k && !(s.fed.feed k).revoff then
    (s.modFed fun f => f.modFeed k fun c => { c with on := false, revoff := true }).fedEvt (4 + feedIx k)
  else s

/-- R270: forward regulation resumes. -/
def State.feedResume (s : State) (k : Feed) : State :=
  if s.fed.fen k then s.modFed fun f => f.modFeed k fun c => { c with on := true, revoff := false } else s

/-! ### VHOLD (R276) -/

/-- Ten times C_eff in uF. -/
def Fed.ceff10 (f : Fed) : Nat :=
  let c := 8 * fld f.lcfg 16 16
  match f.cmeas with
  | some m => min c (9 * m)
  | none => c

/-- 20,000,000 times E in uJ, for VHOLD in mV; 0 below 5.0 V. -/
def energy20 (ceff10 vhold : Nat) : Nat := ceff10 * (vhold * vhold - 25000000)

/-- E in uJ (FED_EREADY). -/
def Fed.ready (f : Fed) (vhold : Nat) : Nat := energy20 f.ceff10 vhold / 20000000

/-- E is below 1.2 mJ. -/
def lowEnergy (ceff10 vhold : Nat) : Bool := decide (energy20 ceff10 vhold < 24000000000)

/-- LOWENERGY follows E (R276). -/
def State.energyUpdate (s : State) : State :=
  let low := lowEnergy s.fed.ceff10 s.pins.vhold
  if low = s.fed.lowE then s else (s.modFed fun f => { f with lowE := low }).fedEvt (if low then 8 else 7)

/-- R276: VHOLD as it crosses the level. -/
def State.lowenergyChange (s : State) (vhold : Nat) : State := (s.modPins fun n => { n with vhold }).energyUpdate

/-- R276: a passage of t us completes; CMEAS = 2 mA x t / 3.0 V. -/
def State.cmeasPassage (s : State) (us : Nat) : State :=
  (s.modFed fun f => { f with cmeas := some (2 * us / 3000) }).energyUpdate

/-- The save trigger on VHV is armed (R389). -/
def State.saveArm (s : State) : State := s.modFed fun f => { f with armed := true }

/-! ### The FED commit (R287) -/

def Fed.pend (f : Fed) : Bool :=
  decide (f.cfgS ≠ f.cfg ∨ f.f1.capS ≠ f.f1.cap ∨ f.f2.capS ≠ f.f2.cap ∨ f.buscapS ≠ f.buscap ∨ f.shedcapS ≠ f.shedcap
    ∨ f.f1.ewS ≠ f.f1.ew ∨ f.f2.ewS ≠ f.f2.ew ∨ f.lcfgS ≠ f.lcfg)

/-- A feed with its staged values; a disabled feed is neither GOOD nor in warning. -/
def FeedSt.staged (c : FeedSt) (en : Bool) : FeedSt :=
  { c with cap := c.capS, ew := c.ewS, good := c.good && en, warn := c.warn && en, on := c.on && en, revoff := c.revoff && en }

/-- The block with the staged values in force. -/
def Fed.staged (f : Fed) : Fed :=
  { f with
    cfg := f.cfgS, f1 := f.f1.staged (f.cfgS.getLsbD 0), f2 := f.f2.staged (f.cfgS.getLsbD 1)
    buscap := f.buscapS, shedcap := f.shedcapS, lcfg := f.lcfgS }

/-- VSAVE + RESHYST in mV. -/
def resumeMv (l : Word) : Nat := (fld l 6 10 + fld l 0 6) * 100

/-- R287; OVER_GRANT where the FEEDCAP of the staged block, with its early warning, lowers P_avail below the sums (R244). -/
def State.fedJudge (s : State) : Nat :=
  let f := s.fed
  let n := f.staged
  let ewBad (w : Word) := outside 0 60000 (ewThr w) ∨ outside 5 100 (fld w 0 8) ∨ 60000 < ewRelease w
  let src := fld s.ldg.cfg 0 2
  if outside 10 200 (fld n.cfg 24 8) ∨ outside 10 200 (fld n.cfg 16 8) ∨ outside 1 100 (fld n.cfg 8 8) ∨ ewBad n.f1.ew
      ∨ ewBad n.f2.ew ∨ outside 47 4700 (fld n.lcfg 16 16) ∨ outside 80 450 (fld n.lcfg 6 10) ∨ outside 10 63 (fld n.lcfg 0 6)
  then 1
  else if s.pins.vhv ≤ resumeMv n.lcfg then 0x12
  else if lowEnergy (8 * fld n.lcfg 16 16) (min 12000 (resumeMv n.lcfg - 500)) then 0x13
  else if s.overAvail (availOf src ({ n with ew := n.ewHolds } : Fed).feedcap s.fab.term) then 9
  else 0

/-- R287: a FED commit. -/
def State.fedCommit (s : State) : State :=
  let rsn := if s.fed.pend then s.fedJudge else 0
  if rsn ≠ 0 then s.modFed fun f => { f with com := commitResult rsn }
  else ((s.modFed fun f => { f.staged with com := commitResult 0 }).ewUpdate).energyUpdate

end Sys2Proof.Machine
end

