-- ==== Sys2Proof/Machine/Measure.lean ====
section
/-! DEFINITION. Measurement (09): ADC frames, energy, averages, power-good, thermistor derating. -/

namespace Sys2Proof.Machine

/-- The mJ counter and pJ residue after a frame of v mV and i mA (R226). -/
def energyAdd (cnt : BitVec 48) (res v i : Nat) : BitVec 48 × Nat :=
  let t := res + 20 * v * i
  (cnt + BitVec.ofNat 48 (t / 1000000000), t % 1000000000)

/-- P = VB x I / 1,000 mW, truncated toward 0 (R226). -/
def power (v : Nat) (i : Int) : Int := Int.tdiv ((v : Int) * i) 1000

/-- A current in mA from the voltage across a sense resistor, in uV within an input range of 100 mV either way, and the
resistor in 0.1 milliohm (R225, R269, R271); truncated toward 0 (log 135). -/
def senseMa (uv : Int) (rsns : Nat) : Int := Int.tdiv (clampI (-100000) 100000 uv * 10) rsns

/-- A current as its signed 16-bit register shows it. One that does not fit reads the free value (log 1). -/
def currentReg (i : Int) (free : Half) : Half := if -32768 ≤ i ∧ i ≤ 32767 then ofInt 16 i else free

/-- The next free value of the model as two bytes, for a current that does not fit its register. -/
def State.freeHalf (s : State) : Half := Config.freeByte s.freeCtr ++ Config.freeByte (s.freeCtr + 1)

/-- A voltage in its range of 0 to 65,535 mV (R225). -/
def inRange16 (v : Nat) : Nat := min v 65535

/-- One frame of a port's registers and energy (R224-R227): VB, the current and V_ISN. -/
def Ms.frame (m : Ms) (now : Word) (vb : Nat) (i : Int) (visn : Nat) (free : Half) : Ms :=
  let eo := if 0 < i then energyAdd m.eout m.resOut vb i.natAbs else (m.eout, m.resOut)
  let ei := if i < 0 then energyAdd m.ein m.resIn vb i.natAbs else (m.ein, m.resIn)
  { m with
    vb := BitVec.ofNat 16 vb, i := currentReg i free, pw := ofInt 32 (power vb i), time := now - 20
    visn := BitVec.ofNat 16 visn
    n := m.n + 1, sumVb := m.sumVb + vb, sumI := m.sumI + i, sumP := m.sumP + power vb i
    last := ((vb, i) :: m.last).take 10
    eout := eo.1, resOut := eo.2, ein := ei.1, resIn := ei.2 }

/-- A sample satisfies every power-good condition (R209). -/
def Port.pgOk (P : Port) (vb : Nat) (i : Int) : Bool :=
  P.inWindow vb i && ((decide (P.pw.mode = .sourceOn) && decide (P.pw.phase = .running)) ||
    (decide (P.pw.mode = .idealDiode) && !P.pw.revoff)) && !P.pw.limact && !P.pw.lid

/-- VB of the frame that ends now was converted after the commit that set MOVING (R162, R224): slot 2 x (p mod 4). -/
def State.sinceCommit (s : State) (p : PortId) : Bool := decide ((s.port p).ct.movAt + 20 < s.us + 2 * (p.val % 4))

/-- Power-good on a sample: the PGN-th good one counts at the end of the us, for power-good and, of those taken since the
commit, for MOVING; 3 outside the window withdraw power-good (R162, R209, R210). -/
def State.pgSample (s : State) (p : PortId) (vb : Nat) (i : Int) : State :=
  let P := s.port p
  let ok := P.pgOk vb i
  let cnt := if ok then P.pw.pgCnt + 1 else 0
  let bad := if P.inWindow vb i then 0 else P.pw.pgBad + 1
  let mv := if ok ∧ P.ct.moving ∧ s.sinceCommit p then P.ct.movCnt + 1 else 0
  let due := (!P.pw.pg && ok && decide (P.pw.pgn ≤ cnt)) || (P.ct.moving && decide (P.pw.pgn ≤ mv))
  let s1 := s.modPort p fun P => { P with
    pw := { P.pw with pgCnt := min cnt 15, pgBad := min bad 3, pgDue := due }
    ct := { P.ct with movCnt := mv } }
  if P.pw.pg && decide (3 ≤ bad) then s1.pgDown p else s1

/-- One port's part of an ADC frame. -/
def State.portFrame (s : State) (p : PortId) (x : PortSample) : State :=
  if !s.present p then s
  else
    let vb := inRange16 x.vb
    let i := senseMa x.sense (s.port p).pw.rsns
    let s1 := ({ s.setVb p vb with freeCtr := s.freeCtr + 2 } : State).modPort p fun P => { P with
      ms := P.ms.frame s.now vb i (inRange16 x.visn) s.freeHalf
      pw := { P.pw with
        vgsa := BitVec.ofNat 16 x.vgsa, vgsb := BitVec.ofNat 16 x.vgsb
        vdsa := BitVec.ofNat 16 x.vdsa, vdsb := BitVec.ofNat 16 x.vdsb
        gb := P.pw.gb || (decide (P.pw.mode = .idealDiode) && P.pw.ga && decide (9000 ≤ x.vgsa)) } }
    ((s1.modTc p Tc.seek).hrVbIn p vb).pgSample p vb i

/-- One feed's part of an ADC frame (R269, R271): GOOD ends when FIN falls below EWTHR. -/
def State.feedFrame (s : State) (k : Feed) (x : FeedSample) : State :=
  let fin := inRange16 x.fin
  let i := senseMa x.sense (s.fed.rsns k)
  let s1 := ({ s with freeCtr := s.freeCtr + 2 } : State).modFed fun f => f.modFeed k fun c =>
    let e := if 0 < i then energyAdd c.energy c.res fin i.natAbs else (c.energy, c.res)
    { c with
      fin := BitVec.ofNat 16 fin, fout := BitVec.ofNat 16 (inRange16 x.fout), i := currentReg i s.freeHalf
      pw := ofInt 32 (power fin i), time := s.now - 20, energy := e.1, res := e.2
      on := f.fen k && !c.revoff }
  if fin < ewThr (s.fed.feed k).ew then s1.setGood k false else s1

/-- R224: an ADC frame. The list gives the samples of ports A to H in order; a missing one reads 0. -/
def State.adcFrame (s : State) (ps : List PortSample) (f1 f2 : FeedSample) (r : RailSample) : State :=
  let zero : PortSample := { vb := 0, sense := 0, visn := 0, vgsa := 0, vgsb := 0, vdsa := 0, vdsb := 0 }
  let s1 := s.modPins fun n => { n with
    v5 := r.v5, vcore := r.vcore, vio := r.vio, vhv := r.vhv, vhold := r.vhold, vconn1 := r.vconn1, vconn2 := r.vconn2
    dieT := r.dieT }
  let s2 := s1.forPresent fun s p => s.portFrame p (ps.getD p.val zero)
  (((s2.feedFrame .f1 f1).feedFrame .f2 f2).ewUpdate).energyUpdate

/-- R227: the averages take the means of the frames of the millisecond, truncated toward 0. -/
def Ms.average (m : Ms) (now : Word) : Ms :=
  if m.n = 0 then m
  else { m with
    avb := BitVec.ofNat 16 (m.sumVb / m.n), ai := ofInt 16 (Int.tdiv m.sumI m.n), apw := ofInt 32 (Int.tdiv m.sumP m.n)
    atime := now, n := 0, sumVb := 0, sumI := 0, sumP := 0 }

/-- R227 for every port. -/
def State.averageUpdate (s : State) : State := s.forPresent fun s p => s.modMs p fun m => m.average s.now

/-- R226, Pn_MS_ECMD: the counters and residues of a port become 0. -/
def Ms.eclear (m : Ms) : Ms := { m with eout := 0, ein := 0, resOut := 0, resIn := 0 }

/-- Pn_MS_ECMD 0xE0. -/
def State.ecmdClear (s : State) (p : PortId) : State :=
  if s.present p then s.modMs p fun m => { m.eclear with ecmd := { cmd := 0xE0, cst := 1 } } else s

/-! ### Thermistors (R228, R229, R241) -/

/-- TSTART and TEND of a LDG_THk_CFG word, in 0.125 degrees C. -/
def thStart (w : Word) : Int := ((fld w 16 8 : Int) - 40) * 8
def thEnd (w : Word) : Int := ((fld w 24 8 : Int) - 40) * 8

/-- State of an input: 0 valid, 1 OPEN, 2 SHORT, 3 assigned to no port (LDG_THSTAT.ST). -/
def thState (cfg : Word) (v vr : Nat) : Nat :=
  if fld cfg 0 8 = 0 then 3 else if 98 * vr < 100 * v then 1 else if 100 * v < vr then 2 else 0

/-- The fixed point of the temperature formula: 2^64 to one. -/
def fixOne : Nat := 2 ^ 64

/-- atanh of a / b for 0 <= 3 a <= b in fixed point, by its series: n terms, the power and the odd number of the next. -/
def atanhFix (a b : Nat) : Nat → Nat → Nat → Nat
  | 0, _, _ => 0
  | n + 1, pw, k => pw / k + atanhFix a b n (pw * a * a / (b * b)) (k + 2)

/-- 2 atanh(a / b): ln((b + a) / (b - a)). -/
def lnFix (a b : Nat) : Nat := 2 * atanhFix a b 36 (fixOne * a / b) 1

/-- ln(x / y) in fixed point, x and y above 0: powers of two are taken out until the ratio lies in 1 to 2. -/
def lnRatio (x y : Nat) : Int :=
  let k := x.log2
  let m := y.log2
  let a := x * 2 ^ m
  let b := y * 2 ^ k
  let c := if a < b then 2 * a else a
  let e : Int := (k : Int) - m - if a < b then 1 else 0
  e * lnFix 1 3 + lnFix (c - b) (c + b)

/-- 8 T of R228, in degrees C and rounded down, from a reading v against vr, R25 in 10 ohm and B in K. Where the formula's
divisor is 0 it has no value: the upper clamp is taken (log 12). -/
def ntcEighths (v vr r25 b : Nat) : Int :=
  let inv : Int := fixOne * 100 / 29815 + Int.fdiv (lnRatio (1000 * v) ((vr - v) * r25)) b
  if inv = 0 then 1200 else Int.fdiv (Int.fdiv (80 * fixOne) inv - 21852) 10

/-- Reported temperature in 0.125 degrees C: TEND for a faulted input; otherwise the formula's value, rounded down or up to
the resolution, which the spec leaves open (R228; log 12). -/
def thTemp (cfg ntc : Word) (v vr : Nat) : Int :=
  if 98 * vr < 100 * v ∨ 100 * v < vr then thEnd cfg
  else
    let r25 := fld ntc 0 16
    let b := fld ntc 16 16
    let up := Config.ntcUp v vr r25 b && decide (1000 * v ≠ (vr - v) * r25)
    clampI (-320) 1200 (ntcEighths v vr r25 b + if up then 1 else 0)

/-- f_k of R229. -/
def thFactor (cfg : Word) (t : Int) : Nat :=
  let a := thStart cfg
  let b := thEnd cfg
  if t ≤ a then 256 else if b ≤ t then 0 else (256 * (b - t) / (b - a)).toNat

/-- Least factor of the inputs that name a port, at their temperatures plus an offset; 256 when none does. -/
def Ldg.portFactor (l : Ldg) (p : PortId) (off : Int) : Nat :=
  (List.finRange 4).foldl (fun a k =>
    if l.thcfg[k].getLsbD p.val then min a (thFactor l.thcfg[k] (l.tht[k].toInt + off)) else a) 256

/-- Hottest input of a port; 0x8000 when none is assigned. -/
def Ldg.hottest (l : Ldg) (p : PortId) : Half :=
  (List.finRange 4).foldl (fun (a : Half) k =>
    if l.thcfg[k].getLsbD p.val then (if a = 0x8000 ∨ a.toInt < l.tht[k].toInt then l.tht[k] else a) else a) 0x8000

/-- The factor in force: g below it, or g+ above it, else unchanged (R229). -/
def nextFactor (cur g gp : Nat) : Nat := if g < cur then g else if cur < gp then gp else cur

/-- R229 for one port; a changed ceiling sets CEIL and raises LEDGER on its file core and the arbiter. -/
def State.deratePort (s : State) (p : PortId) : State :=
  if !s.present p then s
  else
    let old := s.ceil p
    let s1 := s.modMs p fun m => { m with
      factor := nextFactor m.factor (s.ldg.portFactor p 0) (s.ldg.portFactor p 16), hot := s.ldg.hottest p }
    if s1.ceil p = old then s1
    else ((s1.modLdg fun l => { l with evt := setB l.evt 1 true }).raiseCoal (fileCore p) 11 1).raiseCoal arbiterId 11 1

/-- The mean of an input's readings of a millisecond, as a reading and a reference of the same ratio: the sums of both
(R228; log 136). -/
def ntcMean (l : List (Nat × Nat)) : Nat × Nat := l.foldl (fun a x => (a.1 + x.1, a.2 + x.2)) (0, 0)

/-- R228, R229: the millisecond evaluation. The lists give the readings, with their reference, of NTC0 to NTC3. -/
def State.derateEval (s : State) (ntc : List (List (Nat × Nat))) : State :=
  let rd (k : Fin 4) := ntcMean (ntc.getD k.val [])
  let s1 := s.modLdg fun l => { l with
    tht := Vector.ofFn fun k => ofInt 16 (thTemp l.thcfg[k] l.thntc[k] (rd k).1 (rd k).2)
    thst := setF l.thst 0 8 ((List.finRange 4).foldl (fun a k => a + thState l.thcfg[k] (rd k).1 (rd k).2 * 4 ^ k.val) 0) }
  s1.forPresent State.deratePort

/-- R241: a write of LDG_THk_CFG. -/
def State.thermCfg (s : State) (k : Fin 4) (v : Word) : State :=
  let v := v &&& 0xFFFF00FF
  if 190 < fld v 24 8 ∨ 190 < fld v 16 8 ∨ fld v 24 8 < fld v 16 8 + 4 then
    s.modLdg fun l => { l with thst := setB l.thst 8 true }
  else s.modLdg fun l => { l with thcfg := l.thcfg.set k v }

/-- R241: a write of LDG_THk_NTC. -/
def State.thermNtc (s : State) (k : Fin 4) (v : Word) : State :=
  if outside 2000 6000 (fld v 16 16) ∨ outside 100 10000 (fld v 0 16) then
    s.modLdg fun l => { l with thst := setB l.thst 8 true }
  else s.modLdg fun l => { l with thntc := l.thntc.set k v }

end Sys2Proof.Machine
end

