-- ==== Sys2Proof/Machine/Fabric.lean ====
section
/-! DEFINITION. The ledger cut, fabric links, frames, fabric time, leases and lease commands (10). The tunnel target is in
Tunnel.lean. -/

namespace Sys2Proof.Machine

/-! ### The ledger cut (R247) -/

/-- Rank of a port in the cut: its priority, ties to the higher index. -/
def Ldg.cutRank (l : Ldg) (p : PortId) : Nat := fld l.prio (4 * p.val) 4 * 8 + (7 - p.val)

/-- The next port to cut: the least rank among those with a grant. -/
def Ldg.cutNext (l : Ldg) : Option PortId :=
  (List.finRange 8).foldl (fun a p =>
    if l.grant[p] = 0 then a
    else match a with
      | none => some p
      | some q => if l.cutRank p < l.cutRank q then some p else some q) none

/-- One port cut: GATE = 0b00, grant and reservation released with the Rp handling of R38, CUT, LEDGER bit 2. -/
def State.cutPort (s : State) (p : PortId) : State :=
  let s1 := ((s.gateWrite p 0).2.setGrant p 0).modLdg fun l => { l with
    rsvF := l.rsvF.set p 0, rsvA := l.rsvA.set p 0, evt := setB l.evt (8 + p.val) true }
  (s1.raiseLedger 4).overdraw

/-- Ports are cut one at a time until the overdraw ends; at most n. -/
def State.cutLoop : Nat → State → State
  | 0, s => s
  | n + 1, s =>
    if s.used ≤ s.pAvail then s
    else match s.ldg.cutNext with
      | none => s
      | some p => State.cutLoop n (s.cutPort p)

/-- R247: the cut at its deadline. -/
def State.ledgerCut (s : State) : State :=
  match s.ldg.cutAt with
  | some d => if !s.frozen && s.ldg.overdrawn && passed d s.now then State.cutLoop 8 s else s
  | none => s

/-! ### Links and frames -/

/-- A down link as a link. -/
def dLink (k : Fin 2) : FLink := if k = 0 then .d0 else .d1

/-- A link is enabled (R249, FAB_CFG). -/
def Fab.linkEn (f : Fab) : FLink → Bool
  | .u => !f.root && f.cfg.getLsbD 0
  | .d0 => f.downEn 0
  | .d1 => f.downEn 1

/-- A link is enabled and up. -/
def Fab.linkOn (f : Fab) (l : FLink) : Bool := f.linkEn l && f.up[l.idx]

/-- A FAB_EVT bit sets. -/
def Fab.ev (f : Fab) (b : Nat) : Fab := { f with evt := setB f.evt b true }

/-- A frame is queued on an output; discarded and counted when the link is down or its queue is full (R248, R250). -/
def Fab.send (f : Fab) (l : FLink) (x : FFrame) : Fab :=
  if f.linkOn l && decide (f.txq[l.idx].length < 8) then { f with txq := f.txq.set l.idx (f.txq[l.idx] ++ [x]) }
  else { f with nDrop := satInc f.nDrop }

/-- A frame of the device's own; its payload is filled with 0 (R251). -/
def Fab.frame (f : Fab) (typ : Nat) (tag : Byte) (dst : Nat) (payload : List Byte) : FFrame :=
  { typ := BitVec.ofNat 8 typ, tag, dst := BitVec.ofNat 16 dst, src := (f.own.getD 0).setWidth 16, payload := padTo 22 payload }

/-- n bytes of a payload, as a number. -/
def FFrameNum (x : FFrame) (o n : Nat) : Nat := ofLe ((x.payload.drop o).take n)

/-- The 32 bytes of a frame (R251). -/
def frameBytes (x : FFrame) : List Byte :=
  let b := [x.typ, x.tag] ++ leBytes 2 x.dst.toNat ++ leBytes 2 x.src.toNat ++ padTo 22 x.payload
  b ++ leBytes 4 (crc32 b).toNat

/-- The frame that 32 bytes spell; its CRC is the link's to add. -/
def frameOfBytes (b : List Byte) : FFrame :=
  { typ := b.getD 0 0, tag := b.getD 1 0, dst := BitVec.ofNat 16 (ofLe ((b.drop 2).take 2))
    src := BitVec.ofNat 16 (ofLe ((b.drop 4).take 2)), payload := padTo 22 ((b.drop 6).take 22) }

/-- The loop of R250's rule: the ancestor of x just below own, and the last step taken. -/
def climb : Nat → Nat → Nat → Nat → Nat × Nat
  | 0, _, x, last => (x, last)
  | n + 1, own, x, last => if own < x then climb n own ((x - 1) / 2) x else (x, last)

/-- Output link of a destination (R250). -/
def route (dst own : Nat) : FLink :=
  if dst ≤ own then .u
  else
    let r := climb 15 own dst dst
    if r.1 ≠ own then .u else if r.2 % 2 = 1 then .d0 else .d1

/-- DST of a frame. -/
def frameDst (x : FFrame) : Nat := fld x.dst 0 14

/-- The frame is addressed to this device. -/
def Fab.mine (f : Fab) (x : FFrame) : Bool :=
  match f.own with
  | some a => decide (frameDst x = a.toNat)
  | none => false

/-- How many payload bytes a frame type uses (R252); the reserved byte in REG_TUNNEL and in ACK is told apart below. -/
def payloadUsed (typ : Nat) : Nat := [0, 14, 16, 8, 8, 9, 20, 22, 18, 8].getD typ 0

/-- A frame that the receiver does not discard (R251): a TYPE of R252, no bit in DST[15:14] or SRC[15:14], unused payload
bytes 0. Its CRC and its symbols are FABRIC_FRAME_DISCARD's. -/
def frameValid (x : FFrame) : Bool :=
  let t := x.typ.toNat
  decide (1 ≤ t ∧ t ≤ 9) && decide (fld x.dst 14 2 = 0) && decide (fld x.src 14 2 = 0)
    && (x.payload.drop (payloadUsed t)).all (fun b => decide (b = 0))
    && (decide (t ≠ 7) || decide (x.payload.getD 5 0 = 0)) && (decide (t ≠ 8) || decide (x.payload.getD 1 0 = 0))

/-- R250: a frame received on link l for another device. -/
def State.frameForward (s : State) (l : FLink) (x : FFrame) : State :=
  if !s.fab.linkOn l then s
  else match s.fab.own with
    | none => s
    | some a =>
      if frameDst x = a.toNat then s
      else if frameDst x = 0x3FFF then
        if l = .u then s.modFab fun f => (f.send .d0 x).send .d1 x else s
      else s.modFab fun f => f.send (route (frameDst x) a.toNat) x

/-- R251: a discarded frame is counted. -/
def State.frameDiscard (s : State) (l : FLink) : State :=
  s.modFab fun f => if l = .u then { f with nCrcU := satInc f.nCrcU } else { f with nCrcD := satInc f.nCrcD }

/-- Address of the parent. -/
def Fab.parent (f : Fab) : Nat := ((f.own.getD 0).toNat - 1) / 2

/-- R256: a RENEW goes out, or counts as failed when U is down. -/
def State.renewSend (s : State) : State :=
  if s.fab.root || s.fab.own.isNone then s
  else if s.fab.linkOn .u then
    let t := s.freeByte
    t.2.modFab fun f => { f.send .u (f.frame 3 t.1 f.parent (leBytes 4 f.xin ++ leBytes 4 f.fsub)) with
      renewOut := true, ackDead := false }
  else s.modFab fun f => { f with nRenew := satInc f.nRenew }

/-- R248: a link comes up; on U a RENEW follows at once (R256). -/
def State.linkComesUp (s : State) (l : FLink) : State :=
  if s.fab.linkEn l && !s.fab.up[l.idx] then
    let s1 := s.modFab fun f => ({ f with up := f.up.set l.idx true } : Fab).ev 0
    if l = .u then s1.renewSend else s1
  else s

/-- R248: a link goes down; its queued frames are discarded and counted. -/
def State.linkGoesDown (s : State) (l : FLink) : State :=
  if s.fab.up[l.idx] then
    s.modFab fun f => ({ f with
      up := f.up.set l.idx false, nDrop := satAdd f.nDrop f.txq[l.idx].length
      txq := f.txq.set l.idx [], txT := f.txT.set l.idx 0 } : Fab).ev 0
  else s

/-! ### Fabric time (R249, R254) -/

/-- The own address follows the DST of TIME frames; 0x3FFF is no address (R249). -/
def Fab.takeAddr (f : Fab) (dst : BitVec 14) : Fab :=
  if dst = 0x3FFF then f
  else match f.addr with
  | none => ({ f with addr := some dst, candN := 0 } : Fab).ev 7
  | some a =>
    if dst = a then { f with candN := 0 }
    else
      let n := if f.cand = dst then f.candN + 1 else 1
      if 3 ≤ n then ({ f with addr := some dst, candN := 0 } : Fab).ev 7 else { f with cand := dst, candN := n }

/-- A TIME frame has been missed since the last: more than one and a half periods of 1,000 us have passed (log 141). -/
def Fab.timeLate (f : Fab) (us : Nat) : Bool :=
  match f.timeAt with
  | none => false
  | some t => decide (t + 1500 < us)

/-- R254: fabric time is corrected toward FTIME plus the link's allowance: a step forward above 50 us, a slew below, half
rate while ahead. The allowance and the slew are not in the spec (log 14). A frame missed since the last one breaks the row
that FTLOCK asks for (log 141). -/
def Fab.correct (f : Fab) (us ftime : Nat) : Fab :=
  let e : Int := ((ftime + Config.linkAllowance : Nat) : Int) - f.ftime.toNat
  let good := if f.timeLate us then 1 else f.ftGood + 1
  if 50 < e then { f with ftime := f.ftime + BitVec.ofInt 64 e, ahead := 0, half := false, ftGood := 0, timeAt := some us }
  else if 0 ≤ e then
    { f with ftime := f.ftime + BitVec.ofNat 64 (min e.toNat (Config.timeSlew e).toNat), ahead := 0, half := false
             ftGood := min 64 good, timeAt := some us, ftlock := f.ftlock || decide (64 ≤ good) }
  else
    { f with ahead := 2 * e.natAbs, half := false, ftGood := min 64 good, timeAt := some us
             ftlock := f.ftlock || decide (64 ≤ good) }

/-- Depth of an address: floor of log2 (n + 1) (R249). -/
def depthOf (n : Nat) : Nat := (n + 1).log2

/-- R254: TIME frames on every enabled down link that is up. -/
def State.timeSend (s : State) : State :=
  match s.fab.own with
  | none => s
  | some a =>
    let one (s : State) (k : Fin 2) : State :=
      if s.fab.linkOn (dLink k) then
        let t := s.freeByte
        t.2.modFab fun f => f.send (dLink k) (f.frame 5 t.1 (2 * a.toNat + 1 + k.val)
          (leBytes 8 f.ftime.toNat ++ leBytes 1 (depthOf a.toNat)))
      else s
    one (one s 0) 1

/-- R254: eight TIME frames are missed. -/
def State.ftlockLost (s : State) : State := s.modFab fun f => { f with ftlock := false, ftGood := 0 }

/-! ### Leases (R255-R257, R261, R262) -/

/-- An open entry closes (R261). -/
def Fab.closeTxe (f : Fab) (e : Fin 8) : Fab := { f with txe := f.txe.set e {} }

/-- R257: the device sheds. Open entries are rolled back as on a timeout. -/
def State.shedActs (s : State) : State :=
  let anyOpen := s.fab.txe.toList.any fun e => e.opn
  let s1 := s.modFab fun f =>
    let g := ({ f with shed := true, txe := Vector.replicate 8 {} } : Fab).ev 1
    if anyOpen then g.ev 4 else g
  (s1.raiseCoal arbiterId 0x24 1).settle

/-- The expiry minus the shed lead lies at or before fabric time t. -/
def Fab.shedDue (f : Fab) : Bool := decide (f.xexp.toNat ≤ f.ftime.toNat + tShedlead f.timing * 10000)

/-- A lease has been received (R256, R257): SHED clears, or the device sheds at once on one too short. -/
def State.leaseIn (s : State) : State :=
  let f := s.fab
  if 0 < f.xin ∧ f.shedDue then
    if f.shed then (s.modFab fun f => { f with expired := false }).settle
    else (s.modFab fun f => { f with expired := false }).shedActs
  else if f.shed ∧ (0 < f.xin ∨ !f.expired) then
    (s.modFab fun f => ({ f with shed := false, expired := false } : Fab).ev 3).settle
  else s.settle

/-- R257: the shed point. -/
def State.shedPoint (s : State) : State :=
  if !s.frozen && !s.fab.root && !s.fab.shed && decide (0 < s.fab.xin) && s.fab.shedDue then s.shedActs else s

/-- R257: the device's own lease expires. -/
def State.leaseExpiry (s : State) : State :=
  if !s.frozen && !s.fab.root && decide (0 < s.fab.xin) && decide (s.fab.xexp.toNat ≤ s.fab.ftime.toNat) then
    let s1 := if s.fab.shed then s else s.shedActs
    ((s1.modFab fun f => ({ f with xin := 0, expired := true, ackDead := true } : Fab).ev 2).raiseCoal arbiterId 0x24 2).settle
  else s

/-- R257: a child's extra expires. -/
def State.childExpiry (s : State) (k : Fin 2) : State :=
  let c := s.fab.child[k]
  if s.frozen = false ∧ 0 < c.x ∧ c.exp.toNat ≤ s.fab.ftime.toNat then
    (s.modFab fun f => { f with child := f.child.set k { c with x := 0 } }).settle
  else s

/-- Steps 1 and 2 of R245: what is due by fabric time, child expiries first, then the device's own expiry or shed point. The
tick takes them before any operation of its us, and a step of fabric time takes them with it (log 140). -/
def State.leaseDue (s : State) : State := (((s.childExpiry 0).childExpiry 1).leaseExpiry).shedPoint

/-- R254: a TIME frame on U. A new address can disable a down link (R249). -/
def State.timeRx (s : State) (x : FFrame) : State :=
  if s.fab.linkOn .u then
    ((s.modFab fun f => (f.takeAddr (BitVec.ofNat 14 (frameDst x))).correct s.us (FFrameNum x 0 8)).settle).leaseDue
  else s

/-- R268: FAB_FTSET. -/
def State.ftset (s : State) (v : DWord) : State :=
  (s.modFab fun f =>
    let g := { f with ftset := v }
    if f.root ∧ f.ftime.toNat ≤ v.toNat then ({ g with ftime := v } : Fab).ev 9 else g).leaseDue

/-- R261: an entry times out TMO after its reservation. -/
def State.txTimeout (s : State) (e : Fin 8) : State :=
  let x := s.fab.txe[e]
  if !s.frozen && x.opn && passed (x.at' + BitVec.ofNat 32 (tTmo s.fab.timing * 20000)) s.now then
    (s.modFab fun f => (f.closeTxe e).ev 4).settle
  else s

/-- The ACK of a parent for a child's RENEW or RETURN (R252, R256). -/
def Fab.ackFor (f : Fab) (k : Fin 2) (x : FFrame) : FFrame :=
  let c := f.child[k]
  f.frame 8 x.tag x.src.toNat ([x.typ, 0] ++ leBytes 4 c.x ++ leBytes 8 c.exp.toNat ++ leBytes 4 c.f)

/-- R256: a child's RENEW is answered in hardware. -/
def State.leaseRenew (s : State) (k : Fin 2) (x : FFrame) : State :=
  if s.fab.linkOn (dLink k) && s.fab.mine x then
    let held := FFrameNum x 0 4
    let lim := s.fab.ftime.toNat + tLtime s.fab.timing * 10000
    let exp := if 0 < s.fab.xin then min lim s.fab.xexp.toNat else lim
    let s1 := s.modFab fun f =>
      let c := f.child[k]
      ({ f with child := f.child.set k { x := min c.x held, exp := BitVec.ofNat 64 exp, f := FFrameNum x 4 4
                                         known := true } } : Fab).floorCheck
    (s1.modFab fun f => f.send (dLink k) (f.ackFor k x)).settle
  else s

/-- R262: a child's RETURN. -/
def State.leaseReturn (s : State) (k : Fin 2) (x : FFrame) : State :=
  if s.fab.linkOn (dLink k) && s.fab.mine x then
    let s1 := s.modFab fun f =>
      let c := f.child[k]
      { f with child := f.child.set k { c with x := c.x - FFrameNum x 0 4 } }
    (s1.modFab fun f => f.send (dLink k) (f.ackFor k x)).settle
  else s

/-- R256: a RENEW has had no ACK within TMO. -/
def State.renewTimeout (s : State) : State :=
  if s.fab.renewOut then s.modFab fun f => { f with renewOut := false, nRenew := satInc f.nRenew } else s

/-- R256: an ACK of a RENEW or a RETURN; dropped once the lease has expired. -/
def State.ackRx (s : State) (x : FFrame) : State :=
  let f := s.fab
  let ref := FFrameNum x 0 1
  if !f.linkOn .u || !f.mine x || !decide (ref = 3 ∨ ref = 4) || f.ackDead
      || decide (0 < f.xin ∧ f.xexp.toNat ≤ f.ftime.toNat) then s
  else (s.modFab fun f => { f with
    xin := FFrameNum x 2 4, xexp := BitVec.ofNat 64 (FFrameNum x 6 8)
    renewOut := if ref = 3 then false else f.renewOut }).leaseIn

/-! ### Frames for the arbiter (R253) -/

/-- The NAK of a frame whose FABRX was refused (R253); ORIGIN is that of the frame (log 25). -/
def Fab.nakFor (f : Fab) (x : FFrame) (code : Nat) : FFrame :=
  let org := if x.typ = 1 ∨ x.typ = 2 then FFrameNum x 0 2 else if x.typ = 9 then FFrameNum x 2 2 else 0
  f.frame 9 x.tag x.src.toNat ([x.typ, BitVec.ofNat 8 code] ++ leBytes 2 org)

/-- Link toward a device. -/
def Fab.linkTo (f : Fab) (dst : Nat) : FLink := route dst (f.own.getD 0).toNat

/-- R253: a frame goes to the receive queue of its link and raises FABRX; refused, it is answered with a NAK. -/
def State.fabDeliver (s : State) (l : FLink) (x : FFrame) : State :=
  if 8 ≤ s.fab.rxq[l.idx].length then s.modFab fun f => f.ev 5
  else
    let s1 := s.modFab fun f => { f with rxq := f.rxq.set l.idx (f.rxq[l.idx] ++ [x]) }
    let r := s1.raiseNc arbiterId { cls := 0x22, arg := BitVec.ofNat 32 l.idx.val }
    if r.1 = 0 then r.2
    else r.2.modFab fun f =>
      let g := { f with rxq := f.rxq.set l.idx (f.rxq[l.idx]).dropLast }
      g.send (g.linkTo x.src.toNat) (g.nakFor x r.1)

/-- R255: the subtree floor that a child reports in a LEASE_REQ counts, whether or not the queue takes the frame (log 142). -/
def State.reqFloor (s : State) (l : FLink) (x : FFrame) : State :=
  if x.typ ≠ 1 ∨ l = .u then s
  else
    let k : Fin 2 := if l = .d0 then 0 else 1
    (s.modFab fun f => ({ f with child := f.child.set k { f.child[k] with f := FFrameNum x 10 4, known := true } } : Fab).floorCheck).settle

/-- R253: a LEASE_REQ, LEASE_GRANT or NAK for this device. -/
def State.fabQueue (s : State) (l : FLink) (x : FFrame) : State :=
  if s.fab.linkOn l && s.fab.mine x then (s.reqFloor l x).fabDeliver l x else s

/-! ### Lease commands (R267) -/

/-- FAB_LCMD after a command. -/
def State.lcmdSet (s : State) (cmd : Byte) (st : Nat) : State :=
  s.modFab fun f => { f with lcmd := { cmd, cst := BitVec.ofNat 8 st } }

/-- The lowest entry that is not open. -/
def Fab.freeTxe (f : Fab) : Option (Fin 8) := (List.finRange 8).find? fun e => !f.txe[e].opn

/-- Entry e opened, with the TAG and ORIGIN it is known by (R320). -/
def Fab.openTxe (f : Fab) (e : Fin 8) (pass : Bool) (now : Word) (tag : Byte) (origin : BitVec 14) : Fab :=
  { f with txe := f.txe.set e { opn := true, pass, link := f.llink, amt := f.lamt.toNat, at' := now, tag, origin } }

/-- Status of RSV_TOP and RSV_PASS (R244, R267; order of causes: log 26). -/
def State.rsvStatus (s : State) (pass : Bool) : Nat :=
  let f := s.fab
  let amt := f.lamt.toNat
  if pass ∧ f.root then 0x13
  else if f.shed ∧ !f.root then 0x16
  else match f.freeTxe with
    | none => 0x15
    | some e => if f.room f.llink < amt then 0x11 else if s.overBudget (f.openTxe e pass s.now 0 0) then 0x10 else 0

/-- RSV_TOP and RSV_PASS. The command carries no TAG and no ORIGIN, and the spec does not say where an entry takes them from:
free values (log 150). -/
def State.leaseRsv (s : State) (pass : Bool) : State :=
  let cmd : Byte := if pass then 0x12 else 0x11
  let st := s.rsvStatus pass
  if st ≠ 0 then s.lcmdSet cmd st
  else match s.fab.freeTxe with
    | none => s.lcmdSet cmd 0x15
    | some e =>
      let tag := Config.freeByte s.freeCtr
      let origin := (Config.freeByte (s.freeCtr + 1) ++ Config.freeByte (s.freeCtr + 2)).setWidth 14
      (((({ s with freeCtr := s.freeCtr + 3 } : State).modFab fun f =>
        { f.openTxe e pass s.now tag origin with lentry := e })).settle).lcmdSet cmd 0

/-- COMMIT of an entry. -/
def State.leaseCommit (s : State) : State :=
  let f := s.fab
  let e := f.txe[f.lentry]
  let amt := f.lamt.toNat
  if !e.opn ∨ e.amt < amt then s.lcmdSet 0x13 0x12
  else
    let c := f.child[e.link]
    let s1 := s.modFab fun f => { f.closeTxe f.lentry with
      child := f.child.set e.link { c with x := c.x + amt, exp := f.lexp }
      xin := if e.pass then f.xin + amt else f.xin
      xexp := if e.pass then f.lexp else f.xexp }
    (if e.pass then s1.leaseIn else s1.settle).lcmdSet 0x13 0

/-- ROLLBACK of an entry. -/
def State.leaseRollback (s : State) : State :=
  if s.fab.txe[s.fab.lentry].opn then ((s.modFab fun f => f.closeTxe f.lentry).settle).lcmdSet 0x14 0
  else s.lcmdSet 0x14 0x12

/-- OWNGRANT. -/
def State.ownGrant (s : State) : State :=
  if s.fab.root then s.lcmdSet 0x15 0x13
  else ((s.modFab fun f => { f with xin := f.xin + f.lamt.toNat, xexp := f.lexp }).leaseIn).lcmdSet 0x15 0

/-- Status of RETURN (R244, R262, R267). -/
def State.returnStatus (s : State) : Nat :=
  let f := s.fab
  if f.xin < f.lamt.toNat then 0x14 else if s.overBudget { f with xin := f.xin - f.lamt.toNat } then 0x10 else 0

/-- RETURN. -/
def State.leaseGiveBack (s : State) : State :=
  if s.returnStatus ≠ 0 then s.lcmdSet 0x16 s.returnStatus
  else
    let t := s.freeByte
    (((t.2.modFab fun f => { f with xin := f.xin - f.lamt.toNat }).modFab fun f =>
      f.send .u (f.frame 4 t.1 f.parent (leBytes 4 f.lamt.toNat ++ leBytes 4 f.xin))).settle).lcmdSet 0x16 0

/-! ### The root's side of the tunnel (R263) -/

/-- FAB_TCMD after an end of the request. -/
def Fab.tunEnd (f : Fab) (cst : Byte) : Fab := ({ f with tcmd := { f.tcmd with cst }, tunRun := false } : Fab).ev 8

/-- FAB_TCMD 0x54. A request that no down link of the root leads to ends as NO_ROUTE. -/
def State.tunnelSend (s : State) : State :=
  let f := s.fab
  let op := fld f.topl 8 8
  let len := fld f.topl 0 8
  let dst := fld f.tdst 0 14
  let l := route dst 0
  if !f.root ∨ f.tunRun ∨ outside 1 16 len ∨ ¬ (op = 1 ∨ op = 2) then s.modFab fun f => { f with tcmd := { cmd := 0x54, cst := 2 } }
  else if l = .u ∨ dst = 0x3FFF ∨ !f.linkOn l then s.modFab fun f => { f with tcmd := { cmd := 0x54, cst := 8 } }
  else s.modFab fun f => { f.send l (f.frame 7 f.ttag dst
      ([BitVec.ofNat 8 op, BitVec.ofNat 8 len] ++ leBytes 2 f.taddr.toNat ++ [0] ++ [0] ++ f.tdata.toList)) with
    tcmd := { cmd := 0x54, cst := 3 }, tunRun := true }

/-- R263: the reply reaches the root. -/
def State.tunnelReply (s : State) (x : FFrame) : State :=
  let f := s.fab
  let st := FFrameNum x 4 1
  let op := FFrameNum x 0 1
  if !f.root || !f.tunRun || !f.mine x || decide (x.tag ≠ f.ttag) || decide (op ≠ fld f.topl 8 8 + 128) then s
  else s.modFab fun f =>
    let n := min 16 (FFrameNum x 1 1)
    let g := if op = 0x81 then { f with tdata := Vector.ofFn fun i =>
        if i.val < n then x.payload.getD (6 + i.val) 0 else f.tdata[i] } else f
    g.tunEnd (if st = 0 then 1 else if st = 1 then 6 else if st = 2 then 7 else 5)

/-- R263: no reply within 10 ms. -/
def State.tunnelTimeout (s : State) : State := if s.fab.tunRun then s.modFab fun f => f.tunEnd 4 else s

/-- The frame that now begins to leave: a TIME frame of the device's own carries the fabric time of this instant (R254). -/
def Fab.stampTime (f : Fab) : List FFrame → List FFrame
  | [] => []
  | x :: t =>
    if x.typ = 5 ∧ x.src = (f.own.getD 0).setWidth 16 then
      { x with payload := leBytes 8 f.ftime.toNat ++ x.payload.drop 8 } :: t
    else x :: t

/-- One us on an output (R248): a frame and its gap leave after 12 us (11.84 us; log 2). -/
def Fab.txTick (f : Fab) (i : Fin 3) : Fab :=
  match f.txq[i] with
  | [] => f
  | _ :: t => if 11 ≤ f.txT[i] then { f with txq := f.txq.set i (f.stampTime t), txT := f.txT.set i 0 }
    else { f with txT := f.txT.set i (f.txT[i] + 1) }

end Sys2Proof.Machine
end

