-- ==== Sys2Proof/Machine/FlagUnits.lean ====
section
/-! DEFINITION. Flag units (12): arming and disarming (R288), the window (R290), classification of check-ins
(R291-R293), the cross-monitor (R295) and the flag record (R299). What a fall starts is in Recovery.lean. -/

namespace Sys2Proof.Machine

/-! ### OTP content in force (R331, R334) -/

/-- Word w of the OTP shadow in force: the sensed content, the override, or for region 6 the OR of both. -/
def State.otpWord (s : State) (w : Fin 256) : Word :=
  let r := w.val / 16
  let sensed := s.otp.shadow[w]
  if s.otp.ovr.getLsbD r then (if r = 6 then sensed ||| s.otp.ovrBuf[w] else s.otp.ovrBuf[w]) else sensed

/-- FLG_POLICY (R301, R328 region 5): bits 23:18 and 31:28 read 0. -/
def State.policy (s : State) : Word := s.otpWord 80 &&& 0x0F03FFFF

/-- A value with the bits that are no field left out: reserved bits ignore a write (R16). -/
def fields (w m v : Nat) : BitVec w := BitVec.ofNat w v &&& BitVec.ofNat w m

/-! ### Ticks and the window -/

/-- The unit counts (R288). -/
def FlagUnit.armed (u : FlagUnit) : Bool := decide (u.st = .first ∨ u.st = .running)

/-- Tick t of a unit: its clock's count since arming (R290, R294). -/
def FlagUnit.tick (u : FlagUnit) (now slow : Word) : Word :=
  if u.cfg.getLsbD 0 then slow - u.armSlow else now - u.armNow

/-- Tick t of unit c in the state. -/
def State.unitTick (s : State) (c : CoreId) : Word := s.flg.units[c].tick s.now s.tmb.slow

/-- A closed period is followed by the next one from the tick after the closing tick (R290, R292). -/
def FlagUnit.roll (u : FlagUnit) (t : Word) : FlagUnit :=
  match u.closing with
  | some k => if t = k then u
    else { u with st := .running, pstart := k + 1, closing := none, done := 0, dupm := 0, proxm := 0 }
  | none => u

/-- P, the period in ticks. -/
def FlagUnit.period (u : FlagUnit) : Nat := fld u.per 0 24

/-- Length of the period under way: FIRSTMUL x P for the first (R290). -/
def FlagUnit.len (u : FlagUnit) : Nat := if u.st = .first then fld u.cfg 12 4 * u.period else u.period

/-- Ticks from the start of the period to the opening of its window (R290). -/
def FlagUnit.open' (u : FlagUnit) : Nat :=
  if u.st = .first then 0
  else match u.frac.toNat with
    | 0 => u.period / 8
    | 1 => u.period / 4
    | 2 => u.period / 2
    | _ => u.period * 3 / 4

/-- Ticks since the start of the period. -/
def FlagUnit.since (u : FlagUnit) (t : Word) : Nat := (t - u.pstart).toNat

/-- The window is open at tick t (FLG_cSTAT.OPEN). -/
def FlagUnit.isOpen (u : FlagUnit) (t : Word) : Bool :=
  u.armed && decide (u.open' ≤ u.since t) && decide (u.since t < u.len)

/-- Tick end has come with an enabled slot not done (R292). -/
def FlagUnit.isLate (u : FlagUnit) (t : Word) : Bool := u.armed && decide (u.closing = none) && decide (u.len ≤ u.since t)

/-- Lowest enabled slot not done. -/
def FlagUnit.missing (u : FlagUnit) : Nat :=
  ((List.range 16).find? fun n => u.enabled.getLsbD n && !u.done.getLsbD n).getD 0xFF

/-! ### Arming (R288, R301) -/

/-- The slots unit c would arm with: units 0 to 7 have slots 0 to 7; FORCE makes slot 0 the least. -/
def State.armSlots (s : State) (c : CoreId) : Half :=
  let e := if c.val < 8 then s.flg.units[c].sloten &&& 0xFF else s.flg.units[c].sloten
  if e = 0 ∧ s.policy.getLsbD 24 then 1 else e

/-- Unit c arms in the tick its core enters START, or stays disarmed (R288, R302). -/
def State.armUnit (s : State) (c : CoreId) : State :=
  let e := s.armSlots c
  let pol := s.policy
  if e = 0 ∨ s.corePresent c = false then s
  else s.modUnit c fun u => { u with
    st := .first, clkmiss := false, misses := 0, armNow := s.now, armSlow := s.tmb.slow, pstart := 0, closing := none
    enabled := e, frac := BitVec.ofNat 2 (fld pol (2 * c.val) 2)
    dupfall := pol.getLsbD 25, proxyoff := pol.getLsbD 26, flagarb := pol.getLsbD 27
    done := 0, dupm := 0, proxm := 0, last := Vector.replicate 16 0xFFFFFFFF, cnt := Vector.replicate 16 0 }

/-- Unit c disarms without a fall; a fallen unit stays fallen until its core next enters START (R288, R297). -/
def State.disarmUnit (s : State) (c : CoreId) : State :=
  s.modUnit c fun u => if u.st = .fallen then u else { u with st := .disarmed, closing := none }

/-! ### The fields of a unit -/

/-- A register of flag unit c: class F while the unit is armed (R18, R301). -/
def State.unitRegWrite (s : State) (c : CoreId) (off v : Nat) : State :=
  if s.flg.units[c].armed then s
  else match off with
  | 0 => if outside 16 16777215 (v % 2 ^ 24) then s else s.modUnit c fun u => { u with per := BitVec.ofNat 32 (v % 2 ^ 24) }
  | 4 => s.modUnit c fun u =>
      let mul := v / 4096 % 16
      { u with cfg := fields 16 0x101 v ||| BitVec.ofNat 16 ((if mul = 0 then fld u.cfg 12 4 else mul) * 4096) }
  | 6 => s.modUnit c fun u => { u with sloten := if c = arbiterId then BitVec.ofNat 16 v else fields 16 0xFF v }
  | _ => s

/-- The boot ROM writes unit 8's fields before the arbiter image starts (R289). The spec does not give the values: each write
carries a free one, within its field's range (log 146). -/
def State.romUnit8 (s : State) : State :=
  let v (k : Nat) : Nat := ofLe ((List.range 3).map fun i => Config.freeByte (s.freeCtr + 3 * k + i))
  (({ s with freeCtr := s.freeCtr + 9 } : State).unitRegWrite arbiterId 0 (v 0)).unitRegWrite arbiterId 4 (v 1 % 2 ^ 16)
    |>.unitRegWrite arbiterId 6 (v 2 % 2 ^ 16)

/-! ### Classification (R291) -/

/-- How a check-in was classified. -/
inductive CheckIn where
  | stray | early | duplicate | inTime | late
  deriving DecidableEq, Repr

/-- The class of a check-in of slot n at tick t on a unit already rolled (R291). In the closing tick every enabled slot
is done, so a repeat is a duplicate (R292). -/
def FlagUnit.classify (u : FlagUnit) (t : Word) (n : Fin 16) : CheckIn :=
  if u.isLate t then .late
  else if u.enabled.getLsbD n.val = false then .stray
  else if u.done.getLsbD n.val then .duplicate
  else if u.since t < u.open' then .early
  else .inTime

/-- The unit after a check-in of slot n at tick t, falls aside (R291, R293, R299 LAST). -/
def FlagUnit.count (u : FlagUnit) (t : Word) (n : Fin 16) (proxy : Bool) : FlagUnit :=
  let k := u.classify t n
  let u1 := if proxy ∧ k ≠ .late then { u with nProxy := satInc u.nProxy, proxm := setB u.proxm n.val true } else u
  match k with
  | .stray => { u1 with nStray := satInc u1.nStray, last := u1.last.set n t }
  | .late => u1
  | .early => { u1 with last := u1.last.set n t }
  | .duplicate => { u1 with nDup := satInc u1.nDup, dupm := setB u1.dupm n.val true, last := u1.last.set n t }
  | .inTime =>
    let d := setB u1.done n.val true
    { u1 with
      done := d, last := u1.last.set n t, cnt := u1.cnt.set n (satInc u1.cnt[n])
      closing := if d &&& u1.enabled = u1.enabled then some t else none }

/-! ### The flag record (R299) -/

/-- A second cause in the tick of the fall: the record holds the one that stands first in R298, with its slot. -/
def FlagUnit.recast (u : FlagUnit) (cause slot : Nat) : FlagUnit :=
  if u.lastCause.toNat ≤ cause then u
  else
    let r := (u.record.set 1 (BitVec.ofNat 8 cause)).set 2 (BitVec.ofNat 8 slot)
    { u with
      lastCause := BitVec.ofNat 8 cause
      record := if cause = 1 ∧ u.cfg.getLsbD 0 = false then r.take 0x10 ++ leBytes 4 0xFFFFFFFF ++ r.drop 0x14 else r }

/-- The unit fell in this tick of its clock. -/
def FlagUnit.fellIn (u : FlagUnit) (us : Nat) (t : Word) : Bool :=
  decide (u.st = .fallen) && (u.fellUs.any fun a => decide (us ≤ a + 31)) && decide (t = u.fellTick)

/-- The unit as its fall found it. -/
def FlagUnit.asFell (u : FlagUnit) : FlagUnit := { u with st := u.fellSt }

/-- PC and the FLAGS bits 2 and 3 of a core at a fall. -/
def Core.atFall (C : Core) : Word × Nat :=
  match C.run with
  | none => (0xFFFFFFFF, 4)
  | some h => (C.pc.setWidth 32, if h.premove then 8 else 0)

/-- The slot fields of a record. -/
def FlagUnit.slotBytes (u : FlagUnit) (c : CoreId) : List Byte :=
  (List.finRange 16).flatMap fun n =>
    if c.val < 8 ∧ 8 ≤ n.val then leBytes 6 0 else leBytes 4 u.last[n].toNat ++ leBytes 2 u.cnt[n].toNat

/-- The 128-byte record of a fall of unit c (R299): `u` is the rolled unit, `halted` whether the debug
port holds the core, `pulse` whether a FLAG pulse is requested. -/
def flagRecord (u : FlagUnit) (C : Core) (c : CoreId) (cause slot : Nat) (halted pulse : Bool) (t now : Word) : List Byte :=
  let (pc, fl) := C.atFall
  let clk := u.cfg.getLsbD 0
  let mtime : Word := if cause = 1 ∧ clk = false then 0xFFFFFFFF else now
  leBytes 1 c.val ++ leBytes 1 cause ++ leBytes 1 slot ++ leBytes 1 (clk.toNat + 2 * halted.toNat + fl + 16 * pulse.toNat)
    ++ leBytes 4 pc.toNat ++ leBytes 4 t.toNat ++ leBytes 4 u.pstart.toNat ++ leBytes 4 mtime.toNat
    ++ leBytes 4 u.period ++ leBytes 2 u.enabled.toNat ++ leBytes 2 u.done.toNat ++ leBytes 2 u.dupm.toNat
    ++ leBytes 2 u.proxm.toNat ++ u.slotBytes c

/-- Steps 1 to 4 of a flag fall of unit c (R297): record, STATE, FALL and FALLS, the FLAG pulse request. -/
def State.fallUnit (s : State) (c : CoreId) (cause slot : Nat) : State :=
  let t := s.unitTick c
  let u := s.flg.units[c].roll t
  let pulse := u.cfg.getLsbD 8 || (decide (c.val = 8) && u.flagarb)
  let r := flagRecord u (s.core c) c cause slot (s.halted c) pulse t s.now
  let s1 := s.modUnit c fun _ => { u with
    st := .fallen, lastCause := BitVec.ofNat 8 cause, record := r, nFall := satInc u.nFall, closing := none
    fellUs := some s.us, fellTick := t, fellSt := u.st }
  s1.modFlg fun F => { F with
    evt := setB F.evt c.val true
    pulses := if pulse then F.pulses ++ [c.castSucc] else F.pulses }

/-- A cause in the tick in which unit c has fallen (R298). -/
def State.secondCause (s : State) (c : CoreId) (cause slot : Nat) : State := s.modUnit c fun u => u.recast cause slot

/-! ### The FLAG ball (R300) -/

/-- A pulse request ends: the oldest of its source. -/
def State.pulseEnd (s : State) (r : Fin 10) : State := s.modFlg fun F => { F with pulses := F.pulses.erase r }

/-- The level of the FLAG ball: high while a request runs and VIO is there to drive it (R300, R388). -/
def State.flagHigh (s : State) : Bool := !s.flg.pulses.isEmpty && s.pins.vioOk && decide (s.phase ≠ .unpowered)

end Sys2Proof.Machine
end

