-- ==== Sys2Proof/Machine/Recovery.lean ====
section
/-! DEFINITION. The recovery ladder (13): stopping and restarting cores (R306-R311), device reset (R314), rung 4 and HALT
(R312), the REC commands (R324), and the flag falls that start the ladder (R297). -/

namespace Sys2Proof.Machine

/-! ### Conditions -/

/-- A save or a park is under way: no rung is carried out (R281, R313). -/
def State.inSave (s : State) : Bool := decide (s.phase = .saving ∨ s.phase = .parked)

/-- The arbiter is running (REC_STATUS.ARB = 0b00). -/
def State.arbUp (s : State) : Bool := decide (s.rcv.arb = .running) && decide (s.phase ≠ .halt)

/-- The register space can be reached by the host or a core (R371). -/
def State.regsUp (s : State) : Bool :=
  decide (s.phase = .arbStart ∨ s.phase = .fileStart ∨ s.phase = .live ∨ s.phase = .halt ∨ s.phase = .service
    ∨ s.phase = .provision)

/-- A request held by a save or a park (R313). -/
def State.heldRequest (s : State) : State := s.modRec fun r => { r with cause := setB r.cause 6 true }

/-- Slow-timebase cycles in 10 s and in 60 s (R310, R311). -/
def slow10s : Nat := 327680
def slow60s : Nat := 1966080

/-- The times within the last n cycles before t (R310, R311). -/
def recentTimes (t : Word) (n : Nat) (l : List Word) : List Word := l.filter fun x => decide ((t - x).toNat < n)

/-! ### Records -/

/-- REC_LAST: a rung is taken (REC_LAST, TIME, DUR). -/
def State.rungTaken (s : State) (trigger target by' rung : Nat) : State :=
  s.modRec fun r => { r with
    last := BitVec.ofNat 32 (trigger * 2 ^ 16 + target * 2 ^ 8 + by' * 2 ^ 4 + rung), lastTime := s.now, lastDur := 0xFFFFFFFF }

/-- The rung in REC_LAST completes when it is the one named. -/
def State.rungDone (s : State) (target rung : Nat) : State :=
  s.modRec fun r =>
    if fld r.last 8 8 = target ∧ fld r.last 0 4 = rung ∧ r.lastDur = 0xFFFFFFFF then { r with lastDur := s.now - r.lastTime }
    else r

/-- REC_CMD's status. -/
def State.recCst (s : State) (cst : Byte) : State := s.modRec fun r => { r with cmd := { r.cmd with cst } }

/-! ### The mailbox result (R304, R305, R379, R380) -/

/-- ST and FLAGS of GLB_MBXRES. -/
def Glb.mbxSt (g : Glb) : Nat := g.mbxres[2].toNat
def Glb.mbxValid (g : Glb) : Bool := g.mbxres[5].getLsbD 0
def Glb.mbxHw (g : Glb) : Bool := g.mbxres[5].getLsbD 1

/-- A result becomes final: ST, RSN and MBXDONE (R379). -/
def Glb.mbxFinal (g : Glb) (st rsn : Byte) : Glb :=
  { g with mbxres := (g.mbxres.set 2 st).set 3 rsn, evt := setB g.evt 0 true }

/-- A firmware command that runs is interrupted; PRES stands (R305, R380). -/
def Glb.mbxInterrupt (g : Glb) : Glb := if g.mbxSt = 3 then g.mbxFinal 5 0 else g

/-! ### Stopping cores -/

/-- A core stops: the running handler is aborted, timers, bindings and pending events are gone (R306 step 1; log 28). -/
def Core.halt (C : Core) : Core :=
  { C with
    run := none, jobs := [], reoffer := [], coal := [], awaits := [], timers := Vector.replicate 8 {}, ret := [], loops := []
    st := if C.st = .faulted then .faulted else .stopped, cr := { C.cr with lbId := none } }

/-- R306 step 1 on the file core of a port. -/
def State.stopFile (s : State) (p : PortId) : State :=
  let s1 := (s.takeBack p .restart).modCore (fileCore p) Core.halt
  let s2 := (s1.modLdg fun l => { l with rsvF := l.rsvF.set p 0 }).settle
  (s2.disarmUnit (fileCore p)).raiseCoreDown p

/-- The stage of a file core's restart. -/
def State.setStage (s : State) (p : PortId) (g : Stage) : State := s.modRec fun r => { r with stage := r.stage.set p g }

/-- R306 steps 2 and 3 begin: code and data RAM cleared, premove scratch undefined (R151). -/
def State.beginCopy (s : State) (p : PortId) : State :=
  (((s.setStage p .copying).modCore (fileCore p) fun C => { C with code := [], data := [], st := .loading }).scratchFree
    (fileCore p))

/-- A restart of the file core begins at step 1 of R306; with the arbiter down, step 2 follows at once. -/
def State.restartFile (s : State) (p : PortId) (asked atOnce : Bool) : State :=
  let s1 := ((s.stopFile p).setStage p .stopped).modRec fun r => { r with
    asked := r.asked.set p asked, rcnt := r.rcnt.set p.castSucc (satInc r.rcnt[p.castSucc]) }
  if atOnce ∨ s1.arbUp = false then s1.beginCopy p else s1

/-- The grant and every reservation of a port are released (R307, R310). -/
def State.releasePort (s : State) (p : PortId) : State :=
  ((s.setGrant p 0).modLdg fun l => { l with rsvF := l.rsvF.set p 0, rsvA := l.rsvA.set p 0 }).settle

/-- R310: a file core is held stopped after its fourth failure. An activation whose turn it had goes on to the cores left
(R352, R353). -/
def State.holdStopped (s : State) (p : PortId) : State :=
  let s1 := (((s.stopFile p).errRecDisable p).releasePort p).modUpd fun u =>
    if u.actPort = some p then { u with actPort := none } else u
  (s1.setStage p .none).modRec fun r => { r with
    fstop := setB r.fstop p.val true, evt := setB r.evt 3 true
    cmd := if fld r.arg 0 8 = p.val ∧ r.cmd.cst = 3 ∧ (r.cmd.cmd = 0x21 ∨ r.cmd.cmd = 0x22) then { r.cmd with cst := 1 } else r.cmd }

/-- Stopped file cores that wait for their copy begin it: the arbiter that would ask for it is down (R297, R306). -/
def State.beginWaiting (s : State) : State := s.forPorts fun s p => if s.rcv.stage[p] = .stopped then s.beginCopy p else s

/-- A failure of a file core (R309, R310): restart, or held stopped. -/
def State.fileFailure (s : State) (p : PortId) (trigger : Nat) : State :=
  if s.inSave then s.heldRequest
  else
    let t := s.tmb.slow
    let l := recentTimes t slow10s s.rcv.fileTimes[p]
    if 3 ≤ l.length then s.holdStopped p
    else
      ((s.restartFile p false false).modRec fun r => { r with fileTimes := r.fileTimes.set p (l ++ [t]) }).rungTaken
        trigger p.val 3 2

/-- R308 step 1: the arbiter stops. Its reservations are released, unit 8 disarms, its mailbox command is interrupted. -/
def State.stopArb (s : State) : State :=
  let s1 := (s.modCore arbiterId Core.halt).modLdg fun l => { l with rsvA := Vector.replicate 8 0 }
  ((s1.settle).disarmUnit arbiterId).modGlb fun g => if g.mbxHw then g else g.mbxInterrupt

/-- R308: the arbiter stops and the boot ROM reads its image; its RAM is lost (R27). -/
def State.restartArb (s : State) : State :=
  ((s.stopArb.modCore arbiterId fun C => { C with code := [], data := [], image := none, st := .loading }).modRec fun r => { r with
    arb := .restarting, rcnt := r.rcnt.set arbiterId (satInc r.rcnt[arbiterId]) }).beginWaiting

/-- The arbiter stops and is not restarted: the rung above takes its place (R311, R313). -/
def State.arbDown (s : State) : State := s.stopArb.modRec fun r => { r with arb := .stopped }

/-! ### Rung 3: device reset (R27, R314) -/

/-- A core after a reset of the CORE domain: the AO part of its registers is kept (05). -/
def Core.domainReset (C : Core) : Core :=
  let r := C.cr
  { cr := { brkcnt := r.brkcnt, refcnt := r.refcnt, lastbrk := r.lastbrk, lbDeadline := r.lbDeadline
            lbComplete := r.lbComplete, lastref := r.lastref, fault := r.fault, fpc := r.fpc, fsteps := r.fsteps
            ftime := r.ftime } }

/-- A port after a reset of the LINK domain: PHY and queues lost, Pn_PD_CTL kept (03). No AMS is open any more, so Rp under
a PD 3.x contract is at 3.0 A again (R39, R70). -/
def Port.linkReset (P : Port) : Port :=
  { P with pd := { ctl := P.pd.ctl }, qs := Vector.replicate 8 {}
           tc := if P.ct.pd3 then { P.tc with rp := 2 } else P.tc }

/-- The fabric block after a reset of the LINK domain: links, queues and tunnel lost, transaction entries lost, lease
state and fabric time kept (R27, R242, 10). -/
def Fab.linkReset (f : Fab) : Fab :=
  { f with
    up := Vector.replicate 3 false, rxq := Vector.replicate 3 [], txq := Vector.replicate 3 [], txT := Vector.replicate 3 0
    txe := Vector.replicate 8 {}, renewOut := false, lamt := 0, lexp := 0, lcmd := {}, lentry := 0, llink := 0
    tdst := 0, topl := 0, taddr := 0, ttag := 0, tdata := Vector.replicate 16 0, tcmd := {}, tunRun := false, tunLast := none }

/-- The OTP block after a reset of the CORE domain: STICKY clears (R337), OVR, its buffers and ABANDON are kept (14). -/
def Otp.domainReset (o : Otp) : Otp :=
  { cells := o.cells, ovr := o.ovr, ovrBuf := o.ovrBuf, abandon := o.abandon, shadow := o.shadow, weakm := o.weakm
    compl := o.compl, keyBad := o.keyBad }

/-- The UPD block after a reset of the CORE domain: the flash, trial, schedule, UPD_CTL, UPD_STATUS and a fall-back under way
kept; the open transfer is lost and its staging erased (15; log 29). -/
def Upd.domainReset (u : Upd) : Upd :=
  { arb := u.arb, file := u.file, set := u.set, boot := u.boot, fbcause := u.fbcause, trial := u.trial, tkinds := u.tkinds
    trialEnd := u.trialEnd, sched := u.sched, acttime := u.acttime, actver := u.actver, schTime := u.schTime
    schVer := u.schVer, late := u.late, ctl := u.ctl, repairs := u.repairs, digest := u.digest, ring := u.ring
    rung4Rec := u.rung4Rec, recs := u.recs, recDue := u.recDue, bad0 := u.bad0, bad1 := u.bad1, energyLog := u.energyLog
    sessionLog := u.sessionLog, svcOn := u.svcOn, fallback := u.fallback }

/-- The HBS block after a reset: HBS_CFG and the modes in force are kept, the pins sampled anew (R362, R364). -/
def Hbs.domainReset (h : Hbs) (adr : BitVec 3) : Hbs :=
  { cfg := h.cfg, cfgS := h.cfgS, modeNow := h.modeNow, groupNow := h.groupNow, adr }

/-- The POS block after a reset of the LINK domain: a position assembled or ready is lost (POS_STATUS.LOST). -/
def Pos.domainReset (q : Pos) : Pos := { taken := q.taken, lost := q.lost || q.ready || q.busy }

/-- Every core, port and device block as the CORE and LINK domains' reset leaves it (R26, R27). -/
def State.coreLinkReset (s : State) : State :=
  let s0 := s.modGlb Glb.mbxInterrupt
  let s1 := s0.forCores State.disarmUnit
  { s1 with
    ports := s1.ports.map Port.linkReset, cores := s1.cores.map Core.domainReset, sram := []
    fab := s1.fab.linkReset, otp := s1.otp.domainReset, upd := s1.upd.domainReset
    hbs := s1.hbs.domainReset s1.pins.adr, pos := s1.pos.domainReset, pmv := {}, hsel := 0
    glb := { mbxres := s1.glb.mbxres }
    ldg := { s1.ldg with rsvF := Vector.replicate 8 0, rsvA := Vector.replicate 8 0 } }

/-- Ports attached when the reset begins (R315). -/
def State.attachedMask (s : State) : Byte := maskOf 8 8 fun i => if h : i < 8 then (s.port ⟨i, h⟩).tc.attached else false

/-- The outage of a device reset ends: at step 6, or where another reset, a save, HALT, SERVICE or PROVISION takes the place of
that step (R315; log 147). -/
def State.outageEnd (s : State) : State :=
  let n := ((List.range 8).filter fun i => s.rcv.outPorts.getLsbD i).length
  if n = 0 then s
  else s.modRec fun r => { r with
    outcnt := satInc r.outcnt, outms := satAdd r.outms (n * ((s.us - r.outFrom) / 1000)), outPorts := 0 }

/-- A device reset with a cause bit of REC_CAUSE (R314 step 1). It takes the place of a HALT to come and abandons rung 2
sequences (R312, R313). -/
def State.deviceReset (s : State) (cause trigger by' : Nat) : State :=
  if s.inSave then s.heldRequest
  else
    let s1 := (s.outageEnd.rungTaken trigger 0xFF by' 3).modRec fun r => { r with
      cause := setB (if s.phase = .halt then setB r.cause 7 true else r.cause) cause true
      stage := Vector.replicate 8 .none, fstop := 0, arb := .stopped, rung4 := .none
      outPorts := s.attachedMask, outFrom := s.us, devReset := true, boots := satInc r.boots }
    let s2 := s1.coreLinkReset.modTmb fun t => { t with
      xtalfail := false, xtalen := t.cfg.getLsbD 0, mainsrc := t.mainsrc && t.cfg.getLsbD 0, xtalok := t.xtalok && t.cfg.getLsbD 0 }
    ({ s2 with phase := .sense, bootArg := 1 }).settle

/-! ### Rung 4 and HALT (R312) -/

/-- HALT on a port: Disabled, CEN low, VCONN open, DSC; the contract and every sequence are lost (R303, R312). -/
def State.haltPort (s : State) (p : PortId) : State :=
  let s1 := if (s.port p).pw.mode = .off ∧ (s.port p).pw.turn = .none then s else s.fireGens p
  let s2 := ((((s1.cenLow p).dscStart p).modTc p fun t => { t with vconn := false }).toDisabled p).sequenceOff p
  (s2.heldNone p true).setGrant p 0

/-- Entry to HALT. -/
def State.enterHalt (s : State) : State :=
  let s1 := s.outageEnd.forPresent State.haltPort
  let s2 := (s1.forCores State.disarmUnit).modGlb Glb.mbxInterrupt
  let s3 := ({ s2 with cores := s2.cores.map Core.domainReset, phase := .halt }).modRec fun r => { r with
    evt := setB r.evt 4 true, rung4 := .none, arb := .stopped, stage := Vector.replicate 8 .none
    cmd := if r.cmd.cmd = 0x40 ∧ r.cmd.cst = 3 then { r.cmd with cst := 1 } else r.cmd }
  ((s3.modLdg fun l => { l with rsvF := Vector.replicate 8 0, rsvA := Vector.replicate 8 0 }).settle).rungDone 0xFF 4

/-- A FLAG pulse of rung 4 (R312). -/
def State.rung4Pulse (s : State) : State := s.modFlg fun F => { F with pulses := F.pulses ++ [9] }

/-- Rung 4 (R312). It abandons the rung 2 sequences in progress (R313). The reset-cause record kept in flash shows it (R315; log 75). -/
def State.rung4 (s : State) (trigger by' : Nat) : State :=
  if s.inSave then s.heldRequest
  else
    let s0 := s.modUpd fun u => if u.dev0 || u.dev1 then { u with rung4Rec := true }.wroteSecs [.cause] else u
    let s1 := ((s0.forPresent State.fireGens).rungTaken trigger 0xFF by' 4).modRec fun r => { r with
      cause := setB r.cause 9 true, stage := Vector.replicate 8 .none }
    let s2 := if s1.rcv.arb = .restarting then s1.arbDown else s1
    if s2.rcv.cfg.getLsbD 0 then (s2.rung4Pulse).modRec fun r => { r with rung4 := .pulse } else s2.enterHalt

/-- 200 ms after the rung 4 pulse: HALT (R312); held in a save or park (R281). -/
def State.haltEntry (s : State) : State :=
  if s.rcv.rung4 = .wait then (if s.inSave then s.heldRequest else s.enterHalt) else s

/-- A rung 3 that the sequencer itself takes: its time is kept and the list of restarts cleared (R311). -/
def State.sequencerReset (s : State) (cause trigger : Nat) : State :=
  if s.inSave then s.heldRequest
  else ((s.modRec fun r => { r with arbTimes := [], r3time := some s.tmb.slow })).deviceReset cause trigger 3

/-- The sequencer took rung 3 less than 60 s before (R311). -/
def State.r3recent (s : State) : Bool :=
  match s.rcv.r3time with
  | some x => decide ((s.tmb.slow - x).toNat < slow60s)
  | none => false

/-- A failure of the arbiter (R309, R311). -/
def State.arbFailure (s : State) (trigger : Nat) : State :=
  if s.inSave then s.heldRequest
  else
    let t := s.tmb.slow
    if (recentTimes t slow10s s.rcv.arbTimes).length < 3 then
      (s.restartArb.modRec fun r => { r with arbTimes := (r.arbTimes ++ [t]).drop ((r.arbTimes.length + 1) - 3) }).rungTaken
        trigger 8 3 2
    else
      let s1 := s.arbDown.modRec fun r => { r with evt := setB r.evt 5 true }
      if s.r3recent then s1.rung4 7 3 else s1.sequencerReset 4 7

/-- A failure of core c (R309). -/
def State.coreFailure (s : State) (c : CoreId) (trigger : Nat) : State :=
  match corePort c with
  | some p => s.fileFailure p trigger
  | none => s.arbFailure trigger

/-! ### Flag falls (R291-R298) -/

/-- A flag fall of unit c: record, FLAG, ladder (R297). -/
def State.flagFall (s : State) (c : CoreId) (cause slot : Nat) : State := (s.fallUnit c cause slot).coreFailure c 1

/-- A check-in of slot n on unit c, from the core or by proxy (R291-R293). In the tick of its fall a unit counts nothing, and
only a cause that stands before the recorded one matters (R298). -/
def State.checkIn (s : State) (c : CoreId) (n : Fin 16) (proxy : Bool) : State :=
  let t := s.unitTick c
  let u := s.flg.units[c].roll t
  if proxy ∧ u.proxyoff then s
  else if u.fellIn s.us t then
    match u.asFell.classify t n with
    | .stray | .inTime => s
    | .late => s.secondCause c 4 u.missing
    | .early => s.secondCause c 2 n.val
    | .duplicate => if u.dupfall then s.secondCause c 3 n.val else s
  else if !u.armed then s
  else
    let k := u.classify t n
    let s1 := s.modUnit c fun _ => u.count t n proxy
    match k with
    | .stray | .inTime => s1
    | .late => s1.flagFall c 4 u.missing
    | .early => s1.flagFall c 2 n.val
    | .duplicate =>
      let s2 := s1.modFlg fun F => { F with evt := setB F.evt (16 + c.val) true }
      if u.dupfall then s2.flagFall c 3 n.val else s2

/-- DBGLOCK of region 6 in force: the debug port refuses proxy check-ins (R328, R334). -/
def State.dbgLock (s : State) : Bool := (s.otpWord 96).getLsbD 1

/-- A proxy check-in arrives (R292, R293). One that would be early waits for the end of its us, so that the core's own of the
same slot goes first. -/
def State.proxyIn (s : State) (c : CoreId) (n : Fin 16) : State :=
  let t := s.unitTick c
  let u := s.flg.units[c].roll t
  if s.dbgLock then s
  else if u.armed ∧ !u.proxyoff ∧ u.classify t n = .early then s.modFlg fun F => { F with proxies := F.proxies ++ [(c, n)] }
  else s.checkIn c n true

/-- The proxy check-ins that waited for the end of the us. -/
def State.proxiesDue (s : State) : State :=
  s.flg.proxies.foldl (fun s x => s.checkIn x.1 x.2 true) (s.modFlg fun F => { F with proxies := [] })

/-- R292: tick end with an enabled slot not done. -/
def State.flagLate (s : State) (c : CoreId) : State :=
  let t := s.unitTick c
  let u := s.flg.units[c].roll t
  if u.fellIn s.us t && u.asFell.isLate t then s.secondCause c 4 u.missing
  else if u.isLate t then s.flagFall c 4 u.missing else s

/-- R295: one check of the cross-monitor on unit c. -/
def State.flagClock (s : State) (c : CoreId) (missed : Bool) : State :=
  let u := s.flg.units[c]
  if u.fellIn s.us (s.unitTick c) && missed && decide (3 ≤ u.misses) then s.secondCause c 1 0xFF
  else if !u.armed then s
  else
    let n := if missed then u.misses + 1 else 0
    let s1 := s.modUnit c fun u => { u with clkmiss := missed, misses := n }
    if 4 ≤ n then s1.flagFall c 1 0xFF else s1

/-- R298: FLG_CMD 0xF1 on the unit in FLG_CMD.UNIT. In a tick that is its end the cause LATE stands first. -/
def State.flagForce (s : State) : State :=
  let n := s.flg.unit.toNat
  let set (cst : Byte) (s : State) : State := s.modFlg fun F => { F with cmd := { cmd := 0xF1, cst } }
  if h : n < 9 then
    let c : CoreId := ⟨n, h⟩
    let u := s.flg.units[c].roll (s.unitTick c)
    if s.corePresent c && u.armed then
      (if u.isLate (s.unitTick c) then (set 1 s).flagFall c 4 u.missing else (set 1 s).flagFall c 5 0xFF)
    else set 2 s
  else set 2 s

/-- R300, R312: a FLAG pulse request ends; after the pulse of rung 4 the 200 ms run. -/
def State.flagPulseEnd (s : State) (r : Fin 10) : State :=
  let s1 := s.pulseEnd r
  if r = 9 ∧ !s1.flg.pulses.contains 9 ∧ s1.rcv.rung4 = .pulse then s1.modRec fun x => { x with rung4 := .wait } else s1

/-! ### REC commands (R324) -/

/-- Who asked, as BY, the trigger code and the cause bit of a DEVICE_RESET. -/
def whoBy : Who → Nat
  | .arbiter => 2
  | .host | .tunnel | .file _ => 1
def whoTrigger : Who → Nat
  | .arbiter => 5
  | .host | .tunnel | .file _ => 4
def whoCause : Who → Nat
  | .arbiter => 3
  | .host | .tunnel | .file _ => 2

/-- REC_CMD.CMD and its status. -/
def State.recCmd (s : State) (code : Byte) (cst : Byte) : State := s.modRec fun r => { r with cmd := { cmd := code, cst } }

/-- The port ARG names, when it is one of this part (R324). -/
def State.recPort (s : State) : Option PortId :=
  if h : s.rcv.arg.toNat < 8 then (if s.present ⟨s.rcv.arg.toNat, h⟩ then some ⟨s.rcv.arg.toNat, h⟩ else none) else none

/-- A file core cannot reach the REC block (R91); a request in a save or park is held (R313); where the registers cannot
be reached nothing happens (R371). -/
def State.recGate (s : State) (w : Who) (f : State → State) : State :=
  match w with
  | .file _ => s
  | .host | .arbiter | .tunnel => if s.inSave then s.heldRequest else if s.regsUp then f s else s

/-- R306, R324: RESTART_CORE. -/
def State.restartCoreCmd (s : State) (w : Who) : State :=
  s.recGate w fun s =>
    match s.recPort with
    | none => s.recCmd 0x21 2
    | some p =>
      if s.phase = .halt ∨ s.rcv.fstop.getLsbD p.val then s.recCmd 0x21 2
      else if s.rcv.stage[p] ≠ .none then
        let s1 := s.recCmd 0x21 1
        if w = .arbiter ∧ s.rcv.stage[p] = .stopped then s1.beginCopy p else s1
      else (((s.recCmd 0x21 3).restartFile p true (decide (w = .arbiter)))).rungTaken (whoTrigger w) p.val (whoBy w) 2

/-- R307, R324: REINIT_PORT. -/
def State.reinitPortCmd (s : State) (w : Who) : State :=
  s.recGate w fun s =>
    match s.recPort with
    | none => s.recCmd 0x22 2
    | some p =>
      if s.phase = .halt ∨ s.rcv.fstop.getLsbD p.val then s.recCmd 0x22 2
      else
        let s1 := ((s.recCmd 0x22 3).errRec p).releasePort p
        if s.rcv.stage[p] ≠ .none then s1 else (s1.restartFile p true false).rungTaken (whoTrigger w) p.val (whoBy w) 2

/-- R308, R324: RESTART_ARB. -/
def State.restartArbCmd (s : State) (w : Who) : State :=
  s.recGate w fun s =>
    if s.rcv.arg ≠ 0 ∨ s.phase = .halt then s.recCmd 0x23 2
    else if s.rcv.arb ≠ .running then s.recCmd 0x23 1
    else ((s.recCmd 0x23 3).restartArb).rungTaken (whoTrigger w) 8 (whoBy w) 2

/-- R310, R324: RELEASE_CORE. -/
def State.releaseCoreCmd (s : State) (w : Who) : State :=
  s.recGate w fun s =>
    match s.recPort with
    | none => s.recCmd 0x24 2
    | some p =>
      if s.phase = .halt ∨ s.rcv.fstop.getLsbD p.val = false then s.recCmd 0x24 2
      else
        (((s.recCmd 0x24 1).modRec fun r => { r with fstop := setB r.fstop p.val false }).restartFile p true
          (decide (w = .arbiter))).rungTaken (whoTrigger w) p.val (whoBy w) 2

/-- R314, R324: DEVICE_RESET. -/
def State.deviceResetCmd (s : State) (w : Who) : State :=
  s.recGate w fun s =>
    if s.rcv.arg ≠ 0x3C then s.recCmd 0x30 2 else (s.recCmd 0x30 3).deviceReset (whoCause w) (whoTrigger w) (whoBy w)

/-- R312, R324: POWER_CYCLE; in HALT only FLAG is driven. -/
def State.powerCycleCmd (s : State) (w : Who) : State :=
  s.recGate w fun s =>
    if s.rcv.arg ≠ 0x4B then s.recCmd 0x40 2
    else if s.phase = .halt then (if s.rcv.cfg.getLsbD 0 then s.rung4Pulse else s).recCmd 0x40 1
    else (s.recCmd 0x40 3).rung4 (whoTrigger w) (whoBy w)

/-! ### Events of the ladder -/

/-- R306: a stopped file core begins its restart. -/
def State.coreRestartBegin (s : State) (p : PortId) : State :=
  if s.rcv.stage[p] = .stopped then s.beginCopy p else s

/-- START is raised on a core that has just been loaded: the unit arms and the START job is pending, or the core runs at
once, the event unhandled, where its image has no START slot (R125, R131, R288, R306; log 30). -/
def State.enterStart (s : State) (c : CoreId) (arg : Word) : State :=
  let s1 := (s.modCore c fun C => { C with st := .loading }).armUnit c
  match (s1.core c).slotFor 0 none with
  | some n => s1.modCore c fun C => C.pend (C.mkJob s.now { cls := 0, arg } n false)
  | none => s1.modCore c Core.unhandled

/-- R418: a low pulse on RST_N of 10 us or more is a device reset, of less than 5 us nothing; from 5 us to 10 us either
comes about, which a free value decides (log 1). Without V5 there is nothing to reset (R26; log 11). -/
def State.rstPulse (s : State) (us : Nat) : State :=
  if s.phase = .unpowered ∨ s.phase = .startMode then s else
  let s1 := if 5 ≤ us ∧ us < 10 then { s with freeCtr := s.freeCtr + 1 } else s
  if 10 ≤ us ∨ (5 ≤ us ∧ Config.freeBool s.freeCtr) then s1.deviceReset 1 6 4 else s1

end Sys2Proof.Machine
end

