-- ==== Sys2Proof/Machine/Views.lean ====
section
/-! DEFINITION. What registers and balls show: every register of R384 as a row (offset, size, value) of its block, and
the levels of EARLY_N, PGOOD and IRQ_N. A row is one register under R14: its bytes are captured together. -/

namespace Sys2Proof.Machine

/-- A register as a read shows it: offset in its block, size in bytes, value. -/
abbrev RegRow := Nat × Nat × Nat

/-- A Boolean at a bit position. -/
def bitAt (i : Nat) (b : Bool) : Nat := if b then 2 ^ i else 0

/-- A signed value as n bytes show it. -/
def signedN (n : Nat) (x : Int) : Nat := (BitVec.ofInt (8 * n) x).toNat

/-- Values laid side by side, each of the given number of bytes. -/
def cat : List (Nat × Nat) → Nat
  | [] => 0
  | (n, v) :: t => v % 256 ^ n + 256 ^ n * cat t

/-- A command byte above its status byte. -/
def CmdReg.word (c : CmdReg) : Nat := c.cmd.toNat * 256 + c.cst.toNat

/-- BLOCK_COMMIT (R375). -/
def Commit.word (c : Commit) (pend : Bool) : Nat :=
  c.cmd.toNat * 256 + bitAt 7 pend + bitAt 6 c.ref + c.rsn.toNat

/-! ### Balls -/

/-- EARLY_N is driven low (R274). -/
def State.earlyLow (s : State) : Bool := s.fed.ew || s.inSave

/-- The PGOOD level (R211). -/
def State.pgoodHigh (s : State) : Bool :=
  decide (4300 ≤ s.pins.v5) && decide (s.phase ≠ .startMode) && decide (s.phase ≠ .unpowered) &&
    (List.finRange 8).all fun p =>
      let w := (s.port p).pw
      !s.present p || !w.ctl.getLsbD 1 || w.pg || (decide (w.mode = .off) && !w.lid)

/-! ### Conditions of updates (R346) -/

/-- OWNER_LOCK (R346). -/
def State.ownerLock (s : State) : Bool := (s.otpWord 96).getLsbD 0 || s.upd.ctl.getLsbD 0

/-- RECOVERY: the arbiter not running, a RESTARTING bit, or HALT (R346). -/
def State.recovering (s : State) : Bool := !s.arbUp || (List.finRange 8).any fun p => decide (s.rcv.stage[p] ≠ .none)

/-- MOVING on any port (R162, R346). -/
def State.anyMoving (s : State) : Bool := (List.finRange 8).any fun p => (s.port p).ct.moving

/-! ### Port blocks -/

/-- Codes of STATE (R44). -/
def TcState.code : TcState → Nat
  | .disabled => 0
  | .errorRecovery => 1
  | .unattachedSnk => 2
  | .attachWaitSnk => 3
  | .attachedSnk => 4
  | .unattachedSrc => 5
  | .attachWaitSrc => 6
  | .wetCheck => 7
  | .attachedSrc => 8
  | .trySrc => 9
  | .tryWaitSnk => 0x0A
  | .trySnk => 0x0B
  | .tryWaitSrc => 0x0C
  | .unorientedDebugSrc => 0x0D
  | .debugSnk => 0x0E
  | .wet => 0x0F

/-- Pn_TC_STATUS. -/
def Tc.status (t : Tc) : Nat :=
  bitAt 23 t.deadbat + bitAt 22 (t.iso1 || t.iso2) + bitAt 21 (decide (t.st = .wet)) + bitAt 20 t.vconn + bitAt 19 t.pol
    + bitAt 18 t.attached + t.cc2.code * 2 ^ 15 + t.cc1.code * 2 ^ 12 + t.st.code

/-- Pn_TC (+0x000). -/
def Tc.regs (t : Tc) : List RegRow :=
  [(0x00, 2, t.ctlS.toNat), (0x02, 2, t.com.word (decide (t.ctlS ≠ t.ctl ∨ t.wetcfgS ≠ t.wetcfg))), (0x04, 4, t.status),
   (0x08, 2, t.evt.toNat), (0x0A, 2, t.ien.toNat), (0x0C, 2, t.wetcfgS.toNat), (0x0E, 2, t.wetcmd.word),
   (0x10, 2, t.wetz[0].toNat), (0x12, 2, t.wetz[1].toNat), (0x14, 2, t.wetz[2].toNat), (0x16, 2, t.wetz[3].toNat),
   (0x18, 4, ofLe t.wetd.toList), (0x1C, 4, t.ccv1.toNat + t.ccv2.toNat * 65536), (0x20, 2, t.vconni.toNat),
   (0x22, 2, t.wetcnt.toNat)]

/-- A collision-avoidance hold stands in a TX queue (R70, R71). -/
def Port.amsHeld (P : Port) : Bool :=
  (P.qs[1].ents ++ P.qs[3].ents ++ P.qs[5].ents).any fun e => e.held

/-- Pn_PD_STATUS. -/
def State.pdStatus (s : State) (p : PortId) : Nat :=
  let P := s.port p
  let cang := if P.tc.st = .attachedSrc then P.pd.amsOpen && P.ct.pd3
    else decide (P.tc.st = .attachedSnk) && decide (P.tc.activeCc = .rp15)
  bitAt 15 P.pd.hrwait + bitAt 14 P.pd.bistTd + bitAt 13 P.pd.bistCar + bitAt 12 cang + bitAt 11 P.amsHeld
    + bitAt 10 P.pd.rx.isSome + bitAt 9 P.pd.tx.isSome + bitAt 8 (P.tc.attached && s.linkUp)

/-- Pn_PD_MSGID. -/
def Phy.msgId (d : Phy) : Nat :=
  let one (i : Fin 3) := (d.txId[i]).toNat + (d.rxId[i]).toNat * 16 + bitAt 7 d.rxVal[i]
  one 0 + one 1 * 256 + one 2 * 65536

/-- Pn_PD_HELD, 16 bytes (R160). -/
def Ct.held (c : Ct) : Nat := cat [(2, c.conv.toNat), (2, c.coni.toNat), (4, c.concfg.toNat), (4, c.power), (4, c.heldT.toNat)]

/-- Codes of SWAP and HRSEQ (Pn_PD_CSTAT). -/
def Swap.code : Swap → Nat
  | .none => 0
  | .oldSource => 1
  | .oldSink => 2
  | .frSwap => 3
def HrSeq.code : HrSeq → Nat
  | .none => 0
  | .before4 => 1
  | .vbWait => 2
  | .goWait => 3
  | .doneWait => 4

/-- Pn_PD_CSTAT. -/
def Port.cstat (P : Port) : Nat :=
  let c := P.ct
  bitAt 15 c.attpr + bitAt 14 c.attdr + bitAt 13 c.attvc + bitAt 12 c.rapin + c.swap.code * 2 ^ 9 + c.hrseq.code * 2 ^ 6
    + bitAt 5 (frsArm c.frs) + bitAt 4 P.ppsGuard + bitAt 3 P.eprGuard + bitAt 2 c.moving

/-- Pn_PD (+0x080). -/
def State.pdRegs (s : State) (p : PortId) : List RegRow :=
  let d := (s.port p).pd
  let c := (s.port p).ct
  let pend := decide (c.convS ≠ c.conv ∨ c.coniS ≠ c.coni ∨ c.concfgS ≠ c.concfg ∨ c.frsS &&& 0x0C80 ≠ c.frs &&& 0x0C80)
  [(0x00, 2, d.ctl.toNat), (0x02, 2, d.cmd.word), (0x04, 2, s.pdStatus p), (0x08, 2, d.evt.toNat), (0x0A, 2, d.ien.toNat),
   (0x0C, 4, d.msgId), (0x10, 4, cat [(1, d.nCrc.toNat), (1, d.nDup.toNat), (1, d.nRetry.toNat), (1, d.nFail.toNat)]),
   (0x20, 2, c.convS.toNat), (0x22, 2, c.coniS.toNat), (0x24, 4, c.concfgS.toNat), (0x28, 2, c.com.word pend),
   (0x30, 16, c.held), (0x40, 2, c.rcmd.word), (0x44, 2, (s.port p).cstat),
   (0x48, 2, (c.frsS &&& 0x0C80).toNat + bitAt 1 c.frsSrc + bitAt 0 c.frsSig), (0x4C, 2, c.cevt.toNat),
   (0x4E, 2, c.cien.toNat)]

/-- Pn_PW_STATUS. -/
def State.pwStatus (s : State) (p : PortId) : Nat :=
  let w := (s.port p).pw
  w.actrsn.toNat * 2 ^ 28 + bitAt 15 w.lid + bitAt 14 w.pg + bitAt 13 w.limact + bitAt 12 (s.simmer p) + bitAt 11 w.limact
    + bitAt 10 w.holdoff + bitAt 9 w.dsc + bitAt 8 w.revoff + bitAt 7 w.faston + bitAt 6 (s.pschk p) + w.phase.code * 16
    + w.mode.code

/-- Pn_PW_CTL as read: PWRCLS reads 0 on a T820. -/
def State.pwCtl (s : State) (p : PortId) : Nat :=
  let c := (s.port p).pw.ctl
  if s.epren then c.toNat else (c &&& 0xFFF7).toNat

/-- Pn_PW (+0x100). -/
def State.pwRegs (s : State) (p : PortId) : List RegRow :=
  let w := (s.port p).pw
  [(0x00, 2, s.pwCtl p), (0x04, 4, w.limS.toNat), (0x08, 4, w.cfgS.toNat), (0x0C, 2, w.pgwS.toNat),
   (0x10, 2, w.com.word (decide (w.limS ≠ w.lim ∨ w.cfgS ≠ w.cfg ∨ w.pgwS ≠ w.pgw))), (0x14, 4, s.pwStatus p),
   (0x18, 2, w.evt.toNat), (0x1A, 2, w.ien.toNat),
   (0x20, 16, cat [(4, w.trip.toNat), (4, w.ttime.toNat), (2, w.tvb.toNat), (2, w.ti.toNat), (2, w.tvgsa.toNat),
     (2, w.tvgsb.toNat)]),
   (0x30, 4, w.vgsa.toNat + w.vgsb.toNat * 65536), (0x34, 4, w.vdsa.toNat + w.vdsb.toNat * 65536),
   (0x38, 2, w.tripcnt.toNat), (0x3A, 2, w.revcnt.toNat)]

/-- Pn_SP_STATUS; `runs`: TRIMRUN. -/
def Sp.status (x : Sp) (runs : Bool) : Nat :=
  x.sprsn.toNat * 2 ^ 12 + bitAt 5 x.trimsat + bitAt 4 x.trimok + bitAt 3 runs + bitAt 2 x.slewing + bitAt 1 x.dir
    + bitAt 0 x.cen

/-- Pn_SP (+0x180). -/
def Port.spRegs (P : Port) : List RegRow :=
  let x := P.sp
  [(0x00, 2, x.vminS.toNat), (0x02, 2, x.vmaxS.toNat), (0x04, 4, x.cfgS.toNat), (0x08, 2, x.iclfsS.toNat),
   (0x0A, 2, x.rdropS.toNat),
   (0x0C, 2, x.com.word (decide (x.vminS ≠ x.vmin ∨ x.vmaxS ≠ x.vmax ∨ x.cfgS ≠ x.cfg ∨ x.iclfsS ≠ x.iclfs
     ∨ x.rdropS ≠ x.rdrop))),
   (0x10, 2, x.status P.trimRuns), (0x14, 4, x.vset % 65536 + x.ilim % 65536 * 65536),
   (0x18, 4, x.fbs % 4096 + (BitVec.ofInt 9 x.corr).toNat * 2 ^ 13 + x.cls % 1024 * 2 ^ 22), (0x1C, 2, x.target % 65536),
   (0x20, 2, x.evt.toNat), (0x22, 2, x.ien.toNat)]

/-- Pn_MN (+0x200). -/
def Port.mnRegs (P : Port) : List RegRow :=
  let m := P.mn
  let pend := decide (m.ctlS ≠ m.ctl ∨ m.cfgS ≠ m.cfg ∨ m.vlvlS ≠ m.vlvl ∨ m.ilvlS ≠ m.ilvl ∨ m.trkS ≠ m.trk)
  [(0x00, 4, m.ctlS.toNat), (0x04, 2, m.cfgS.toNat), (0x08, 4, m.vlvlS.toNat), (0x0C, 4, m.ilvlS.toNat),
   (0x10, 4, m.trkS.toNat), (0x14, 2, m.com.word pend),
   (0x18, 2, P.pw.gates.armedIn.toNat * 2 ^ 12 + m.sub.toNat * 2 ^ 9 + m.raw.toNat * 16 + m.out.toNat),
   (0x1C, 2, m.rawl.toNat * 256 + m.svl.toNat), (0x1E, 2, m.prev.toNat), (0x20, 4, m.ulvl.toNat), (0x24, 4, m.uilvl.toNat),
   (0x28, 2, m.evt.toNat), (0x2A, 2, m.ien.toNat),
   (0x2C, 4, cat [(1, m.skip.toNat), (1, m.fail.toNat), (1, m.st.cst.toNat), (1, m.st.cmd.toNat)])]

/-- Pn_MS (+0x280). -/
def State.msRegs (s : State) (p : PortId) : List RegRow :=
  let m := (s.port p).ms
  [(0x00, 16, cat [(2, m.vb.toNat), (2, m.i.toNat), (4, m.pw.toNat), (4, m.time.toNat), (2, m.visn.toNat), (2, 0)]),
   (0x10, 12, cat [(2, m.avb.toNat), (2, m.ai.toNat), (4, m.apw.toNat), (4, m.atime.toNat)]),
   (0x20, 8, m.eout.toNat), (0x28, 8, m.ein.toNat), (0x30, 2, m.ecmd.word), (0x34, 4, m.hot.toNat * 65536 + m.factor % 512),
   (0x38, 4, s.ceil p)]

/-- State codes of a core (Pn_CR_STATUS.STATE). -/
def CoreSt.code : CoreSt → Nat
  | .stopped => 0
  | .loading => 1
  | .running => 2
  | .faulted => 3

/-- Pn_CR_STATUS. -/
def Core.status (C : Core) : Nat :=
  let h := C.run
  let dataStall := match h.bind fun h => h.stall with
    | some (.data _) => true
    | _ => false
  (match h with
    | some h => h.job.slot * 2 ^ 24 + h.job.cls * 2 ^ 18 + bitAt 6 h.job.rerun + bitAt 4 h.premove
    | none => 0xFF * 2 ^ 24 + 0x3F * 2 ^ 18)
    + C.crPend % 32 * 2 ^ 12 + C.ncPend % 16 * 2 ^ 8 + bitAt 5 dataStall + bitAt 3 h.isSome + bitAt 2 C.paceAlarm + C.st.code

/-- Pn_CR (+0x300), and ADM_A (0x0A00). -/
def Core.regs (C : Core) : List RegRow :=
  let r := C.cr
  [(0x00, 4, C.status), (0x04, 2, r.evt.toNat), (0x06, 2, r.ien.toNat), (0x08, 4, r.rate.toNat + r.minrate.toNat * 65536),
   (0x0C, 2, r.brkcnt.toNat), (0x0E, 2, r.refcnt.toNat), (0x10, 4, r.lastbrk.toNat), (0x14, 4, r.lbDeadline.toNat),
   (0x18, 4, r.lbComplete.toNat), (0x1C, 4, r.lastref.toNat), (0x20, 4, r.fault.toNat), (0x24, 4, r.fpc.toNat),
   (0x28, 4, r.fsteps.toNat), (0x2C, 4, r.ftime.toNat), (0x30, 4, r.load.toNat), (0x34, 4, r.slack.toNat),
   (0x38, 4, r.tight.toNat)]

/-- Pn_QS (+0x380). -/
def Port.qsRegs (P : Port) : List RegRow :=
  [(0x00, 2, P.pd.qsctl.toNat),
   (0x04, 4, (List.finRange 8).foldl (fun a k => a + P.qs[k].ents.length * 16 ^ k.val) 0), (0x08, 2, P.pd.ovf.toNat),
   (0x0A, 2, P.pd.rxdrop.toNat)]

/-- The register block of a port (R20). -/
def State.portRegs (s : State) (p : PortId) (off : Nat) : List RegRow × Nat :=
  if off < 0x080 then ((s.port p).tc.regs, 0)
  else if off < 0x100 then (s.pdRegs p, 0x080)
  else if off < 0x180 then (s.pwRegs p, 0x100)
  else if off < 0x200 then ((s.port p).spRegs, 0x180)
  else if off < 0x280 then ((s.port p).mnRegs, 0x200)
  else if off < 0x300 then (s.msRegs p, 0x280)
  else if off < 0x380 then ((s.core (fileCore p)).regs, 0x300)
  else ((s.port p).qsRegs, 0x380)

/-- A queue window (R83, R84). -/
def Queue.regs (q : Queue) (k : Fin 8) : List RegRow :=
  let view := if k = 6 ∧ q.sel = 0xFF then q.buf.toList
    else match q.ents[q.sel.toNat]? with
      | some e => e.bytes
      | none => []
  [(0x00, 40, ofLe view), (0x28, 2, q.cmd.word), (0x2A, 2, q.expseq.toNat * 256 + q.sel.toNat),
   (0x2C, 2, ((q.ents.head?.map fun e => e.seq.toNat).getD 0) * 256 + q.ents.length)]

/-! ### Global blocks -/

/-- GLB_PART (R329). -/
def State.part (s : State) : Nat :=
  if s.ehen then (if s.epren then 0x0848 else 0x0820) else if s.epren then 0x0448 else 0x0420

/-- GLB_STEP (R4). -/
def glbStep : Nat := 0xB1

/-- Enabled latches of a port, byte p of GLB_PORTSUM. -/
def State.portSum (s : State) (p : PortId) : Nat :=
  if !s.present p then 0
  else
    let P := s.port p
    let c := (s.core (fileCore p)).cr
    bitAt 6 (decide (c.evt &&& c.ien ≠ 0)) + bitAt 5 (decide (P.mn.evt &&& P.mn.ien ≠ 0))
      + bitAt 4 (decide (P.sp.evt &&& P.sp.ien ≠ 0)) + bitAt 3 (decide (P.pw.evt &&& P.pw.ien ≠ 0))
      + bitAt 2 (decide (P.ct.cevt &&& P.ct.cien ≠ 0)) + bitAt 1 (decide (P.pd.evt &&& P.pd.ien ≠ 0))
      + bitAt 0 (decide (P.tc.evt &&& P.tc.ien ≠ 0))

/-- GLB_PORTSUM. -/
def State.portSums (s : State) : Nat := cat ((List.finRange 8).map fun p => (1, s.portSum p))

/-- GLB_IRQSUM. -/
def State.irqSum (s : State) : Nat :=
  let a := (s.core arbiterId).cr
  bitAt 19 (decide (a.evt &&& a.ien ≠ 0)) + bitAt 18 (decide (s.tmb.evt &&& s.tmb.ien ≠ 0))
    + bitAt 17 (decide (s.hbs.evt &&& s.hbs.ien ≠ 0)) + bitAt 16 (decide (s.glb.evt &&& s.glb.ien ≠ 0))
    + bitAt 15 (decide (s.fab.evt &&& s.fab.ien ≠ 0)) + bitAt 14 (decide (s.ldg.evt &&& s.ldg.ien ≠ 0))
    + bitAt 13 (decide (s.fed.evt &&& s.fed.ien ≠ 0)) + bitAt 12 (decide (s.rcv.evt &&& s.rcv.ien ≠ 0))
    + bitAt 11 (decide (s.upd.evt &&& s.upd.ien ≠ 0)) + bitAt 10 (decide (s.otp.evt &&& s.otp.ien ≠ 0))
    + bitAt 9 (decide (s.flg.evt &&& s.flg.ien ≠ 0)) + bitAt 8 (decide (s.pmv.evt &&& s.pmv.ien ≠ 0))
    + (List.finRange 8).foldl (fun n p => n + bitAt p.val (decide (s.portSum p ≠ 0))) 0

/-- The bus does not answer (R371). -/
def State.busOff (s : State) : Bool := !s.regsUp

/-- IRQ_N is driven low (R383). -/
def State.irqLow (s : State) : Bool := s.glb.irqctl.getLsbD 0 && decide (s.irqSum ≠ 0) && !s.busOff

/-- GLB_STATUS. -/
def State.glbStatus (s : State) : Nat :=
  bitAt 7 s.pgoodHigh + bitAt 6 s.fed.ew + bitAt 5 s.upd.trial + bitAt 4 s.fed.warmed + bitAt 3 (decide (s.phase = .halt))
    + bitAt 2 ((List.finRange 9).any fun c => (s.core c).paceAlarm) + bitAt 1 (decide ((s.core arbiterId).st = .running))
    + bitAt 0 s.glb.live

/-- GLB (0x0000). -/
def State.glbRegs (s : State) : List RegRow :=
  let g := s.glb
  [(0x00, 2, s.part), (0x02, 1, glbStep), (0x04, 8, (s.otpWord 16).toNat + (s.otpWord 17).toNat * 2 ^ 32),
   (0x0C, 4, s.glbStatus), (0x10, 4, s.irqSum), (0x14, 2, g.irqctl.toNat), (0x16, 2, s.rcv.cause.toNat),
   (0x18, 8, s.portSums), (0x20, 2, g.evt.toNat), (0x22, 2, g.ien.toNat), (0x28, 8, g.gcsel.toNat), (0x30, 2, g.gcom.word),
   (0x38, 8, g.gcres.toNat), (0x40, 32, ofLe g.mbxcmd.toList), (0x60, 36, ofLe g.mbxres.toList)]

/-- HBS (0x0100). -/
def State.hbsRegs (s : State) : List RegRow :=
  let h := s.hbs
  let prim := if h.modeNow then 0 else 0x38 + h.adr.toNat
  [(0x00, 2, h.cfgS.toNat), (0x04, 2, h.com.word (decide (h.cfgS ≠ h.cfg))), (0x08, 2, h.page.toNat),
   (0x0C, 2, prim * 256 + bitAt 5 (decide (s.phase = .halt)) + bitAt 4 h.modeNow + h.adr.toNat),
   (0x10, 4, cat [(1, h.nScope.toNat), (1, h.nFroz.toNat), (1, h.nAck.toNat), (1, h.nSda.toNat)]), (0x14, 2, h.evt.toNat),
   (0x16, 2, h.ien.toNat)]

/-- TMB (0x0200). -/
def State.tmbRegs (s : State) : List RegRow :=
  let t := s.tmb
  [(0x00, 2, t.cfg.toNat),
   (0x04, 4, t.smsrc.toNat * 2 ^ 12 + bitAt 5 t.startmode + bitAt 4 s.pins.vioOk + bitAt 3 t.slowok + bitAt 2 t.xtalfail
     + bitAt 1 t.xtalok + bitAt 0 t.mainsrc),
   (0x08, 4, s.now.toNat), (0x0C, 4, t.slow.toNat),
   (0x10, 8, cat [(2, s.pins.v5), (2, s.pins.vcore), (2, s.pins.vio), (2, s.pins.vhv)]), (0x18, 4, t.smtime.toNat),
   (0x1C, 2, t.evt.toNat), (0x1E, 2, t.ien.toNat)]

/-- FLG_cSTAT. -/
def FlagUnit.stat (u : FlagUnit) (t : Word) : Nat :=
  let v := u.roll t
  let code := match v.st with
    | .disarmed => 0
    | .first => 1
    | .running => 2
    | .fallen => 3
  v.done.toNat * 2 ^ 16 + v.lastCause.toNat * 2 ^ 8 + bitAt 3 v.clkmiss + bitAt 2 (v.isOpen t) + code

/-- The registers of flag unit c; an absent unit reads 0 (R302). -/
def State.unitRegs (s : State) (c : CoreId) : List RegRow :=
  if !s.corePresent c then []
  else
    let u := s.flg.units[c]
    let b := c.val * 16
    [(b, 4, u.per.toNat), (b + 4, 2, u.cfg.toNat), (b + 6, 2, u.sloten.toNat), (b + 8, 4, u.stat (s.unitTick c)),
     (b + 12, 4, cat [(1, u.nStray.toNat), (1, u.nProxy.toNat), (1, u.nDup.toNat), (1, u.nFall.toNat)])]

/-- The 128 bytes of a flag record; 0x00 where none has been taken (log 8). -/
def FlagUnit.recordBytes (u : FlagUnit) : List Byte := padTo 128 u.record

/-- FLG (0x0300). -/
def State.flgRegs (s : State) : List RegRow :=
  let F := s.flg
  let n := F.rsel.toNat / 16
  let win := if h : n < 9 then
      if s.corePresent ⟨n, h⟩ then
        (F.units[(⟨n, h⟩ : CoreId)].recordBytes.drop (if F.rsel.getLsbD 0 then 64 else 0)).take 64 else []
    else []
  ((List.finRange 9).flatMap s.unitRegs) ++
  [(0x90, 4, F.evt.toNat), (0x94, 4, F.ien.toNat), (0x98, 2, F.pulse.toNat),
   (0x9C, 4, cat [(1, F.unit.toNat), (1, 0), (1, F.cmd.cst.toNat), (1, F.cmd.cmd.toNat)]), (0xA0, 4, s.policy.toNat),
   (0xA4, 1, F.rsel.toNat), (0xC0, 64, ofLe win)]

/-- OTP (0x0400). -/
def Otp.regs (o : Otp) : List RegRow :=
  [(0x00, 2, o.waddr.toNat), (0x04, 4, o.data.toNat), (0x08, 4, o.wmask.toNat), (0x0C, 2, o.cmd.word), (0x0E, 2, o.rsn.toNat),
   (0x10, 2, o.unlk.toNat), (0x14, 2, o.sticky.toNat), (0x18, 2, o.lockf.toNat), (0x1C, 4, o.sealSt.toNat),
   (0x20, 2, o.weak.toNat), (0x24, 2, o.ovr.toNat),
   (0x28, 2, bitAt 4 o.abandon + bitAt 3 o.trimsafe + bitAt 2 o.ctrlflt + bitAt 1 (o.running.isSome || !o.sensed)
     + bitAt 0 o.sensed),
   (0x2C, 2, o.evt.toNat), (0x2E, 2, o.ien.toNat)]

/-- Fields of an image header (R343). -/
def Img.num (m : Img) (o n : Nat) : Nat := ofLe ((m.hdr.drop o).take n)
def Img.version (m : Img) : Nat := m.num 0x08 4

/-- The image a slot choice names. -/
def KindSt.img (k : KindSt) (i : Option (Fin 2)) : Option Img := i.bind fun j => k.slots[j]

/-- Active and pending or trial versions, 0 for none (UPD_VER; log 32). -/
def KindSt.active (k : KindSt) : Nat := ((k.img (k.alt <|> k.conf)).map Img.version).getD 0
def KindSt.pending (k : KindSt) : Nat := ((k.img k.pend).map Img.version).getD 0

/-- UPD_STATUS. -/
def State.updStatus (s : State) : Nat :=
  let u := s.upd
  let boot := match u.boot with
    | .normal => 0
    | .service => 1
    | .provision => 2
    | .alternate => 3
  u.fbcause.toNat * 2 ^ 20 + boot * 2 ^ 16 + bitAt 15 u.svcOn + bitAt 14 (u.dev0 != u.dev1) + bitAt 11 u.sched
    + bitAt 10 u.trial + bitAt 7 s.recovering + bitAt 6 s.ownerLock + bitAt 5 s.fed.lowE + bitAt 4 s.anyMoving

/-- Codes of UPD_XFER.STATE. -/
def XferSt.code : XferSt → Nat
  | .idle => 0
  | .erasing => 1
  | .receiving => 2
  | .ending => 3
  | .kept => 4
  | .installed => 5

/-- UPD_XFER. -/
def Upd.xferWord (u : Upd) : Nat :=
  u.xfer.code * 2 ^ 28 + ((u.xkind.map Kind.code).getD 0) * 2 ^ 26 + u.xsrc.toNat * 2 ^ 24 + u.chunkErr.toNat * 2 ^ 16

/-- UPD (0x0500). -/
def State.updRegs (s : State) : List RegRow :=
  let u := s.upd
  [(0x00, 4, s.updStatus), (0x04, 4, u.ctl.toNat),
   (0x08, 4, cat [(1, u.fan.toNat), (1, u.rsn.toNat), (1, u.cmd.cst.toNat), (1, u.cmd.cmd.toNat)]), (0x0C, 2, u.confirm.word),
   (0x10, 8, u.acttime.toNat), (0x18, 4, u.actver[0].toNat), (0x1C, 4, u.actver[1].toNat), (0x20, 4, u.actver[2].toNat),
   (0x28, 8, u.trialEnd.toNat),
   (0x30, 24, cat [(4, u.arb.active), (4, u.file.active), (4, u.set.active), (4, u.arb.pending), (4, u.file.pending),
     (4, u.set.pending)]),
   (0x48, 4, u.xferWord), (0x50, 2, u.rdst.toNat),
   (0x54, 4, u.repairs.toNat * 65536 + bitAt 2 u.dev1 + bitAt 1 u.dev0 + bitAt 0 u.mirror), (0x58, 2, u.evt.toNat),
   (0x5A, 2, u.ien.toNat), (0xD0, 16, ofLe u.rchunk.toList), (0xE0, 32, ofLe u.chunk.toList)]

/-- REC_STATUS. -/
def State.recStatus (s : State) : Nat :=
  let r := s.rcv
  let arb := match r.arb with
    | .running => 0
    | .stopped => 1
    | .restarting => 2
  r.fstop.toNat * 2 ^ 24
    + (List.finRange 8).foldl (fun n p => n + bitAt (16 + p.val) (decide (r.stage[p] ≠ .none))) 0
    + (recentTimes s.tmb.slow slow10s r.arbTimes).length * 2 ^ 10 + bitAt 9 s.r3recent + bitAt 8 (decide (s.phase = .halt)) + arb

/-- REC (0x0600). -/
def State.recRegs (s : State) : List RegRow :=
  let r := s.rcv
  [(0x00, 2, r.cfg.toNat), (0x04, 4, cat [(1, r.arg.toNat), (1, 0), (1, r.cmd.cst.toNat), (1, r.cmd.cmd.toNat)]),
   (0x08, 4, s.recStatus), (0x0C, 2, r.cause.toNat), (0x10, 2, r.evt.toNat), (0x12, 2, r.ien.toNat)]
  ++ ((List.finRange 9).map fun c => (0x14 + c.val, 1, r.rcnt[c].toNat))
  ++ [(0x20, 12, cat [(4, r.last.toNat), (4, r.lastTime.toNat), (4, r.lastDur.toNat)]), (0x30, 2, r.outcnt.toNat),
   (0x34, 4, r.outms.toNat), (0x38, 2, r.boots.toNat)]

/-- Feed bits of FED_STATUS. -/
def FeedSt.bits (c : FeedSt) : Nat := bitAt 3 c.revoff + bitAt 2 c.on + bitAt 1 c.warn + bitAt 0 c.good

/-- FED_LREC, 16 bytes. -/
def Fed.lrec (f : Fed) : Nat :=
  cat [(4, f.lseq.toNat), (1, f.lcause.toNat), (1, f.outcome.toNat), (2, f.dur.toNat), (2, f.vholdS.toNat),
    (2, f.vholdE.toNat), (4, f.parkMs.toNat)]

/-- FED (0x0700). -/
def State.fedRegs (s : State) : List RegRow :=
  let f := s.fed
  let pend := decide (f.cfgS ≠ f.cfg ∨ f.f1.capS ≠ f.f1.cap ∨ f.f2.capS ≠ f.f2.cap ∨ f.buscapS ≠ f.buscap
    ∨ f.shedcapS ≠ f.shedcap ∨ f.f1.ewS ≠ f.f1.ew ∨ f.f2.ewS ≠ f.f2.ew ∨ f.lcfgS ≠ f.lcfg)
  let ms (c : FeedSt) := cat [(2, c.fin.toNat), (2, c.fout.toNat), (2, c.i.toNat), (2, 0), (4, c.pw.toNat), (4, c.time.toNat)]
  [(0x00, 4, f.cfgS.toNat), (0x04, 4, f.f1.capS.toNat), (0x08, 4, f.f2.capS.toNat), (0x0C, 4, f.buscapS.toNat),
   (0x10, 4, f.shedcapS.toNat), (0x14, 4, f.f1.ewS.toNat), (0x18, 4, f.f2.ewS.toNat), (0x1C, 4, f.lcfgS.toNat),
   (0x20, 2, f.com.word pend),
   (0x24, 2, bitAt 11 f.warmed + bitAt 10 f.cmeas.isSome + bitAt 9 f.lowE + bitAt 8 f.ew + f.f2.bits * 16 + f.f1.bits),
   (0x28, 2, f.evt.toNat), (0x2A, 2, f.ien.toNat), (0x30, 16, ms f.f1), (0x40, 16, ms f.f2), (0x50, 8, f.f1.energy.toNat),
   (0x58, 8, f.f2.energy.toNat), (0x60, 4, s.pins.vhold % 65536 * 65536 + (f.cmeas.getD 0) % 65536),
   (0x64, 4, f.ready s.pins.vhold), (0x68, 2, f.lcmd.word), (0x70, 16, f.lrec)]

/-- Causes of the cut deadline (LDG_STATUS.CAUSE). -/
def CutCause.code : CutCause → Nat
  | .none => 0
  | .cutdly => 1
  | .lease => 2

/-- LDG (0x0800), the thermistors among them. -/
def State.ldgRegs (s : State) : List RegRow :=
  let l := s.ldg
  [(0x00, 2, l.cfgS.toNat), (0x04, 2, l.com.word (decide (l.cfgS ≠ l.cfg))), (0x08, 4, l.prio.toNat),
   (0x0C, 24, cat [(4, s.fed.feedcap), (4, s.fab.term.toNat), (4, s.pAvail), (4, l.gsum), (4, l.rsum), (4, s.headroom)]),
   (0x24, 2, l.cause.code * 4 + bitAt 1 s.fab.shed + bitAt 0 l.overdrawn), (0x28, 4, (l.cutAt.getD 0xFFFFFFFF).toNat),
   (0x2C, 2, l.evt.toNat), (0x2E, 2, l.ien.toNat)]
  ++ ((List.finRange 8).map fun p => (0x40 + 8 * p.val, 8, if s.present p then cat [(4, l.grant[p]), (4, l.rsv p)] else 0))
  ++ [(0xC0, 10, cat [(2, l.tht[0].toNat), (2, l.tht[1].toNat), (2, l.tht[2].toNat), (2, l.tht[3].toNat), (2, l.thst.toNat)])]
  ++ ((List.finRange 4).flatMap fun k => [(0xE0 + 8 * k.val, 4, l.thcfg[k].toNat), (0xE4 + 8 * k.val, 4, l.thntc[k].toNat)])

/-- FAB_STATUS. -/
def Fab.status (f : Fab) : Nat :=
  let own := (f.own.getD 0).toNat
  bitAt 31 f.root + bitAt 30 f.own.isSome + own * 2 ^ 16 + depthOf own * 2 ^ 12 + bitAt 11 f.ftlock + bitAt 10 f.floorErr
    + bitAt 9 f.expired + bitAt 8 f.shed + bitAt 2 f.up[2] + bitAt 1 f.up[1] + bitAt 0 f.up[0]

/-- A lease register of 16 bytes. -/
def leaseReg (x : Nat) (exp : DWord) (f : Nat) : Nat := cat [(4, x), (8, exp.toNat), (4, f)]

/-- FAB_LEASE, FAB_C0 and FAB_C1. -/
def Fab.leaseWord (f : Fab) : Nat := leaseReg f.xin f.xexp f.fsub
def Fab.childWord (f : Fab) (k : Fin 2) : Nat := leaseReg f.child[k].x f.child[k].exp f.child[k].f

/-- FAB (0x0900). -/
def Fab.regs (f : Fab) : List RegRow :=
  let pend := decide (f.cfgS ≠ f.cfg ∨ f.timingS ≠ f.timing ∨ f.floorS ≠ f.floor ∨ f.rootcapS ≠ f.rootcap ∨ f.lcapS ≠ f.lcap)
  [(0x00, 2, f.cfgS.toNat), (0x04, 4, f.timingS.toNat), (0x08, 4, f.floorS.toNat), (0x0C, 4, f.rootcapS.toNat),
   (0x10, 4, f.lcapS[0].toNat), (0x14, 4, f.lcapS[1].toNat), (0x18, 2, f.com.word pend), (0x1C, 4, f.status),
   (0x20, 16, f.leaseWord), (0x30, 16, f.childWord 0), (0x40, 16, f.childWord 1), (0x50, 4, f.lamt.toNat),
   (0x54, 8, f.lexp.toNat), (0x5C, 4, cat [(1, f.llink.val), (1, f.lentry.val), (1, f.lcmd.cst.toNat), (1, f.lcmd.cmd.toNat)]),
   (0x60, 2, (List.finRange 8).foldl (fun n e => n + bitAt e.val f.txe[e].opn + bitAt (8 + e.val) (f.txe[e].opn && f.txe[e].pass)) 0),
   (0x80, 8, f.ftime.toNat), (0x88, 8, f.ftset.toNat), (0x90, 2, f.evt.toNat), (0x92, 2, f.ien.toNat),
   (0x94, 4, cat [(1, f.nCrcU.toNat), (1, f.nCrcD.toNat), (1, f.nDrop.toNat), (1, f.nRenew.toNat)]),
   (0xA0, 2, f.tdst.toNat), (0xA2, 2, f.topl.toNat), (0xA4, 2, f.taddr.toNat), (0xA6, 2, f.tcmd.word), (0xA8, 1, f.ttag.toNat),
   (0xB0, 16, ofLe f.tdata.toList)]

/-- ADM_HINFO, 12 bytes. -/
def State.hinfo (s : State) : Nat :=
  let n := fld s.hsel 12 4
  if h : n < 9 then
    match (s.core ⟨n, h⟩).image.bind fun im => im.slot (fld s.hsel 0 6) with
    | some i => cat [(4, i.bound), (4, i.occ), (4, i.ded)]
    | none => 0
  else 0

/-- ADM (0x0A00). -/
def State.admRegs (s : State) : List RegRow :=
  (s.core arbiterId).regs ++
  [(0x80, 4, (List.finRange 9).foldl (fun n c =>
      n + bitAt c.val (s.core c).paceAlarm + bitAt (16 + c.val) ((s.core c).cr.evt.getLsbD 2)) 0),
   (0x84, 2, s.hsel.toNat), (0x88, 12, s.hinfo)]

/-- Ports with an unresolved premove that satisfies a test. -/
def State.pmvBits (s : State) (f : Handler → Bool) : Nat :=
  (List.finRange 8).foldl (fun n p => n + bitAt p.val (((s.premove p).map f).getD false)) 0

/-- PMV (0x0B00). -/
def State.pmvRegs (s : State) : List RegRow :=
  let data (h : Handler) := match h.stall with
    | some (.data _) => true
    | _ => false
  let buf (h : Handler) := match h.stall with
    | some (.buffer _) => true
    | _ => false
  let one (p : PortId) : List RegRow :=
    if !s.present p then []
    else
      let r := s.pmv.ports[p]
      [(0x40 + 16 * p.val, 4, r.played.toNat + r.taken.toNat * 65536), (0x44 + 16 * p.val, 4, r.last.toNat),
       (0x48 + 16 * p.val, 4, r.ltime.toNat), (0x4C + 16 * p.val, 4, s.tentOf p), (0xC0 + 4 * p.val, 4, r.hwmEff + r.hwmSto * 256)]
  [(0x00, 2, s.pmv.ctl.toNat &&& s.portMask),
   (0x04, 4, s.pmvBits (fun _ => true) + s.pmvBits data * 2 ^ 8 + s.pmvBits buf * 2 ^ 16), (0x08, 4, s.tentSum),
   (0x0C, 2, s.pmv.evt.toNat), (0x0E, 2, s.pmv.ien.toNat &&& (s.portMask * 257))] ++ (List.finRange 8).flatMap one

/-- POS (0x0C00). -/
def Pos.regs (q : Pos) : List RegRow :=
  [(0x00, 2, q.cmd.word), (0x04, 4, q.taken.toNat % 256 * 2 ^ 24 + bitAt 2 q.lost + bitAt 1 q.busy + bitAt 0 q.ready)]

/-! ### Bytes of the register space -/

/-- The row that covers an offset. -/
def rowAt (l : List RegRow) (off : Nat) : Option RegRow := l.find? fun r => decide (r.1 ≤ off ∧ off < r.1 + r.2.1)

/-- The register rows of an address below 0x4000 and the address their offsets count from (R384). -/
def State.rowsOf (s : State) (a : Nat) : List RegRow × Nat :=
  if a < 0x0100 then (s.glbRegs, 0)
  else if a < 0x0200 then (s.hbsRegs, 0x0100)
  else if a < 0x0300 then (s.tmbRegs, 0x0200)
  else if a < 0x0400 then (s.flgRegs, 0x0300)
  else if a < 0x0500 then (s.otp.regs, 0x0400)
  else if a < 0x0600 then (s.updRegs, 0x0500)
  else if a < 0x0700 then (s.recRegs, 0x0600)
  else if a < 0x0800 then (s.fedRegs, 0x0700)
  else if a < 0x0900 then (s.ldgRegs, 0x0800)
  else if a < 0x0A00 then (s.fab.regs, 0x0900)
  else if a < 0x0B00 then (s.admRegs, 0x0A00)
  else if a < 0x0C00 then (s.pmvRegs, 0x0B00)
  else if a < 0x0D00 then (s.pos.regs, 0x0C00)
  else if a < 0x1000 then ([], 0)
  else if h : a < 0x3000 then
    let p : PortId := ⟨(a - 0x1000) / 0x400, by omega⟩
    let r := s.portRegs p ((a - 0x1000) % 0x400)
    if s.present p then (r.1, 0x1000 + p.val * 0x400 + r.2) else ([], 0)
  else if h : a < 0x4000 then
    let p : PortId := ⟨(a - 0x3000) / 0x200, by omega⟩
    let k : Fin 8 := ⟨(a - 0x3000) % 0x200 / 0x40, by omega⟩
    if s.present p then ((s.queue p k).regs k, 0x3000 + p.val * 0x200 + k.val * 0x40) else ([], 0)
  else ([], 0)

/-- The register an address below 0x4000 lies in: its base address, size and value as a read shows it. -/
def State.regAt (s : State) (a : Nat) : Option RegRow :=
  let r := s.rowsOf a
  (rowAt r.1 (a - r.2)).map fun x => (r.2 + x.1, x.2.1, x.2.2)

/-- Byte i of a number. -/
def byteOf (v i : Nat) : Byte := BitVec.ofNat 8 (v >>> (8 * i))

/-- A byte of an OTP shadow word. -/
def wordByte (w : Word) (a : Nat) : Byte := byteOf w.toNat (a % 4)

/-- OTP shadows (R331). -/
def State.shadowByte (s : State) (a : Nat) : Byte :=
  let i : Fin 256 := ⟨(a - 0x4000) % 0x400 / 4, by omega⟩
  if a < 0x4400 then wordByte (s.otpWord i) a
  else if a < 0x4800 then wordByte s.otp.ovrBuf[i] a
  else if a < 0x4C00 then wordByte s.otp.weakm[i] a
  else if h : a < 0x4C40 then wordByte s.otp.compl[(a - 0x4C00) / 4]! a
  else 0

/-! ### The larder record (R283) -/

/-- A 64-bit energy counter of a record. -/
def energyBytes (x : BitVec 48) : List Byte := leBytes 8 x.toNat

/-- CONTRACTS of one port. -/
def State.contractBytes (s : State) (p : PortId) : List Byte :=
  leBytes 16 (s.port p).ct.held ++ leBytes 2 (s.port p).cstat ++ leBytes 4 (s.port p).tc.status ++ leBytes 4 (s.pwStatus p)
    ++ leBytes 4 s.ldg.grant[p] ++ leBytes 2 0

/-- Kinds that a version vector names. -/
def kindBits (v : Vector Word 3) : Nat := bitAt 0 (decide (v[0] ≠ 0)) + bitAt 1 (decide (v[1] ≠ 0)) + bitAt 2 (decide (v[2] ≠ 0))

/-- BODYLEN of the staged header (R343, R358). -/
def Upd.xlen (u : Upd) : Nat := ofLe (Mem.reads 0xFF u.staging 0x24 4)

/-- A transfer is open. -/
def Upd.xferOpen (u : Upd) : Bool := decide (u.xfer = .receiving ∨ u.xfer = .ending)

/-- UPDATE section, 64 bytes (R358). -/
def Upd.section (u : Upd) : List Byte :=
  let vers : List Byte := if u.trial then
      leBytes 4 (if u.tkinds.getLsbD 0 then u.arb.pending else 0) ++ leBytes 4 (if u.tkinds.getLsbD 1 then u.file.pending else 0)
        ++ leBytes 4 (if u.tkinds.getLsbD 2 then u.set.pending else 0)
    else if u.sched then u.schVer.toList.flatMap fun x => leBytes 4 x.toNat
    else leBytes 12 0
  leBytes 1 1 ++ leBytes 1 (bitAt 0 u.trial + bitAt 1 u.sched + bitAt 2 u.xferOpen + bitAt 3 (decide (u.xfer = .ending))
      + bitAt 4 (decide (u.step ≠ .none ∧ u.step ≠ .recheck)))
    ++ leBytes 1 u.tkinds.toNat ++ leBytes 1 (if u.sched then kindBits u.schVer else 0) ++ vers
    ++ leBytes 8 u.trialEnd.toNat ++ leBytes 8 u.schTime.toNat
    ++ leBytes 1 (if u.xferOpen then (u.xkind.map Kind.code).getD 0 else 0) ++ leBytes 1 u.xfer.code ++ leBytes 2 0
    ++ leBytes 4 (if u.xferOpen then u.xlen else 0) ++ leBytes 24 0

/-- The body of a record, 3,728 bytes (R283). -/
def State.recordBody (s : State) : List Byte :=
  (List.finRange 8).flatMap s.contractBytes
    ++ ((List.finRange 8).flatMap fun p => energyBytes (s.port p).ms.eout ++ energyBytes (s.port p).ms.ein)
    ++ energyBytes s.fed.f1.energy ++ energyBytes s.fed.f2.energy
    ++ leBytes 16 s.fab.leaseWord ++ leBytes 16 (s.fab.childWord 0) ++ leBytes 16 (s.fab.childWord 1) ++ leBytes 4 s.fab.status
    ++ leBytes 12 0 ++ s.upd.section
    ++ ((List.finRange 9).flatMap fun c => s.flg.units[c].recordBytes)
    ++ padTo 2048 ((s.faultLog.take 64).reverse.flatMap fun e => padTo 32 e)

/-- A record header with a STATE byte and a CRC (R283). -/
def recordHeader (cause seq : Nat) (ftime : DWord) (now : Word) (vhv vhold part state : Nat) (crc : Word) : List Byte :=
  padTo 0x3C (leBytes 2 0x4C44 ++ leBytes 1 1 ++ leBytes 1 cause ++ leBytes 4 seq ++ leBytes 8 ftime.toNat ++ leBytes 4 now.toNat
    ++ leBytes 2 vhv ++ leBytes 2 vhold ++ leBytes 2 3728 ++ leBytes 1 state ++ leBytes 1 0 ++ leBytes 2 part ++ leBytes 1 glbStep)
    ++ leBytes 4 crc.toNat

/-- SEQ of a slot, none when the slot is not valid for the part (R284): MAGIC, FMT, LEN, PART and CRC correct, the CRC
with STATE taken as 0. -/
def slotSeq (part : Nat) (slot : List Byte) : Option Nat :=
  let n (o k : Nat) := ofLe ((slot.drop o).take k)
  let img := (slot.take 0x1A) ++ [0] ++ ((slot.take 0x3C).drop 0x1B)
  if n 0 2 = 0x4C44 ∧ n 2 1 = 1 ∧ n 0x18 2 = 3728 ∧ n 0x1C 2 = part
      ∧ n 0x3C 4 = (crc32 (img ++ (slot.drop 0x40).take 3728)).toNat then some (n 4 4) else none

/-- Highest valid SEQ of the two slots, and its slot. -/
def State.bestSlot (s : State) : Option (Nat × Fin 2) :=
  match slotSeq s.part s.fed.slot0, slotSeq s.part s.fed.slot1 with
  | none, none => none
  | some a, none => some (a, 0)
  | none, some b => some (b, 1)
  | some a, some b => if a < b then some (b, 1) else some (a, 0)

/-- The record a save would write now, with its STATE byte and CRC or with both 0 (R283, R374). -/
def State.record (s : State) (cause : Nat) (live : Bool) : List Byte :=
  let seq := match s.bestSlot with
    | some x => x.1 + 1
    | none => 1
  let hdr := recordHeader cause seq s.fab.ftime s.now s.pins.vhv s.pins.vhold s.part
  let body := s.recordBody
  if live then hdr 0 0 ++ body else hdr 0xA5 (crc32 ((hdr 0 0).take 0x3C ++ body)) ++ body

/-! ### Paged window and position window -/

/-- A byte of the paged window (R374). -/
def State.pagedByte (s : State) (a : Nat) : Byte :=
  let pg := fld s.hbs.page 0 9
  let o := a - 0x5000
  if pg < 0x80 then Mem.read 0 s.sram (pg * 0x1000 + o)
  else if pg = 0x100 ∨ pg = 0x101 then s.fed.slot0.getD ((pg - 0x100) * 0x1000 + o) 0
  else if pg = 0x102 ∨ pg = 0x103 then s.fed.slot1.getD ((pg - 0x102) * 0x1000 + o) 0
  else if pg = 0x104 ∨ pg = 0x105 then (s.record 0 true).getD ((pg - 0x104) * 0x1000 + o) 0
  else 0

/-- The byte of an address as a read shows it, with no effect of the read (R317, R384). -/
def State.peek (s : State) (a : Nat) : Byte :=
  if a < 0x4000 then
    match s.regAt a with
    | some r => byteOf r.2.2 (a - r.1)
    | none => 0
  else if a < 0x5000 then s.shadowByte a
  else if a < 0x6000 then s.pagedByte a
  else if 0x8000 ≤ a ∧ s.pos.ready then s.pos.image.getD (a - 0x8000) 0
  else 0

end Sys2Proof.Machine
end

