-- ==== Sys2Proof/Machine/Otp.lean ====
section
/-! DEFINITION. The OTP (14): the sense with its weak bits, safe values and seals (R327, R330, R339), overrides and sticky
locks (R334, R337), and the controller's commands (R332-R338). -/

namespace Sys2Proof.Machine

/-! ### Copies of a bit -/

/-- Majority of three copies. -/
def maj3 (v : Vector Word 3) : Word := (v[0] &&& v[1]) ||| (v[0] &&& v[2]) ||| (v[1] &&& v[2])

/-- Bits whose three copies disagree. -/
def split3 (v : Vector Word 3) : Word := (v[0] ^^^ v[1]) ||| (v[0] ^^^ v[2])

/-- Weak bits of a word (R327). -/
def OtpWord.weak (w : OtpWord) : Word := split3 w.n ||| split3 w.s ||| (maj3 w.n ^^^ maj3 w.s)

/-- A lock fuse reads blown: its majority, or weak (R327). -/
def OtpWord.fuse (w : OtpWord) : Bool := (maj3 w.n ||| w.weak).getLsbD 0

/-- A fuse is weak. -/
def OtpWord.fuseWeak (w : OtpWord) : Bool := w.weak.getLsbD 0

/-- A 32-bit free value (log 1). -/
def freeWord (c : Nat) : Word := BitVec.ofNat 32 (ofLe ((List.range 4).map fun i => Config.freeByte (c + i)))

/-! ### Regions -/

/-- The sixteen words of a region as one number, word 0 lowest. -/
def wordsNum (f : Fin 16 → Word) : Nat := (List.finRange 16).foldr (fun i a => (f i).toNat + a * 2 ^ 32) 0

/-- Word i of region r in the array. -/
def regionIx (r i : Fin 16) : Fin 288 := ⟨r.val * 16 + i.val, by omega⟩

/-- Majority content at normal margin and weak bits of region r, and the words of its seal row. -/
def Otp.content (o : Otp) (r : Fin 16) : Nat := wordsNum fun i => maj3 o.cells[regionIx r i].n
def Otp.weakBits (o : Otp) (r : Fin 16) : Nat := wordsNum fun i => o.cells[regionIx r i].weak
def Otp.complCell (o : Otp) (r : Fin 16) : OtpWord := o.cells[(⟨256 + r.val, by omega⟩ : Fin 288)]
def Otp.fuseCell (o : Otp) (r : Fin 16) : OtpWord := o.cells[(⟨272 + r.val, by omega⟩ : Fin 288)]

/-- The CRC-32 of a region's content (R338). -/
def regionCrc (content : Nat) : Word := crc32 (leBytes 64 content)

/-- A region may be sealed, or stands sealed: no data or completion bit is weak and the CRC fits (R338, R339). -/
def Otp.whole (o : Otp) (r : Fin 16) : Bool :=
  decide (o.weakBits r = 0) && decide ((o.complCell r).weak = 0)
    && decide (regionCrc (o.content r) = maj3 (o.complCell r).n)

/-- The fields of regions 0 to 6: first bit, width and safe value (R328). A trim byte is a field of its own; a safe
value none is "slot unusable" and leaves the shadow's bits free (logs 33, 1). -/
def regionFields (r : Nat) : List (Nat × Nat × Option Nat) :=
  match r with
  | 0 => (List.range 48).map fun i => (8 * i, 8, some (Config.trimNominal i).toNat)
  | 1 => [(0, 64, some (2 ^ 64 - 1)), (64, 32, some (2 ^ 32 - 1)), (96, 8, some 255), (104, 8, some 255), (112, 8, some 255),
      (128, 16, some 65535)]
  | 2 => [(0, 1, some 0), (1, 1, some 0)]
  | 3 => [(0, 256, none), (256, 256, none)]
  | 4 => [(0, 8, some 255), (8, 8, some 255)]
  | 5 => ((List.range 9).map fun c => (2 * c, 2, some 0)) ++ [(24, 1, some 1), (25, 1, some 0), (26, 1, some 1), (27, 1, some 0)]
  | 6 => [(0, 1, some 1), (1, 1, some 1)]
  | _ => []

/-- A number with the n-bit field at lo replaced. -/
def putField (x lo n v : Nat) : Nat := x ^^^ ((((x >>> lo) % 2 ^ n) ^^^ (v % 2 ^ n)) <<< lo)

/-- Content of an open region: a field with a weak bit takes its safe value, a weak bit of regions 7 to 15 reads 0, a
weak bit outside every field is free (R327). -/
def resolveOpen (r content weak free : Nat) : Nat :=
  let base := (content ^^^ (content &&& weak)) ||| (if r < 7 then weak &&& free else 0)
  (regionFields r).foldl (fun x f =>
    if (weak >>> f.1) % 2 ^ f.2.1 = 0 then x else putField x f.1 f.2.1 (f.2.2.getD (free >>> f.1))) base

/-- Content of a sealed-incomplete region: every field safe, all else 0 (R331). -/
def resolveBad (r free : Nat) : Nat :=
  (regionFields r).foldl (fun x f => putField x f.1 f.2.1 (f.2.2.getD (free >>> f.1))) 0

/-- State of a region at the sense: 0 open, 1 sealed, 2 sealed-incomplete (R339). -/
def Otp.sealCode (o : Otp) (r : Fin 16) : Nat := if (o.fuseCell r).fuse then (if o.whole r then 1 else 2) else 0

/-- The content in force of a region at the sense, before any override. -/
def Otp.resolved (o : Otp) (ctr : Nat) (r : Fin 16) : Nat :=
  let free := wordsNum fun i => freeWord (ctr + 64 * r.val + 4 * i.val)
  if o.sealCode r = 2 then resolveBad r.val free else resolveOpen r.val (o.content r) (o.weakBits r) free

/-- Region and word of a data word index. -/
def regionOf (i : Fin 256) : Fin 16 := ⟨i.val / 16, by omega⟩
def regionWord (x : Nat) (i : Fin 256) : Word := BitVec.ofNat 32 (x >>> (32 * (i.val % 16)))

/-- Both key slots' unusability at the sense (R328 region 3). -/
def Otp.keysBad (o : Otp) : BitVec 2 :=
  if o.sealCode 3 = 2 then 3
  else maskOf 2 2 fun i => decide ((o.weakBits 3 >>> (256 * i)) % 2 ^ 256 ≠ 0)

/-- The hash of key slot i in force; none when the slot is unusable (R328). -/
def State.keyHash (s : State) (i : Fin 2) : Option Nat :=
  if s.otp.keyBad.getLsbD i.val then none
  else some ((List.finRange 8).foldr (fun j a => (s.otpWord ⟨48 + 8 * i.val + j.val, by omega⟩).toNat + a * 2 ^ 32) 0)

/-- A key slot is blank: its hash reads all 0 (R328). -/
def State.keyBlank (s : State) (i : Fin 2) : Bool := decide (s.keyHash i = some 0)

/-- The reset sense ends: the shadows, locks, seals and weak masks are as the array gives them, and the boot ROM sets
the sticky locks of R337. -/
def Otp.sense (o : Otp) (ctr : Nat) : Otp :=
  let res : Vector Nat 16 := Vector.ofFn fun r => o.resolved ctr r
  let codes : Vector Nat 16 := Vector.ofFn fun r => o.sealCode r
  let weakR (r : Fin 16) : Bool := decide (o.weakBits r ≠ 0) || decide ((o.complCell r).weak ≠ 0) || (o.fuseCell r).fuseWeak
  let wk : Half := maskOf 16 16 fun i => if h : i < 16 then weakR ⟨i, h⟩ else false
  let bad := codes.toList.any fun c => decide (c = 2)
  { o with
    shadow := Vector.ofFn fun i => regionWord res[regionOf i] i
    weakm := Vector.ofFn fun i => o.cells[(⟨i.val, by omega⟩ : Fin 288)].weak
    compl := Vector.ofFn fun r => maj3 (o.complCell r).n
    lockf := maskOf 16 16 fun i => if h : i < 16 then (o.fuseCell ⟨i, h⟩).fuse else false
    sealSt := BitVec.ofNat 32 ((List.finRange 16).foldl (fun a r => a + codes[r] * 4 ^ r.val) 0)
    weak := wk, trimsafe := decide (codes[0] = 2), keyBad := o.keysBad, sensed := true
    evt := setB (setB o.evt 2 (o.evt.getLsbD 2 || bad)) 1 (o.evt.getLsbD 1 || decide (wk ≠ 0)) }

/-- R330, R337: the sense of the state, with the free values of weak unnamed bits taken. -/
def State.otpSense (s : State) : State :=
  let s1 := { s with otp := s.otp.sense s.freeCtr, freeCtr := s.freeCtr + 1024 }
  let locks : Half := if s1.keyBlank 0 && s1.keyBlank 1 then 7 else 15
  s1.modOtp fun o => { o with sticky := o.sticky ||| locks, ovr := o.ovr &&& ~~~locks }

/-- Port p is present on the part: what the sense makes of EHEN, also before the first sense (R5, R327, R330, R393;
log 118). -/
def State.fitted (s : State) (p : PortId) : Bool :=
  s.present p || (!s.otp.sensed && !s.rcv.devReset && (s.otp.resolved s.freeCtr 2).testBit 0)

/-! ### Overrides and sticky locks -/

/-- R334: OTP_OVR written. A bit that already stands keeps it; a bit not accepted stays 0 with OVRREF. -/
def Otp.ovrWrite (o : Otp) (v : Half) : Otp :=
  let fresh := v &&& ~~~o.ovr
  let good := fresh &&& 0xFFE0 &&& ~~~o.lockf &&& ~~~o.sticky
  { o with ovr := (v &&& o.ovr) ||| good, evt := if fresh = good then o.evt else setB o.evt 4 true }

/-- R337: OTP_STICKY written. -/
def Otp.stickyWrite (o : Otp) (v : Half) : Otp := { o with sticky := o.sticky ||| v, ovr := o.ovr &&& ~~~v }

/-- R335: OTP_UNLK written. -/
def Otp.unlkWrite (o : Otp) (v : Half) : Otp := { o with unlk := v, unlkArmed := decide (v = 0x0AF5) }

/-! ### Commands -/

/-- Region of the word a command addresses. -/
def waddrRegion (a : BitVec 9) : Fin 16 :=
  if a.toNat < 256 then ⟨a.toNat / 16 % 16, by omega⟩ else ⟨a.toNat % 16, by omega⟩

/-- Index of the addressed word in the array; addresses above 0x10F are refused before this is used. -/
def waddrIx (a : BitVec 9) : Fin 288 := ⟨a.toNat % 272, by omega⟩

/-- A key slot stays usable after word 0 of region 4 is programmed to v: its revocation is 0x00 and its hash not blank,
both as the array's majorities read (R335 LAST_KEY). -/
def Otp.keyLeft (o : Otp) (v : Nat) : Bool :=
  (List.range 2).any fun i => decide ((v >>> (8 * i)) % 256 = 0) && decide ((o.content 3 >>> (256 * i)) % 2 ^ 256 ≠ 0)

/-- Word 0 of region 4 as it would read after the program. -/
def Otp.revokeAfter (o : Otp) : Nat :=
  let now := o.content 4 % 2 ^ 32
  if o.waddr = 64 then now ||| o.data.toNat else now

/-- CONDITIONS of R335. -/
def State.otpConditions (s : State) : Bool :=
  decide (s.pins.v5 < 4750) || decide (s.pins.dieT < 0) || decide (85 < s.pins.dieT) || decide (s.phase = .startMode) || s.inSave

/-- First refusal of PROGRAM or SEAL, 0 for none (R335, R338). SEAL takes no completion word (log 34). -/
def State.otpRefusal (s : State) (lock : Bool) : Byte :=
  let o := s.otp
  let r := (waddrRegion o.waddr).val
  if 0x10F < o.waddr.toNat ∨ (lock = true ∧ 0x100 ≤ o.waddr.toNat) then 1
  else if !o.unlkArmed then 2
  else if o.running.isSome || !o.sensed then 9
  else if o.sticky.getLsbD r then 3
  else if o.lockf.getLsbD r then 4
  else if !lock && decide (maj3 o.cells[waddrIx o.waddr].n &&& ~~~o.data ≠ 0) then 5
  else if !lock && decide (o.waddr.toNat / 16 = 4) && !o.keyLeft o.revokeAfter then 8
  else if s.otpConditions then 6
  else 0

/-- CST after a command byte (OTP_CMD). -/
def Otp.cst (o : Otp) (cst : Byte) : Otp := { o with cmd := { o.cmd with cst } }

/-- A command ends with a status (OTP_EVT.CMDEND). -/
def Otp.finish (o : Otp) (cst : Byte) : Otp := { o.cst cst with running := none, evt := setB o.evt 0 true }

/-- A refused command. -/
def Otp.refuse (o : Otp) (rsn : Byte) : Otp := { o.cst 2 with rsn }

/-- A command starts: CST running, with the address and data it works on. -/
def Otp.begin' (o : Otp) (k : OtpCmd) : Otp := { o.cst 3 with running := some k, runAddr := o.waddr, runData := o.data }

/-- A command byte is written: it reads back, and ABANDON clears (OTP_CMD, OTP_STATUS). -/
def Otp.written (o : Otp) (cmd : Byte) : Otp := { o with cmd := { o.cmd with cmd }, abandon := false }

/-- READN or READS issued (R332): BAD_ADDR and BUSY stop a read too; a latched controller fault ends it (R333; log 34). -/
def State.otpRead (s : State) (k : OtpCmd) (code : Byte) : State :=
  s.modOtp fun o0 =>
    let o := o0.written code
    if o.ctrlflt then o.finish 5
    else if 0x10F < o.waddr.toNat then o.refuse 1
    else if o.running.isSome || !o.sensed then o.refuse 9
    else o.begin' k

/-- PROGRAM or SEAL issued (R335, R338): the unlock value is used up. -/
def State.otpBlow (s : State) (lock : Bool) : State :=
  let code := s.otpRefusal lock
  s.modOtp fun o0 =>
    let o := { o0.written (if lock then 0x4C else 0x50) with unlkArmed := false }
    if o.ctrlflt then (if o.running.isSome then o.cst 5 else o.finish 5)
    else if code ≠ 0 then o.refuse code
    else o.begin' (if lock then .sealRegion else .program)

/-- Copies after the bits in req were pulsed and the bits in bad did not come to read 1 in every copy: a good bit reads 1
in all copies, a failed bit's copies are free within R327 and R336 - none goes back to 0, what reads 1 at strict margin
reads 1 at normal margin, and one copy at least fails (log 1). -/
def OtpWord.blow (w : OtpWord) (req bad : Word) (ctr : Nat) : OtpWord :=
  let good := req &&& ~~~bad
  let part := req &&& bad
  let n := Vector.ofFn fun (i : Fin 3) => w.n[i] ||| good ||| (part &&& freeWord (ctr + 4 * i.val))
  let s0 := Vector.ofFn fun (i : Fin 3) => w.s[i] ||| good ||| (part &&& freeWord (ctr + 12 + 4 * i.val) &&& n[i])
  let all := part &&& s0[0] &&& s0[1] &&& s0[2]
  { n, s := Vector.ofFn fun i => s0[i] &&& ~~~(all &&& ~~~w.s[i]) }

/-- Bits of data that do not read 1 in all three copies at strict margin (R335). -/
def OtpWord.toBlow (w : OtpWord) (data : Word) : Word := data &&& ~~~(w.s[0] &&& w.s[1] &&& w.s[2])

/-- The cell of word i blown. -/
def State.blowCell (s : State) (i : Fin 288) (req bad : Word) : State :=
  { s with otp := { s.otp with cells := s.otp.cells.set i (s.otp.cells[i].blow req bad s.freeCtr) }, freeCtr := s.freeCtr + 24 }

/-- What a running command pulses: its word and bits. SEAL pulses nothing in a region its check refuses (R338). -/
def Otp.target (o : Otp) (k : OtpCmd) : Option (Fin 288 × Word) :=
  let i := waddrIx o.runAddr
  match k with
  | .readn | .reads => none
  | .program => some (i, o.cells[i].toBlow o.runData)
  | .sealRegion =>
    let j : Fin 288 := ⟨272 + (waddrRegion o.runAddr).val, by omega⟩
    if o.whole (waddrRegion o.runAddr) then some (j, o.cells[j].toBlow 1) else none

/-- R332, R333, R336, R338: a command ends. `refOk`: the margin reference held and the command ended within 10 ms;
`bad`: the requested bits that do not read 1 in every copy after the last round. -/
def State.otpEnd (s : State) (refOk : Bool) (bad : Word) : State :=
  match s.otp.running with
  | none => s
  | some k =>
    if s.inSave then s
    else if !refOk then s.modOtp fun o => { o.finish 5 with ctrlflt := true, evt := setB (setB o.evt 0 true) 3 true }
    else
      let o := s.otp
      let i := waddrIx o.runAddr
      let r := waddrRegion o.runAddr
      match k with
      | .readn => s.modOtp fun o => { o.finish 1 with data := maj3 o.cells[i].n, wmask := split3 o.cells[i].n }
      | .reads => s.modOtp fun o => { o.finish 1 with data := maj3 o.cells[i].s, wmask := split3 o.cells[i].s }
      | .program =>
        let req := o.cells[i].toBlow o.runData
        let s1 := s.blowCell i req bad
        if req &&& bad = 0 then s1.modOtp fun o => o.finish 1
        else s1.modOtp fun o => { o.finish 4 with wmask := req &&& bad }
      | .sealRegion =>
        if !o.whole r then s.modOtp fun o => { o.finish 2 with rsn := 7 }
        else
          let j : Fin 288 := ⟨272 + r.val, by omega⟩
          let req := o.cells[j].toBlow 1
          let s1 := s.blowCell j req bad
          if req &&& bad = 0 then s1.modOtp fun o => { o.finish 1 with
            lockf := setB o.lockf r.val true, sealSt := setF o.sealSt (2 * r.val) 2 1 }
          else s1.modOtp fun o => { o.finish 4 with wmask := req &&& bad }

/-- A save stops a command that pulses (R336): each bit still asked for may have come to read 1 or not, which free values
decide. -/
def State.otpSaveStop (s : State) : State :=
  match s.otp.running.bind s.otp.target with
  | none => s
  | some x => { s.blowCell x.1 x.2 (freeWord (s.freeCtr + 24)) with freeCtr := s.freeCtr + 28 }

/-- A value of OTP_CMD.CMD that is no command is refused. -/
def State.otpUnknown (s : State) (cmd : Byte) : State := s.modOtp fun o => (o.written cmd).cst 2

end Sys2Proof.Machine
end

