-- ==== Sys2Proof/Machine/Larder.lean ====
section
/-! DEFINITION. The save, the park and the warm start (R278-R286): the trigger, the write of a record, the park, and what
a boot restores from an unconsumed record. -/

namespace Sys2Proof.Machine

/-! ### The save (R278-R281) -/

/-- A save can start: power is on, not in start mode, no save or park under way (R278). -/
def State.canSave (s : State) : Bool :=
  decide (s.phase ≠ .unpowered) && decide (s.phase ≠ .startMode) && !s.inSave

/-- CORE and LINK held in reset by a save: what the AO domain, the flash and PP hold stays, the sticky locks too
(R337); an open transfer stands (R279 step 1, R281, R359). -/
def State.saveReset (s : State) : State :=
  let s1 := s.coreLinkReset
  let d := s1.upd
  { s1 with otp := { s1.otp with sticky := s.otp.sticky }
            upd := { d with staging := s.upd.staging, xfer := s.upd.xfer, xkind := s.upd.xkind, xsrc := s.upd.xsrc,
                            chunkErr := s.upd.chunkErr, step := s.upd.step, actFile := s.upd.actFile } }

/-- Step 1 of R279: the record is captured, the ledger frozen, CORE and LINK held in reset. A device reset or a restart under
way is cut short: the warm start takes its place (R281, R313). -/
def State.saveBegin (s : State) (k : SaveCause) : State :=
  let sv : Saving := { cause := k, record := s.record k.code false, vholdS := s.pins.vhold }
  let blown := decide (s.otp.running = some .program ∨ s.otp.running = some .sealRegion)
  let s1 := (s.otpSaveStop.saveReset).modFed fun f => { f with saving := some sv }
  let s2 := (s1.outageEnd.modFlg fun F => { F with proxies := [] }).modRec fun r => { r with arb := .stopped, stage := Vector.replicate 8 .none, devReset := false }
  { s2.modOtp fun o => { o with abandon := o.abandon || blown } with phase := .saving }

/-- R278: VHV or V5 sags. -/
def State.saveTrigger (s : State) (k : SaveCause) : State :=
  if !s.canSave then s
  else match k with
    | .vhv => if s.fed.armed then s.saveBegin .vhv else s
    | .v5 => (s.modPins fun n => { n with v5 := min n.v5 4299 }).saveBegin .v5
    | .command => s

/-- R278, FED_LCMD: a command byte; 0x5A is SAVE, refused in start mode. -/
def State.lcmdWrite (s : State) (v : Byte) : State :=
  let set (cst : Byte) : State := s.modFed fun f => { f with lcmd := { cmd := v, cst } }
  if v = 0x5A ∧ s.canSave then (set 0).saveBegin .command else if s.inSave then s else set 2

/-- The slot a save writes: the one that does not hold the highest valid SEQ (R284). -/
def State.freeSlot (s : State) : Fin 2 :=
  match s.bestSlot with
  | some (_, i) => 1 - i
  | none => 0

/-- A larder slot, and its change. -/
def Fed.slot (f : Fed) (i : Fin 2) : List Byte := if i = 0 then f.slot0 else f.slot1
def Fed.setSlot (f : Fed) (i : Fin 2) (b : List Byte) : Fed := if i = 0 then { f with slot0 := b } else { f with slot1 := b }

/-- The bleed of a port is released, whoever started it (R279 step 5). -/
def State.dscOff (s : State) (p : PortId) : State := s.modPw p fun w => { w with dscHw := false, dscAct := false }

/-- Steps 4 to 6 of R279 on a port: generators, CEN low, VCONN open, a swap or Hard Reset sequence ends (R281), DSC while
VHOLD lasts. FBS sinks no current: no set-point is driven; DIR is low in the park (R214). -/
def State.parkPort (s : State) (p : PortId) : State :=
  let s1 := (((s.fireGens p).cenLow p).sequenceOff p).modPort p fun P => { P with
    tc := { P.tc with vconn := false }, sp := { P.sp with fbs := 0, cls := 0, dir := false } }
  if s.pins.vhold < 5000 then s1.dscOff p else s1.dscStart p

/-- Steps 4 to 6 of R279: the ports, the feeds off, park. The PP domain is held from here (R391). -/
def State.parkNow (s : State) : State :=
  let off (c : FeedSt) : FeedSt := { c with on := false, good := false, revoff := false }
  { (s.forPresent State.parkPort).modFed fun f => { f with f1 := off f.f1, f2 := off f.f2, saving := none, park := some 0 } with
    phase := .parked }

/-- R279 step 5 in the park: VHOLD below 5.0 V releases the bleeds. -/
def State.parkVhold (s : State) (vhold : Nat) : State :=
  let s1 := s.modPins fun n => { n with vhold }
  if vhold < 5000 then s1.forPresent State.dscOff else s1

/-- R279 step 5 in the park: VB below 0.8 V releases the bleed of the port. -/
def State.parkVb (s : State) (p : PortId) (vb : Nat) : State :=
  if s.present p then (let s1 := s.modPw p fun w => { w with vbPin := vb }; if vb < 800 then s1.dscOff p else s1) else s

/-- FED_LREC at the end of a save. -/
def Fed.lrecEnd (f : Fed) (sv : Saving) (outcome dur vholdE : Nat) : Fed :=
  { f with lseq := BitVec.ofNat 32 (ofLe ((sv.record.drop 4).take 4)), lcause := sv.cause.code, outcome := BitVec.ofNat 8 outcome,
           dur := BitVec.ofNat 16 dur, vholdS := BitVec.ofNat 16 sv.vholdS, vholdE := BitVec.ofNat 16 vholdE, parkMs := 0 }

/-- R279 steps 3 to 6: the write ends; `dur` us, VHOLD in mV. -/
def State.saveDone (s : State) (dur vhold : Nat) : State :=
  match s.fed.saving with
  | none => s
  | some sv =>
    let i := s.freeSlot
    ((s.modPins fun n => { n with vhold }).modFed fun f => (f.setSlot i sv.record).lrecEnd sv 1 dur vhold).parkNow

/-- A slot whose write was abandoned: each byte may hold the old or the new value, and the CRC, written last, does not
fit (R280; log 1). -/
def State.spoiled (s : State) (old new : List Byte) : List Byte :=
  let mix := (List.range 3792).map fun j => if Config.freeBool (s.freeCtr + j) then new.getD j 0 else old.getD j 0
  let good := crc32 ((mix.take 0x1A) ++ [0] ++ ((mix.take 0x3C).drop 0x1B) ++ (mix.drop 0x40).take 3728)
  let c := freeWord (s.freeCtr + 3792)
  mix.take 0x3C ++ leBytes 4 (if c = good then c + 1 else c).toNat ++ mix.drop 0x40

/-- R280: VHOLD falls below 5.5 V before the write ends. The write time is not stated: a free value. -/
def State.saveAbandon (s : State) : State :=
  match s.fed.saving with
  | none => s
  | some sv =>
    let i := s.freeSlot
    let v := min s.pins.vhold 5499
    let d := ofLe ((List.range 2).map fun j => Config.freeByte (s.freeCtr + 3796 + j))
    let b := s.spoiled (s.fed.slot i) sv.record
    let s1 := (s.modPins fun n => { n with vhold := v }).modFed fun f => (f.setSlot i b).lrecEnd sv 2 d v
    ({ s1 with freeCtr := s.freeCtr + 3798 }).parkNow

/-! ### Leaving the park (R282) -/

/-- The PP domain, and what R27 gives as lost at a save, at their reset values; AO kept. -/
def State.ppReset (s : State) : State :=
  let f := s.fed
  { s with
    ports := Vector.replicate 8 {}, ldg := {}, pmv := {}
    fed := { (({} : Fed)) with cmeas := f.cmeas, lcmd := f.lcmd, lseq := f.lseq, lcause := f.lcause, outcome := f.outcome
                               dur := f.dur, vholdS := f.vholdS, vholdE := f.vholdE, parkMs := f.parkMs, park := f.park
                               slot0 := f.slot0, slot1 := f.slot1, lowE := f.lowE
                               f1 := { energy := f.f1.energy, res := f.f1.res }, f2 := { energy := f.f2.energy, res := f.f2.res } }
    fab := { xin := s.fab.xin, xexp := s.fab.xexp, child := s.fab.child, shed := s.fab.shed, expired := s.fab.expired
             ftime := s.fab.ftime } }

/-- FED_LREC.PARKMS of a count of slow cycles: whole ms, or not counted to the end (R282; log 145). -/
def parkMsOf (park : Option Nat) : Word :=
  match park with
  | some n => BitVec.ofNat 32 (min (n * 1000 / 32768) 0xFFFFFFFE)
  | none => 0xFFFFFFFF

/-- R282: VHV at VSAVE + RESHYST or above and V5 at 4.5 V or above, both for 10 ms. The boot begins at the OTP sense; a
HALT to come gives way to it (R313). -/
def State.warmStart (s : State) (w : WakeSample) : State :=
  if s.phase = .parked ∧ (fld s.fed.lcfg 6 10 + fld s.fed.lcfg 0 6) * 100 ≤ w.vhv ∧ 4500 ≤ w.v5 then
    let s1 := (s.ppReset.modFed fun f => { f with parkMs := parkMsOf f.park }).modRec fun r => { r with rung4 := .none }
    let s2 := s1.modPins fun n => { n with v5 := w.v5, vhv := w.vhv }
    { s2 with phase := .sense, bootArg := 0 }
  else s

/-! ### What a boot restores (R284-R286, R358, R359) -/

/-- A slot that fails its CRC (FED_EVT.SAVEBAD): over the header with STATE taken as 0 and the LEN bytes of the body as LEN
reads, within the slot (R283). A slot never written is not judged (log 144). -/
def slotBad (slot : List Byte) : Bool :=
  let full := padTo 0x2000 slot
  let img := full.take 0x1A ++ [0] ++ (full.take 0x3C).drop 0x1B
  !slot.isEmpty && decide (ofLe ((full.drop 0x3C).take 4)
    ≠ (crc32 (img ++ (full.drop 0x40).take (ofLe ((full.drop 0x18).take 2)))).toNat)

/-- Bytes of a record as a number. -/
def recNum (r : List Byte) (o n : Nat) : Nat := ofLe ((r.drop o).take n)

/-- R286: fabric time and leases. -/
def Fab.restore (f : Fab) (r : List Byte) (park : Word) : Fab :=
  let back := if park = 0xFFFFFFFF then 0 else park.toNat * 950
  let kid (o : Nat) : Child :=
    { x := recNum r o 4, exp := BitVec.ofNat 64 (recNum r (o + 4) 8), f := recNum r (o + 12) 4, known := decide (recNum r (o + 12) 4 ≠ 0) }
  { f with
    ftime := BitVec.ofNat 64 (recNum r 8 8 + back), ftlock := false
    xin := 0, xexp := BitVec.ofNat 64 (recNum r 0x1D4 8), shed := true, expired := true, addr := none
    child := Vector.ofFn fun (k : Fin 2) => kid (0x1E0 + 16 * k.val) }

/-- R358, R359: trial state and scheduled activation, and the open transfer's state. -/
def Upd.restore (u : Upd) (r : List Byte) : Upd :=
  let o := 0x210
  let fl := recNum r (o + 1) 1
  let trial := fl.testBit 0
  let sched := fl.testBit 1
  let vers : Vector Word 3 := Vector.ofFn fun i => BitVec.ofNat 32 (recNum r (o + 4 + 4 * i.val) 4)
  { u with
    trial, sched, tkinds := BitVec.ofNat 3 (recNum r (o + 2) 1)
    trialEnd := BitVec.ofNat 64 (recNum r (o + 0x10) 8), schTime := BitVec.ofNat 64 (recNum r (o + 0x18) 8)
    schVer := if sched ∧ !trial then vers else u.schVer
    xkind := match recNum r (o + 0x20) 1 with
      | 1 => some .arb
      | 2 => some .file
      | 3 => some .set
      | _ => u.xkind
    step := if fl.testBit 4 then .arbiter else .none
    fallback := u.fallback || (fl.testBit 4 && !trial) }

/-- R285: the parts of an unconsumed record are put back. -/
def State.restore (s : State) (r : List Byte) : State :=
  let e48 (o : Nat) : BitVec 48 := BitVec.ofNat 48 (recNum r o 8)
  let flag (c : Nat) : List Byte :=
    let b := (r.drop (0x250 + 128 * c)).take 128
    if b.all (fun x => decide (x = 0)) then [] else b
  let logs := ((List.range 64).map fun i => (r.drop (0x6D0 + 32 * i)).take 32).filter fun b => b.any fun x => decide (x ≠ 0)
  { s with
    ports := Vector.ofFn fun p => { s.ports[p] with
      ms := { s.ports[p].ms with eout := e48 (0x140 + 16 * p.val), ein := e48 (0x148 + 16 * p.val), resOut := 0, resIn := 0 } }
    fed := { s.fed with f1 := { s.fed.f1 with energy := e48 0x1C0, res := 0 }, f2 := { s.fed.f2 with energy := e48 0x1C8, res := 0 }
                        warmed := true, outcome := 3, parkMs := parkMsOf s.fed.park, lseq := BitVec.ofNat 32 (recNum r 4 4), lcause := BitVec.ofNat 8 (recNum r 3 1)
                        vholdS := BitVec.ofNat 16 (recNum r 0x16 2) }
    fab := s.fab.restore r (parkMsOf s.fed.park)
    flg := { s.flg with units := Vector.ofFn fun c => { s.flg.units[c] with record := flag c.val } }
    upd := { s.upd.restore r with late := decide ((recNum r 0x211 1).testBit 1 ∧ recNum r 0x228 8 ≤ (s.fab.restore r (parkMsOf s.fed.park)).ftime.toNat) }
    faultLog := logs.reverse
    rcv := { s.rcv with cause := setB s.rcv.cause 5 true }
    bootArg := 2 }

/-- R284: the larder slots are judged at every boot; the energy counters stand over a device reset (R27). -/
def State.judgeSlots (s : State) : State :=
  let bad := slotBad s.fed.slot0 || slotBad s.fed.slot1
  let s1 := if bad then (s.modFed fun f => { f with outcome := if f.outcome = 2 then 2 else 4 }).fedEvt 10 else s
  let cold (s : State) : State :=
    if s.rcv.devReset then s.modFed fun f => { f with warmed := false }
    else s.modFed fun f => { f with
      warmed := false, f1 := { f.f1 with energy := 0, res := 0 }, f2 := { f.f2 with energy := 0, res := 0 } }
  match s1.bestSlot with
  | none => cold s1
  | some (_, i) =>
    let r := s1.fed.slot i
    if recNum r 0x1A 1 = 0xA5 then (s1.restore r).modFed fun f => f.setSlot i (r.set 0x1A 0) else cold s1

end Sys2Proof.Machine
end

