-- ==== Sys2Proof/Machine/Update.lean ====
section
/-! DEFINITION. Firmware and settings update (15): transfer and install (R345, R346), the service port (R347, R348), the
relay (R350), scheduling, activation, trial and fall-back (R351-R355), and the choice of images at boot (R356). -/

namespace Sys2Proof.Machine

/-! ### Kinds and images -/

/-- The two slots of a kind, and their change. -/
def Upd.kind (u : Upd) : Kind → KindSt
  | .arb => u.arb
  | .file => u.file
  | .set => u.set
def Upd.modKind (u : Upd) (k : Kind) (f : KindSt → KindSt) : Upd :=
  match k with
  | .arb => { u with arb := f u.arb }
  | .file => { u with file := f u.file }
  | .set => { u with set := f u.set }

/-- Index of a kind in UPD_ACTVER and TKINDS. -/
def kindIx : Kind → Fin 3
  | .arb => 0
  | .file => 1
  | .set => 2

/-- Every kind. -/
def kinds : List Kind := [.arb, .file, .set]

/-- KIND as a header codes it (R343). -/
def kindOf (n : Nat) : Option Kind := if n = 1 then some .arb else if n = 2 then some .file else if n = 3 then some .set else none

/-- A field of a header. -/
def hdrNum (h : List Byte) (o n : Nat) : Nat := ofLe ((h.drop o).take n)

/-- RANGES of a header for kind J: the lowest and the highest version (R343). -/
def hdrRange (h : List Byte) (j : Kind) : Nat × Nat :=
  (hdrNum h (0x0C + 8 * (kindIx j).val) 4, hdrNum h (0x10 + 8 * (kindIx j).val) 4)

/-- Longest body of a kind (R343). -/
def bodyMax : Kind → Nat
  | .arb => 262144
  | .file => 65536
  | .set => 2096896

/-- BAD_HEADER (R346). -/
def badHeader (h : List Byte) : Bool :=
  match kindOf (hdrNum h 3 1) with
  | none => true
  | some k => !(decide (hdrNum h 0 2 = 0x5049 ∧ hdrNum h 2 1 = 1 ∧ hdrNum h 8 4 ≠ 0 ∧ hdrRange h k = (0, 0) ∧ hdrNum h 0x2E 2 = 0
      ∧ hdrNum h 0x50 48 = 0) && (decide (k = .arb) || decide (hdrNum h 0x28 4 = 0)) && (decide (k ≠ .file) || decide (hdrNum h 0x2C 2 = 0)))

/-- The image checks of R346 from BAD_HEADER to TOO_LARGE, 0 when the header passes. A digest's byte i is bits 8i on. -/
def State.headerCode (s : State) (h : List Byte) : Nat :=
  let slot : Fin 2 := if hdrNum h 7 1 = 0 then 0 else 1
  let pk := (h.drop 0x80).take 64
  if badHeader h then 1
  else if (hdrNum h 4 2 ≠ 0 ∧ hdrNum h 4 2 ≠ s.part) ∨ glbStep < hdrNum h 6 1 then 2
  else if 1 < hdrNum h 7 1 then 3
  else match s.keyHash slot with
    | none => 3
    | some kh =>
      if kh = 0 then 3
      else if (s.otpWord 64).toNat / 256 ^ slot.val % 256 ≠ 0 then 4
      else if (Config.sha256 pk).toNat ≠ kh then 5
      else if !Config.ecdsaP256 (BitVec.ofNat 512 (ofLe pk)) (Config.sha256 (h.take 0xC0)) (BitVec.ofNat 512 (hdrNum h 0xC0 64)) then 6
      else if ((kindOf (hdrNum h 3 1)).map bodyMax).getD 0 < hdrNum h 0x24 4 then 8
      else 0

/-- BODYHASH fits a body (R343). -/
def bodyOk (h body : List Byte) : Bool := decide ((Config.sha256 body).toNat = hdrNum h 0x30 32)

/-- Two images of different kinds are compatible (R344). -/
def compatPair (j k : Kind) (a b : List Byte) : Bool :=
  let inR (x : List Byte) (q : Kind) (v : Nat) : Bool := decide ((hdrRange x q).1 ≤ v) && decide (v ≤ (hdrRange x q).2)
  inR a k (hdrNum b 8 4) && inR b j (hdrNum a 8 4)
    && (!(decide (j = .arb ∧ k = .set) || decide (j = .set ∧ k = .arb)) || decide (hdrNum a 0x2C 2 = hdrNum b 0x2C 2))

/-- The header h of kind j is compatible with a set of headers; a kind of which there is no image sets no condition. -/
def compatSet (j : Kind) (h : List Byte) (set : Kind → Option (List Byte)) : Bool :=
  kinds.all fun k => decide (k = j) || match set k with
    | some x => compatPair j k h x
    | none => true

/-- The image of each kind after an activation: the pending one if installed, else the active one (R344). -/
def Upd.after (u : Upd) (k : Kind) : Option (List Byte) :=
  let K := u.kind k
  ((K.img K.pend) <|> (K.img (K.alt <|> K.conf))).map fun m => m.hdr

/-- No flash device is usable (R340, R346 FLASH). -/
def Upd.noFlash (u : Upd) : Bool := !u.dev0 && !u.dev1

/-! ### The directory and the sectors of the slots (R341, R342) -/

/-- First sector of a slot or area (R341). -/
def slotBase (k : Kind) (i : Fin 2) : Nat :=
  match k with
  | .arb => 0x100 + 0x100 * i.val
  | .file => 0x300 + 0x80 * i.val
  | .set => 0x400 + 0x200 * i.val

/-- Sectors of an image in slot i of kind k: header and body. -/
def Img.secs (m : Img) (k : Kind) (i : Fin 2) : List FlashSec :=
  (List.range (ceilDiv (256 + min (hdrNum m.hdr 0x24 4) (bodyMax k)) 4096)).map fun n => .sector (slotBase k i + n)

/-- Sectors read when slot i of kind k is checked. -/
def Upd.secs (u : Upd) (k : Kind) (i : Fin 2) : List FlashSec := (((u.kind k).img (some i)).map fun m => m.secs k i).getD []

/-- Every sector of slot i of kind k can be read. -/
def Upd.readable (u : Upd) (k : Kind) (i : Fin 2) : Bool := (u.secs k i).all u.secOk

/-- What the state record says of the block as it stands. -/
def Upd.dirRec (u : Upd) : DirRec :=
  { conf := Vector.ofFn fun (i : Fin 3) => (u.kind (kinds.getD i.val .arb)).conf
    pend := Vector.ofFn fun (i : Fin 3) => (u.kind (kinds.getD i.val .arb)).pend
    trial := u.trial, tkinds := u.tkinds, sched := u.sched, schTime := u.schTime, schVer := u.schVer }

/-- The state record in force: of the copies that can be read the one with the higher sequence number (R341). -/
def Upd.recBest (u : Upd) : Option (Nat × DirRec × Fin 2) :=
  let one (j : Fin 2) : Option (Nat × DirRec × Fin 2) := if u.secOk (.record j) then u.recs[j].map fun x => (x.1, x.2, j) else none
  match one 0, one 1 with
  | some a, some b => if a.1 < b.1 then some b else some a
  | a, b => a <|> b

/-- The state record is written where what it says has changed: to the copy that is not in force (R341). -/
def Upd.keepRec (u : Upd) : Upd :=
  if u.noFlash then u
  else
    let put (n : Nat) (j : Fin 2) : Upd := { u with recs := u.recs.set j (some (n, u.dirRec)) }.wroteSecs [.record j]
    match u.recBest with
    | some (n, r, j) => if r = u.dirRec then u else put (n + 1) (1 - j)
    | none => put 1 0

/-- The state record is read, at a boot after power was lost (R359). -/
def Upd.readRec (u : Upd) : Upd :=
  let r := (u.recBest.map fun x => x.2.1).getD {}
  let put (K : KindSt) (i : Fin 3) : KindSt := { slots := K.slots, conf := r.conf[i], pend := r.pend[i] }
  { u.readSecs [.record 0, .record 1] with
    arb := put u.arb 0, file := put u.file 1, set := put u.set 2, trial := r.trial, tkinds := r.tkinds, sched := r.sched
    schTime := r.schTime, schVer := r.schVer, acttime := r.schTime, actver := r.schVer, recDue := false }

/-! ### Refusals and command ends (R346) -/

/-- Conditions 0x12, 0x13, 0x10, 0x11 in that order, 0 for none; `moving`: MOVING and LOW_ENERGY count too. -/
def State.updCond (s : State) (moving : Bool) : Nat :=
  if s.ownerLock then 0x12 else if s.recovering then 0x13
  else if moving && s.anyMoving then 0x10 else if moving && s.fed.lowE then 0x11 else 0

/-- The staged header. -/
def Upd.stagedHdr (u : Upd) : List Byte := Mem.reads 0xFF u.staging 0 256

/-- Refusal of BEGIN. -/
def State.beginCode (s : State) : Nat :=
  let u := s.upd
  let h := u.stagedHdr
  if s.updCond true ≠ 0 then s.updCond true
  else if u.trial then 0x14 else if u.sched then 0x15 else if u.xfer ≠ .idle then 0x16
  else if s.headerCode h ≠ 0 then s.headerCode h
  else match kindOf (hdrNum h 3 1) with
    | none => 1
    | some k => if !compatSet k h u.after then 7 else if u.noFlash then 0x0B else 0

/-- The staged body. -/
def Upd.stagedBody (u : Upd) : List Byte := Mem.reads 0xFF u.staging 256 u.xlen

/-- Refusal of END. -/
def State.endCode (s : State) : Nat :=
  let u := s.upd
  if s.updCond true ≠ 0 then s.updCond true
  else if u.trial then 0x14 else if u.sched then 0x15 else if u.xfer ≠ .receiving then 0x16
  else if !bodyOk u.stagedHdr u.stagedBody then 9 else if u.noFlash then 0x0B else 0

/-- UPD_CMD after a command byte. -/
def Upd.cst (u : Upd) (cst : Byte) : Upd := { u with cmd := { u.cmd with cst } }
def Upd.cmdEnd (u : Upd) (cst : Byte) : Upd := { u.cst cst with evt := setB u.evt 0 true }
def Upd.done (u : Upd) : Upd := u.cmdEnd 1
def Upd.refuse (u : Upd) (code : Nat) : Upd := { u.cmdEnd 2 with rsn := BitVec.ofNat 8 code }
def State.updByte (s : State) (cmd : Byte) : State := s.modUpd fun u => { u with cmd := { u.cmd with cmd } }

/-- Commands of UPD are taken while the registers can be reached (R371). -/
def State.updIf (s : State) (f : State → State) : State := if s.regsUp then f s else s

/-! ### Transfer -/

/-- Bytes of a chunk that lie in the range of the phase (R345). -/
def chunkBytes (m : Cells) (lo hi off : Nat) (data : List Byte) : Cells :=
  data.zipIdx.foldl (fun m x => if lo ≤ off + x.2 ∧ off + x.2 < hi then Mem.write 0xFF m (off + x.2) x.1 else m) m

/-- A chunk from a source: 0 host, 1 service port, 2 fabric (R345). -/
def Upd.putChunk (u : Upd) (src : Nat) (off : Nat) (data : List Byte) : Upd :=
  let lost := { u with chunkErr := satInc u.chunkErr, xsrc := BitVec.ofNat 2 src }
  if u.chunkBusy || decide (off % 4 ≠ 0) then lost
  else if u.xfer = .idle then
    { u with staging := chunkBytes u.staging 0 256 off data, chunkBusy := true, xsrc := BitVec.ofNat 2 src }
  else if u.xfer = .receiving then
    { u with staging := chunkBytes u.staging 256 (256 + u.xlen) off data, chunkBusy := true, xsrc := BitVec.ofNat 2 src }
  else lost

/-- R345: BEGIN. -/
def State.updBegin (s : State) : State :=
  s.updIf fun s =>
    let s1 := s.updByte 0x42
    if s.beginCode ≠ 0 then s1.modUpd fun u => u.refuse s.beginCode
    else s1.modUpd fun u => { u.done with xfer := .receiving, xkind := kindOf (hdrNum u.stagedHdr 3 1) }

/-- The slot END copies into (R345). -/
def KindSt.target (k : KindSt) : Fin 2 :=
  match k.conf with
  | some i => 1 - i
  | none => 0

/-- R345: END: the target is erased and the copy runs. -/
def State.updEnd (s : State) : State :=
  s.updIf fun s =>
    let s1 := s.updByte 0x45
    if s.endCode ≠ 0 then s1.modUpd fun u => u.refuse s.endCode
    else s1.modUpd fun u =>
      match u.xkind with
      | none => u.refuse 0x16
      | some k => (({ u.cst 3 with xfer := .ending } : Upd).modKind k fun K =>
          { K with slots := K.slots.set K.target none, pend := none, alt := if K.alt = some K.target then none else K.alt }).keepRec

/-- R345: the copy ends. A sector that verifies on no device makes END refused as FLASH (R346). `pal` says which Paltein image
the body of an arbiter or file image is (log 13). -/
def State.installDone (s : State) (ok : Bool) (pal : Option PImage) : State :=
  if s.upd.xfer = .ending ∧ s.inSave = false then
    s.modUpd fun u =>
      match u.xkind with
      | none => u
      | some k =>
        if !ok || u.noFlash then { u.refuse 0x0B with xfer := .receiving }
        else
          let im : Img := { hdr := u.stagedHdr, body := u.stagedBody, pal := if k = .set then none else pal }
          let i := (u.kind k).target
          let v := (((u.modKind k fun K => { K with slots := K.slots.set i (some im), pend := some i }).wroteSecs
            (im.secs k i)).keepRec).done
          { v with evt := setB v.evt 1 true, xfer := if u.ctl.getLsbD 2 then .kept else .installed }
  else s

/-- R345: ABORT. -/
def State.updAbort (s : State) : State :=
  s.updIf fun s => (s.updByte 0x41).modUpd fun u => { u.done with xfer := if u.ctl.getLsbD 2 then .kept else .erasing }

/-- UPD_CMD 0x5A: staging is erased; the command ends with the erase. -/
def State.updErase (s : State) : State :=
  s.updIf fun s => (s.updByte 0x5A).modUpd fun u => { u.cst 3 with xfer := .erasing }

/-- R345: the erase ends. -/
def State.stagingErased (s : State) : State :=
  if s.upd.xfer = .erasing ∨ s.upd.xfer = .installed then
    s.modUpd fun u =>
      let v := { u with staging := [], xfer := .idle, xkind := none }
      if u.cmd.cmd = 0x5A ∧ u.cmd.cst = 3 then v.done else v
  else s

/-- R345: a chunk's flash write ends. -/
def State.chunkWriteDone (s : State) : State := s.modUpd fun u => { u with chunkBusy := false }

/-- The host path: a chunk applied through UPD_CHUNK. -/
def State.hostChunk (s : State) (off : Word) (data : List Byte) : State :=
  s.updIf fun s => s.modUpd fun u =>
    ({ u with chunk := toVec 32 (leBytes 4 off.toNat ++ padTo 28 data) } : Upd).putChunk 0 off.toNat (padTo 28 data)

/-- The relay path: a chunk applied through UPD_RCHUNK (R349). -/
def State.relayChunk (s : State) (b : List Byte) : State :=
  s.modUpd fun u => ({ u with rchunk := toVec 16 b } : Upd).putChunk 2 (ofLe (b.take 4)) (padTo 12 (b.drop 4))

/-! ### Scheduling (R351) -/

/-- TRIALWIN in us. -/
def Upd.trialWin (u : Upd) : Nat := fld u.ctl 20 12 * 1000000

/-- The pending version of a kind a version vector names, or the kind is not named. -/
def Upd.named (u : Upd) (v : Vector Word 3) (k : Kind) : Bool :=
  decide (v[kindIx k] = 0) ||
    match (u.kind k).img (u.kind k).pend with
    | some m => decide (m.version = v[kindIx k].toNat) && !m.rejected
    | none => false

/-- Refusal of SCHEDULE with a time and versions; 0 for none. -/
def State.scheduleCode (s : State) (t : DWord) (v : Vector Word 3) : Nat :=
  let u := s.upd
  if s.updCond false ≠ 0 then s.updCond false
  else if u.trial then 0x14
  else if u.sched then (if u.schTime = t ∧ u.schVer = v then 0 else 0x15)
  else if kinds.any (fun k => decide (v[kindIx k] ≠ 0) && match u.after k with
      | some h => !compatSet k h u.after
      | none => false) then 7
  else if kinds.all (fun k => decide (v[kindIx k] = 0)) || kinds.any (fun k => !u.named v k) then 0x17
  else if t.toNat < s.fab.ftime.toNat + 100000 then 0x18
  else 0

/-- R351: an activation is scheduled or refused; the refusal's code, and the state. -/
def State.scheduleAt (s : State) (t : DWord) (v : Vector Word 3) : State :=
  let c := s.scheduleCode t v
  if c ≠ 0 then s.modUpd fun u => u.refuse c
  else s.modUpd fun u => ({ u.done with sched := true, schTime := t, schVer := v, acttime := t, actver := v } : Upd).keepRec

/-- SCHEDULE by any path with a time and versions; at the root with FAN = 1 UPD_ACT goes to every device (R351, R264). Its TAG
is not stated: free. -/
def State.scheduleCmd (s : State) (t : DWord) (v : Vector Word 3) : State :=
  let s1 := (s.updByte 0x53).scheduleAt t v
  if s.scheduleCode t v = 0 ∧ s.upd.sched = false ∧ s.upd.fan ∧ s.fab.root then
    let x := s.fab.frame 6 (Config.freeByte s.freeCtr) 0x3FFF
      (leBytes 8 t.toNat ++ v.toList.flatMap fun w => leBytes 4 w.toNat)
    { s1 with fab := (s1.fab.send .d0 x).send .d1 x, freeCtr := s.freeCtr + 1 }
  else s1

/-- SCHEDULE written to UPD_CMD. -/
def State.schedule (s : State) : State := s.updIf fun s => s.scheduleCmd s.upd.acttime s.upd.actver

/-- R351: CANCEL. -/
def State.cancel (s : State) : State :=
  s.updIf fun s => (s.updByte 0x43).modUpd fun u =>
    ({ u.done with sched := false, late := false, step := if u.step = .recheck then .none else u.step } : Upd).keepRec

/-- R264, R351: a UPD_ACT frame goes on to both children and, when the arbiter admits it, schedules. -/
def State.updActRx (s : State) (l : FLink) (x : FFrame) : State :=
  if l = .u ∧ s.fab.linkOn .u ∧ frameDst x = 0x3FFF then
    let s1 := if s.fab.own.isNone then s else s.modFab fun f => (f.send .d0 x).send .d1 x
    let s2 := s1.fabDeliver .u x
    if s2.fab.rxq[FLink.u.idx].length = s1.fab.rxq[FLink.u.idx].length then s2
    else s2.scheduleAt (BitVec.ofNat 64 (FFrameNum x 0 8)) (Vector.ofFn fun i => BitVec.ofNat 32 (FFrameNum x (8 + 4 * i.val) 4))
  else s

/-! ### Activation and fall-back (R352-R355) -/

/-- Quiet port (R353). -/
def State.quiet (s : State) (p : PortId) : Bool :=
  let P := s.port p
  !P.ct.moving && decide (P.ct.swap = .none) && decide (P.ct.hrseq = .none) && P.pd.rx.isNone && P.pd.tx.isNone
    && (s.premove p).isNone

/-- The activation or fall-back under way has ended (R352 step 5, R355). -/
def State.actDone (s : State) : State :=
  s.modUpd fun u => { u with
    step := .none, actPort := none, actFile := false, fallback := false
    evt := if u.fallback then setB u.evt 4 true else setB u.evt 2 true }

/-- R352 step 4: the restart of one core. -/
def State.actRestart (s : State) (p : PortId) : State :=
  (s.modUpd fun u => { u with
    toRestart := setB u.toRestart p.val false, passed := setB u.passed p.val false, actPort := some p }).restartFile p true true

/-- Ports whose file cores run: present and not held stopped (R5, R310). -/
def State.runs (s : State) (p : PortId) : Bool := s.present p && !s.rcv.fstop.getLsbD p.val

/-- A core held stopped since its turn was noted is restarted by RELEASE_CORE alone (R310). -/
def State.actDrop (s : State) : State :=
  s.modUpd fun u => { u with toRestart := u.toRestart &&& ~~~s.rcv.fstop, passed := u.passed &&& ~~~s.rcv.fstop }

/-- R353: the next core in turn whose port is quiet; those that are not are passed over; then a passed-over core that is
quiet; then ACTDONE when none is left. The tick takes it too, so that a core is taken as soon as it can be. -/
def State.actNext (s0 : State) : State :=
  if s0.upd.step ≠ .files ∨ s0.upd.actPort.isSome then s0
  else
    let s := s0.actDrop
    let turns := (List.finRange 8).filter fun p => s.upd.toRestart.getLsbD p.val
    let before := turns.takeWhile fun p => !s.quiet p
    let s1 := s.modUpd fun u => { u with
      passed := u.passed ||| maskOf 8 8 fun i => before.any fun p => decide (p.val = i)
      toRestart := u.toRestart &&& ~~~(maskOf 8 8 fun i => before.any fun p => decide (p.val = i)) }
    match turns.find? (fun p => s.quiet p) with
    | some p => s1.actRestart p
    | none =>
      if s1.upd.passed = 0 then s1.actDone
      else match (List.finRange 8).find? (fun p => s1.upd.passed.getLsbD p.val && s.quiet p) with
        | some p => s1.actRestart p
        | none => s1

/-- R353: a passed-over port has become quiet, or its 1,000 ms are over. -/
def State.quietRestart (s : State) (p : PortId) : State :=
  if s.upd.step = .files ∧ s.upd.actPort.isNone ∧ s.upd.passed.getLsbD p.val ∧ s.runs p then s.actRestart p else s

/-- The steps from step 2 on begin: the arbiter stops and restarts (R352 step 2). -/
def State.actBegin (s : State) (fileIn : Bool) : State :=
  (s.modUpd fun u => { u with step := .arbiter, actFile := fileIn, toRestart := 0, passed := 0, actPort := none }).restartArb

/-- R352 step 1: the named pending images become trial images. -/
def State.actRun (s : State) : State :=
  let u := s.upd
  (s.modUpd fun u => ({ u with
    sched := false, trial := true, late := false, evt := if u.late then setB u.evt 5 true else u.evt
    tkinds := maskOf 3 3 fun i => decide (u.schVer.toList.getD i 0 ≠ 0)
    trialEnd := s.fab.ftime + BitVec.ofNat 64 u.trialWin } : Upd).keepRec).actBegin (decide (u.schVer[1] ≠ 0))

/-- R352: the checks at ACTTIME and every 10 ms after it. -/
def State.actCheck (s : State) : State :=
  let u := s.upd
  if u.sched = false ∨ s.fab.ftime.toNat < u.schTime.toNat ∨ !s.regsUp ∨ (u.step ≠ .none ∧ u.step ≠ .recheck) then s
  else
    let c := s.updCond true
    if c = 0 then s.actRun
    else if u.schTime.toNat + 1000000 ≤ s.fab.ftime.toNat then
      s.modUpd fun u => ({ u.cst 4 with sched := false, step := .none, late := false, rsn := BitVec.ofNat 8 c, evt := setB u.evt 3 true } : Upd).keepRec
    else s.modUpd fun u => { u with step := .recheck }

/-- R355: the trial images are rejected, TRIAL clears, the cause is recorded. -/
def Upd.reject (u : Upd) (cause : Nat) : Upd :=
  let one (u : Upd) (k : Kind) : Upd :=
    if u.tkinds.getLsbD (kindIx k).val then u.modKind k fun K =>
      match K.pend with
      | some i => { K with slots := K.slots.set i (K.slots[i].map fun m => { m with rejected := true }), pend := none }
      | none => K
    else u
  ({ kinds.foldl one u with trial := false, tkinds := 0, fbcause := BitVec.ofNat 4 cause } : Upd).keepRec

/-- R355: a fall-back while the device runs: the activation steps with the confirmed set. -/
def State.fallBack (s : State) (cause : Nat) : State :=
  let fileIn := s.upd.tkinds.getLsbD 1
  (s.modUpd fun u => { u.reject cause with fallback := true }).actBegin fileIn

/-- R355: ROLLBACK. -/
def State.updRollback (s : State) : State :=
  s.updIf fun s =>
    let s1 := s.updByte 0x52
    if s.upd.trial then (s1.modUpd Upd.done).fallBack 2 else s1.modUpd fun u => u.cmdEnd 2

/-- R355: TRIALEND is reached without a confirmation. -/
def State.trialEnds (s : State) : State :=
  if s.upd.trial ∧ s.upd.trialEnd.toNat ≤ s.fab.ftime.toNat ∧ s.regsUp then s.fallBack 1 else s

/-- R354: the trial set is confirmed. -/
def Upd.confirmSet (u : Upd) : Upd :=
  let one (u : Upd) (k : Kind) : Upd :=
    if u.tkinds.getLsbD (kindIx k).val then u.modKind k fun K =>
      match K.pend with
      | some i => { slots := K.slots.set (1 - i) none, conf := some i, pend := none, alt := none }
      | none => K
    else u
  ({ kinds.foldl one u with trial := false, tkinds := 0 } : Upd).keepRec

/-- R354: a write to UPD_CONFIRM.CMD. -/
def State.confirmWrite (s : State) (v : Byte) : State :=
  s.updIf fun s =>
    s.modUpd fun u =>
      if v = 0xC0 ∧ u.trial ∧ s.fab.ftime.toNat < u.trialEnd.toNat then { u.confirmSet with confirm := { cmd := v, cst := 1 } }
      else { u with confirm := { cmd := v, cst := 2 } }

/-- A value of UPD_CMD.CMD that is no command is refused; no code of R346 applies. -/
def State.updUnknown (s : State) (v : Byte) : State := s.updIf fun s => (s.updByte v).modUpd fun u => u.cmdEnd 2

/-! ### Relay (R350) -/

/-- Number of body chunks of the staged image. -/
def Upd.bodyChunks (u : Upd) : Nat := ceilDiv u.xlen 12

/-- A tunnel write (R252 REG_TUNNEL). -/
def tunnelWrite (f : Fab) (tag : Byte) (dst addr : Nat) (data : List Byte) : FFrame :=
  f.frame 7 tag dst ([2, BitVec.ofNat 8 data.length] ++ leBytes 2 addr ++ [0, 0] ++ padTo 16 data)

/-- Frame n of a relay: header chunks, BEGIN, body chunks, END. -/
def Upd.relayFrame (u : Upd) (f : Fab) (n : Nat) : FFrame :=
  let dst := fld u.rdst 0 14
  let tag := Config.freeByte 0 + BitVec.ofNat 8 n
  let chunk (off : Nat) := tunnelWrite f tag dst 0x05D0 (leBytes 4 off ++ Mem.reads 0xFF u.staging off 12)
  if n < 22 then chunk (12 * n)
  else if n = 22 then tunnelWrite f tag dst 0x050B [0x42]
  else if n < 23 + u.bodyChunks then chunk (256 + 12 * (n - 23))
  else tunnelWrite f tag dst 0x050B [0x45]

/-- R350: RELAY. -/
def State.relay (s : State) : State :=
  s.updIf fun s =>
    let s1 := s.updByte 0x4C
    if !s.fab.root then s1.modUpd fun u => u.refuse 0x19 else s1.modUpd fun u => { u.cst 3 with relay := some 0 }

/-- R350: the next frame goes out; a broadcast relay ends with END. -/
def State.relaySend (s : State) : State :=
  match s.upd.relay with
  | none => s
  | some n =>
    let u := s.upd
    let last := 23 + u.bodyChunks
    if last < n ∨ s.inSave then s
    else
      let x := u.relayFrame s.fab n
      let bc := decide (fld u.rdst 0 14 = 0x3FFF)
      let s1 := s.modFab fun f => if bc then (f.send .d0 x).send .d1 x else f.send (route (fld u.rdst 0 14) 0) x
      if n = last ∧ bc then s1.modUpd fun u => { u.done with relay := none }
      else s1.modUpd fun u => { u with relay := some (n + 1) }

/-- A tunnel reply to a unicast relay: the first that is not DONE ends it, as does the reply to END. -/
def State.relayReply (s : State) (x : FFrame) : State :=
  match s.upd.relay with
  | none => s
  | some n =>
    if fld s.upd.rdst 0 14 ≠ fld x.src 0 14 then s
    else if FFrameNum x 4 1 ≠ 0 then s.modUpd fun u => { u.cmdEnd (BitVec.ofNat 8 (FFrameNum x 4 1)) with relay := none }
    else if 23 + s.upd.bodyChunks < n then s.modUpd fun u => { u.done with relay := none }
    else s

/-! ### Service port (R347, R348) -/

/-- SVCON follows SVCEN and SVC_DET. -/
def State.svcUpdate (s : State) : State := s.modUpd fun u => { u with svcOn := u.ctl.getLsbD 1 && s.pins.svcDet }

/-- UPD_CTL written: TRIALWIN and BAUDDIV outside their ranges and an arbiter's HLOCK are ignored. -/
def State.updCtlWrite (s : State) (w : Who) (v : Word) : State :=
  let c := s.upd.ctl
  let win := fld v 20 12
  let baud := fld v 12 8
  let v1 := setF c 20 12 (if 60 ≤ win ∧ win ≤ 3600 then win else fld c 20 12)
  let v2 := setF v1 12 8 (if 8 ≤ baud then baud else fld c 12 8)
  let v3 := setF v2 1 2 (fld v 1 2)
  (s.modUpd fun u => { u with ctl := if w = .arbiter then v3 else setF v3 0 1 (fld v 0 1) }).svcUpdate

/-- R347: SVC_DET has been high, or low, for 10 ms. -/
def State.svcDetect (s : State) (det : Bool) : State := (s.modPins fun n => { n with svcDet := det }).svcUpdate

/-- A response packet. -/
def svcResponse (typ : Nat) (seq : Byte) (payload : List Byte) : List Byte :=
  let b := [BitVec.ofNat 8 (typ + 128), seq] ++ leBytes 2 payload.length ++ payload
  [0x7E] ++ b ++ leBytes 4 (crc32 b).toNat

/-- ST and RSN from UPD_CMD as a command left it. -/
def Upd.svcStatus (u : Upd) : List Byte :=
  [if u.cmd.cst = 1 then 0 else if u.cmd.cst = 3 then 1 else 2, if u.cmd.cst = 2 then u.rsn else 0]

/-- A packet with a good CRC while the port is active: a repeated SEQ gets the previous response and is not carried out;
any other raises SVC on the arbiter, is carried out, and its response is sent when the event is admitted, or at once
where the boot ROM serves the port (R348, R357). -/
def State.svcPacket (s : State) (k : SvcPacket) (typ : Nat) (f : State → State × List Byte) : State :=
  if !s.upd.svcOn || !s.regsUp then s
  else
    match s.upd.svcLast with
    | some (q, b) => if q = k.seq then s.modUpd fun u => { u with svcTx := b } else run
    | none => run
where
  /-- the packet is carried out -/
  run : State :=
    let r := s.raiseNc arbiterId { cls := 0x27, arg := 0 }
    let x := f r.2
    let b := svcResponse typ k.seq x.2
    x.1.modUpd fun u => { u with svcLast := some (k.seq, b), svcTx := if r.1 = 0 ∨ s.phase = .service ∨ s.phase = .provision then b else u.svcTx }

/-- The response of an SVC event admitted at a re-offer. -/
def State.svcAnswer (s : State) : State :=
  s.modUpd fun u => { u with svcTx := (u.svcLast.map fun x => x.2).getD u.svcTx }

def State.svcHello (s : State) (k : SvcPacket) : State :=
  s.svcPacket k 1 fun s => (s, [0, 0] ++ leBytes 2 s.part ++ leBytes 1 glbStep ++ leBytes 4 s.updStatus
    ++ leBytes 4 s.upd.arb.active ++ leBytes 4 s.upd.file.active ++ leBytes 4 s.upd.set.active)

def State.svcWrite (s : State) (k : SvcPacket) : State :=
  s.svcPacket k 2 fun s =>
    let n := k.payload.length - 4
    if k.payload.length < 8 ∨ n % 4 ≠ 0 ∨ 1024 < n then (s, [2, s.upd.rsn])
    else
      let s1 := s.modUpd fun u => u.putChunk 1 (ofLe (k.payload.take 4)) (k.payload.drop 4)
      (s1, if s.upd.chunkBusy = false ∧ s1.upd.chunkBusy then [0, 0] else [2, s.upd.rsn])

def State.svcBegin (s : State) (k : SvcPacket) : State := s.svcPacket k 3 fun s => (s.updBegin, s.updBegin.upd.svcStatus)
def State.svcEnd (s : State) (k : SvcPacket) : State := s.svcPacket k 4 fun s => (s.updEnd, s.updEnd.upd.svcStatus)

def State.svcStatus (s : State) (k : SvcPacket) : State :=
  s.svcPacket k 5 fun s => (s, [0, 0] ++ leBytes 4 s.upd.xferWord ++ leBytes 4 s.updStatus)

def State.svcSchedule (s : State) (k : SvcPacket) : State :=
  s.svcPacket k 6 fun s =>
    if k.payload.length ≠ 20 then (s, [2, s.upd.rsn])
    else
      let s1 := s.scheduleCmd (BitVec.ofNat 64 (ofLe (k.payload.take 8)))
        (Vector.ofFn fun i => BitVec.ofNat 32 (ofLe ((k.payload.drop (8 + 4 * i.val)).take 4)))
      (s1, s1.upd.svcStatus)

def State.svcConfirm (s : State) (k : SvcPacket) : State :=
  s.svcPacket k 7 fun s =>
    let s1 := s.confirmWrite 0xC0
    (s1, if s1.upd.confirm.cst = 1 then [0, 0] else [2, s.upd.rsn])

def State.svcRollback (s : State) (k : SvcPacket) : State :=
  s.svcPacket k 8 fun s => (s.updRollback, if s.upd.trial then [0, 0] else [2, s.upd.rsn])

def State.svcAbort (s : State) (k : SvcPacket) : State := s.svcPacket k 9 fun s => (s.updAbort, [0, 0])

def State.svcBaud (s : State) (k : SvcPacket) : State :=
  s.svcPacket k 10 fun s =>
    let d := ofLe (k.payload.take 1)
    if k.payload.length = 1 ∧ 8 ≤ d then (s.modUpd fun u => { u with ctl := setF u.ctl 12 8 d }, [0, 0]) else (s, [2, s.upd.rsn])

/-! ### Choice of images at boot (R356) -/

/-- An image passes the checks of a boot: header, BODYHASH, not rejected. -/
def State.imgOk (s : State) (k : Kind) (m : Img) : Bool :=
  !m.rejected && decide (s.headerCode m.hdr = 0) && decide (kindOf (hdrNum m.hdr 3 1) = some k)
    && bodyOk m.hdr (m.body.take (hdrNum m.hdr 0x24 4))

/-- The slot a boot tries first for a kind: the trial one of a running trial, else the confirmed one. -/
def Upd.first (u : Upd) (k : Kind) : Option (Fin 2) :=
  if u.trial && u.tkinds.getLsbD (kindIx k).val then (u.kind k).pend else (u.kind k).conf

/-- The headers of the images the other kinds boot from. -/
def Upd.chosen (u : Upd) (k : Kind) : Option (List Byte) := ((u.kind k).img ((u.kind k).alt <|> u.first k)).map fun m => m.hdr

/-- What the boot finds for a kind: the first image is good, a trial image fails, another slot's image takes its place,
or no image is usable. -/
inductive BootPick where
  | good (i : Fin 2)
  | trialFails
  | alternate (i : Fin 2)
  | nothing
  deriving DecidableEq, Repr

/-- Slot i of a kind can be read and passes the checks of a boot (R342, R356). -/
def State.slotOk (s : State) (k : Kind) (i : Fin 2) : Bool :=
  match (s.upd.kind k).img (some i) with
  | some m => s.upd.readable k i && s.imgOk k m
  | none => false

/-- Slot i of a kind can stand in for a confirmed image that fails. -/
def State.slotAlt (s : State) (k : Kind) (i : Fin 2) : Bool :=
  s.slotOk k i && match (s.upd.kind k).img (some i) with
    | some m => compatSet k m.hdr s.upd.chosen
    | none => false

/-- R356 for one kind. -/
def State.pick (s : State) (k : Kind) : BootPick :=
  match s.upd.first k with
  | some i =>
    if s.slotOk k i then .good i
    else if s.upd.trial && s.upd.tkinds.getLsbD (kindIx k).val then .trialFails
    else if s.slotAlt k (1 - i) then .alternate (1 - i) else .nothing
  | none => if s.slotAlt k 0 then .alternate 0 else if s.slotAlt k 1 then .alternate 1 else .nothing

/-- R355 at a boot: the trial set falls back; the boot itself goes on with the confirmed set. -/
def State.bootFallBack (s : State) (cause : Nat) : State :=
  s.modUpd fun u => { u.reject cause with evt := setB u.evt 4 true }

/-- The sectors that the choice for a kind reads are checked, and repaired from the mirror (R342). -/
def State.bootRead (s : State) (k : Kind) : State :=
  s.modUpd fun u =>
    match s.pick k, u.first k with
    | .good i, _ => u.readSecs (u.secs k i)
    | .trialFails, some i => u.readSecs (u.secs k i)
    | .alternate i, some j => u.readSecs (u.secs k j ++ u.secs k i)
    | .alternate i, none => u.readSecs (u.secs k i)
    | .nothing, _ => u.readSecs (u.secs k 0 ++ u.secs k 1)
    | .trialFails, none => u

/-- R356 for one kind, with what it changes: none when no image is usable. -/
def State.bootPick (s0 : State) (k : Kind) : Option State :=
  let s := s0.bootRead k
  let go (s : State) : Option State :=
    match s.pick k with
    | .good _ => some (s.modUpd fun u => u.modKind k fun K => { K with alt := none })
    | .alternate i => some (s.modUpd fun u =>
        { u.modKind k fun K => { K with alt := some i } with boot := .alternate, evt := setB u.evt 6 true })
    | .trialFails | .nothing => none
  if s.pick k = .trialFails then go ((s.bootFallBack 4).bootRead k) else go s

/-- The slot and the image a kind boots from. -/
def Upd.bootSlot (u : Upd) (k : Kind) : Option (Fin 2) := (u.kind k).alt <|> u.first k
def Upd.booted (u : Upd) (k : Kind) : Option Img := (u.kind k).img (u.bootSlot k)

/-- The Paltein image in the slot that a kind boots from (R343; log 13). -/
def Upd.pal (u : Upd) (k : Kind) : PImage := ((u.booted k).bind Img.pal).getD PImage.absent

/-- The sectors of the slot that a kind boots from have been read, with what the read found (R342): they are repaired from the
mirror where one device alone fails. -/
def Upd.slotRead (u : Upd) (k : Kind) (r : FlashRead) : Upd :=
  let v := u.found r.bad0 r.bad1
  match v.bootSlot k with
  | some i => v.readSecs (v.secs k i)
  | none => v

/-- The slot a kind boots from can be read. -/
def Upd.bootable (u : Upd) (k : Kind) : Bool :=
  match u.bootSlot k with
  | some i => u.readable k i
  | none => false

end Sys2Proof.Machine
end

