-- ==== Sys2Proof/Machine/Position.lean ====
section
/-! DEFINITION. The position (R316-R322): its image as of one us, and the POS commands. -/

namespace Sys2Proof.Machine

/-- Bytes lo to hi - 1 of the register space as a read shows them. -/
def State.peeks (s : State) (lo hi : Nat) : List Byte := (List.range (hi - lo)).map fun i => s.peek (lo + i)

/-- Section 0x01: register images (R320). -/
def State.posRegs (s : State) : List Byte :=
  s.peeks 0x0000 0x0300 ++ s.peeks 0x0300 0x03C0 ++ s.peeks 0x0400 0x0700 ++ s.peeks 0x0700 0x0780 ++ s.peeks 0x0800 0x0900
    ++ s.peeks 0x0900 0x09C0 ++ s.peeks 0x0A00 0x0AA0 ++ s.peeks 0x0B00 0x0BE0

/-- Section 0x02 of one port (R320). -/
def State.posPort (s : State) (p : PortId) : List Byte :=
  let b := 0x1000 + 0x400 * p.val
  let r (lo hi : Nat) := s.peeks (b + lo) (b + hi)
  r 0x000 0x024 ++ r 0x080 0x0D0 ++ r 0x100 0x13C ++ r 0x180 0x1A4 ++ r 0x200 0x230 ++ r 0x280 0x2BC ++ r 0x300 0x33C
    ++ r 0x380 0x38C

/-- A queue record (R321); a slot under reception is no entry, so it shows as empty. -/
def State.posQueue (s : State) (p : PortId) (k : Fin 8) : List Byte :=
  let q := s.queue p k
  let slot (i : Nat) : List Byte :=
    match q.ents[i]? with
    | some e => e.bytes.take 8 ++ leBytes 4 e.time.toNat ++ leBytes 4 0
    | none => leBytes 16 0
  if !s.present p then leBytes 135 0 ++ [0]
  else leBytes 1 q.ents.length ++ [(q.ents.head?.map fun e => e.seq).getD 0, q.seq]
    ++ leBytes 1 (bitAt 0 ((s.port p).pd.ovf.getLsbD k.val)) ++ leBytes 4 0 ++ (List.range 8).flatMap slot

/-- A core record (R322); the stacks show their oldest entry first. A core that runs an unresolved premove shows as idle (R149). -/
def State.posCore (s : State) (c : CoreId) : List Byte :=
  let C := s.core c
  if !s.corePresent c then (List.range 384).map fun _ => 0
  else
    let hide := (C.run.map fun h => h.premove).getD false
    let busy := C.run.isSome && !hide
    let loops := if hide then [] else C.loops.reverse
    let ret := if hide then [] else C.ret.reverse
    leBytes 4 (if busy then C.pc.toNat else 0xFFFFFFFF)
      ++ leBytes 4 (if busy then (C.run.map fun h => h.steps).getD 0 else 0)
      ++ (List.finRange 16).flatMap (fun i => leBytes 4 (if hide then 0 else C.g[i].toNat))
      ++ padTo 32 (ret.flatMap fun a => leBytes 4 a.toNat) ++ leBytes 1 ret.length ++ leBytes 1 loops.length ++ leBytes 2 0
      ++ padTo 192 (loops.flatMap fun l => leBytes 2 l.first.toNat ++ leBytes 2 l.last.toNat ++ leBytes 2 l.left)
      ++ (List.finRange 8).flatMap (fun n => leBytes 4 ((C.timers[n].expiry).getD 0))
      ++ leBytes 1 ((List.finRange 8).foldl (fun a n => a + bitAt n.val C.timers[n].expiry.isSome) 0) ++ leBytes 3 0
      ++ (List.range 0x28).map (fun k => match C.awaits.find? fun x => decide (x.1 = k) with
          | some x => BitVec.ofNat 8 x.2
          | none => 0xFF)
      ++ leBytes 8 0

/-- A handler-table entry (R128). -/
def HEntry.bytes (e : HEntry) : List Byte :=
  leBytes 4 e.entry.toNat ++ [e.cls, e.flags, e.msop, e.mtype, e.mindo, 0] ++ leBytes 2 e.tmin.toNat ++ leBytes 4 e.deadline.toNat

/-- A handler table of 64 entries. -/
def tableBytes (im : Option LoadedImage) : List Byte :=
  padTo 1024 ((im.map fun i => (i.table.take 64).flatMap HEntry.bytes).getD [])

/-- Section 0x06: ledger transactions (R320); an entry that is not open shows 0. -/
def State.posTxe (s : State) : List Byte :=
  let one (i : Fin 8) : List Byte :=
    let e := s.fab.txe[i]
    if e.opn then leBytes 1 e.link.val ++ leBytes 1 e.pass.toNat ++ [1, 0] ++ [e.tag, 0] ++ leBytes 2 e.origin.toNat
      ++ leBytes 4 e.amt ++ leBytes 4 e.at'.toNat
    else leBytes 16 0
  padTo 256 ((List.finRange 8).flatMap one ++ leBytes 4 s.fab.tr)

/-- Section 0x08: AO state (R320). -/
def State.posAo (s : State) : List Byte :=
  let t (x : Option Word) : List Byte := leBytes 4 (x.getD 0).toNat
  padTo 256 (padTo 64 s.glb.mbxres.toList ++ padTo 64 (s.fed.slot0.take 64) ++ padTo 64 (s.fed.slot1.take 64)
    ++ (List.range 3).flatMap (fun i => t (s.rcv.arbTimes[i]?)) ++ t s.rcv.r3time)

/-- The sections in the order of R320 with their offsets and sizes. -/
def posDirectory : List (Nat × Nat) :=
  [(0x0080, 2688), (0x0B00, 3136), (0x1740, 8704), (0x3940, 3456), (0x46C0, 2048), (0x4EC0, 256), (0x4FC0, 1152), (0x5440, 256)]

/-- The position from 0x8040 on. -/
def State.posBody (s : State) : List Byte :=
  (posDirectory.zipIdx.flatMap fun x => [BitVec.ofNat 8 (x.2 + 1), 1] ++ leBytes 2 x.1.1 ++ leBytes 2 x.1.2 ++ leBytes 2 0)
    ++ padTo 2688 s.posRegs ++ padTo 3136 ((List.finRange 8).flatMap s.posPort)
    ++ padTo 8704 ((List.finRange 8).flatMap fun p => (List.finRange 8).flatMap fun k => s.posQueue p k)
    ++ padTo 3456 ((List.finRange 9).flatMap s.posCore) ++ tableBytes s.upd.fileImg ++ tableBytes (s.core arbiterId).image
    ++ s.posTxe ++ ((List.finRange 9).flatMap fun c => s.flg.units[c].recordBytes) ++ s.posAo

/-- The header (R319). -/
def State.posHeader (s : State) (crc : Word) : List Byte :=
  padTo 0x3C (leBytes 2 0x5053 ++ [1, 8] ++ leBytes 4 s.pos.taken.toNat ++ leBytes 4 s.now.toNat ++ leBytes 4 21824
    ++ leBytes 8 s.fab.ftime.toNat ++ leBytes 2 s.part ++ leBytes 1 glbStep
    ++ leBytes 1 (bitAt 0 (decide (s.phase = .halt)) + bitAt 1 (!s.arbUp))) ++ leBytes 4 crc.toNat

/-- The whole position, with its CRC (R319). -/
def State.posImage (s : State) : List Byte :=
  let body := s.posBody
  s.posHeader (crc32 (s.posHeader 0 ++ body)) ++ body

/-- Every block is latched (R316). -/
def State.posLatch (s : State) : State := { s with pos := { s.pos with image := s.posImage, latchAt := none } }

/-- The latch at the end of the us it is due in, before the count moves on (R316). -/
def State.posTick (s : State) : State := if s.pos.latchAt = some s.now then s.posLatch else s

/-- POS_CMD 0x51 TAKE. -/
def State.posTake (s : State) : State :=
  if !s.regsUp then s
  else if s.pos.busy then { s with pos := { s.pos with cmd := { cmd := 0x51, cst := 2 } } }
  else { s with pos := { cmd := { cmd := 0x51, cst := 3 }, busy := true, taken := s.pos.taken + 1, latchAt := some (s.now + 1) } }

/-- POS_CMD 0x52 RELEASE. -/
def State.posRelease (s : State) : State :=
  if !s.regsUp then s else { s with pos := { cmd := { cmd := 0x52, cst := 1 }, lost := s.pos.lost, taken := s.pos.taken } }

/-- Another value of POS_CMD.CMD is refused. -/
def State.posUnknown (s : State) (v : Byte) : State := { s with pos := { s.pos with cmd := { cmd := v, cst := 2 } } }

/-- R316: the position is ready. An assembly whose latch us has not ended in the model is latched as the state stands. -/
def State.posReady (s : State) : State :=
  if !s.pos.busy then s
  else
    let s1 := if s.pos.latchAt.isSome then s.posLatch else s
    { s1 with pos := { s1.pos with cmd := { s1.pos.cmd with cst := 1 }, busy := false, ready := true } }

end Sys2Proof.Machine
end

