-- ==== Sys2Proof/Machine/Registers.lean ====
section
/-! DEFINITION. Writes of registers by any path (R15-R18, R91): the bytes of a register gather until its highest byte, and
then the register takes its value; commits of every block (R375, R377), the command mailbox (R378-R382), and reads that
clear (R17, R369). -/

namespace Sys2Proof.Machine

/-- A W1C register after a write (R17). -/
def w1c {w : Nat} (x : BitVec w) (v : Nat) : BitVec w := x &&& ~~~BitVec.ofNat w v

/-! ### Commits (R375, R377) -/

/-- BLOCK_COMMIT after a CMD value that is no command: RSN is BAD_COMMAND (R376). -/
def Commit.bad (c : Commit) (cmd : Byte) : Commit := { c with cmd, rsn := 0x20 }

/-- R362, HBS_COMMIT: SDATO in 10 to 100; modes come into force at the end of the transaction, which in this model is the
tick that applies it. -/
def State.hbsCommit (s : State) : State :=
  s.modHbs fun h =>
    if h.cfgS ≠ h.cfg ∧ (outside 10 100 (fld h.cfgS 8 8) = true) then { h with com := commitResult 1 }
    else
      let mode := h.cfgS.getLsbD 0
      let grp := h.cfgS.getLsbD 1
      { h with
        cfg := h.cfgS, com := commitResult 0, modeNow := mode, groupNow := grp
        evt := if mode ≠ h.modeNow ∨ grp ≠ h.groupNow then setB h.evt 4 true else h.evt }

/-- A COMMIT of a block. -/
def State.commitBlock (s : State) : Block → State
  | .tc p => s.tcCommit p
  | .pd p => s.pdCommit p
  | .pw p => s.pwCommit p
  | .sp p => s.spCommit p
  | .mn p => s.mnCommit p
  | .fed => s.fedCommit
  | .ldg => s.ldgCommit
  | .fab => s.fabCommit
  | .hbs => s.hbsCommit

/-- BLOCK_COMMIT of a block. -/
def State.blockCom (s : State) : Block → Commit
  | .tc p => (s.port p).tc.com
  | .pd p => (s.port p).ct.com
  | .pw p => (s.port p).pw.com
  | .sp p => (s.port p).sp.com
  | .mn p => (s.port p).mn.com
  | .fed => s.fed.com
  | .ldg => s.ldg.com
  | .fab => s.fab.com
  | .hbs => s.hbs.com

/-- BLOCK_COMMIT of a block changed. -/
def State.modCom (s : State) (b : Block) (f : Commit → Commit) : State :=
  match b with
  | .tc p => s.modTc p fun t => { t with com := f t.com }
  | .pd p => s.modCt p fun c => { c with com := f c.com }
  | .pw p => s.modPw p fun w => { w with com := f w.com }
  | .sp p => s.modSp p fun x => { x with com := f x.com }
  | .mn p => s.modMn p fun m => { m with com := f m.com }
  | .fed => s.modFed fun x => { x with com := f x.com }
  | .ldg => s.modLdg fun x => { x with com := f x.com }
  | .fab => s.modFab fun x => { x with com := f x.com }
  | .hbs => s.modHbs fun x => { x with com := f x.com }

/-- The staging copies of a block take the live values. -/
def State.unstage (s : State) : Block → State
  | .tc p => s.modTc p fun t => { t with ctlS := t.ctl, wetcfgS := t.wetcfg }
  | .pd p => s.modCt p fun c => { c with convS := c.conv, coniS := c.coni, concfgS := c.concfg, frsS := c.frs }
  | .pw p => s.modPw p fun w => { w with limS := w.lim, cfgS := w.cfg, pgwS := w.pgw }
  | .sp p => s.modSp p fun x => { x with vminS := x.vmin, vmaxS := x.vmax, cfgS := x.cfg, iclfsS := x.iclfs, rdropS := x.rdrop }
  | .mn p => s.modMn p fun m => { m with ctlS := m.ctl, cfgS := m.cfg, vlvlS := m.vlvl, ilvlS := m.ilvl, trkS := m.trk }
  | .fed => s.modFed fun f => { f with
      cfgS := f.cfg, f1 := { f.f1 with capS := f.f1.cap, ewS := f.f1.ew }, f2 := { f.f2 with capS := f.f2.cap, ewS := f.f2.ew }
      buscapS := f.buscap, shedcapS := f.shedcap, lcfgS := f.lcfg }
  | .ldg => s.modLdg fun l => { l with cfgS := l.cfg }
  | .fab => s.modFab fun f => { f with
      cfgS := f.cfg, timingS := f.timing, floorS := f.floor, rootcapS := f.rootcap, lcapS := f.lcap }
  | .hbs => s.modHbs fun h => { h with cfgS := h.cfg }

/-- The port of a block. -/
def blockPort : Block → Option PortId
  | .tc p | .pd p | .pw p | .sp p | .mn p => some p
  | .fed | .ldg | .fab | .hbs => none

/-- The block is on the part (R5). -/
def State.hasBlock (s : State) (b : Block) : Bool := ((blockPort b).map s.present).getD true

/-- R375: REVERT. -/
def State.revertBlock (s : State) (b : Block) : State :=
  if s.hasBlock b then (s.unstage b).modCom b Commit.reverted else s

/-- R375: a write of BLOCK_COMMIT. -/
def State.commitWrite (s : State) (b : Block) (cmd : Byte) : State :=
  if cmd = 0xC5 then s.commitBlock b else if cmd = 0x5C then s.revertBlock b else s.modCom b fun c => c.bad cmd

/-- Sub-blocks of a port in the order of GLB_GCSEL. -/
def subBlocks (p : PortId) : List Block := [.tc p, .pd p, .pw p, .sp p, .mn p]

/-- The bits of GLB_GCSEL with their blocks, in the order of R377. -/
def gcOrder : List (Nat × Block) :=
  (List.finRange 8).flatMap (fun p => (subBlocks p).zipIdx.map fun x => (5 * p.val + x.2, x.1))
    ++ [(40, .fed), (41, .ldg), (42, .fab), (43, .hbs)]

/-- One block of a group commit; the refused bits gather. -/
def State.groupOne (x : State × DWord) (b : Nat × Block) : State × DWord :=
  if x.1.hasBlock b.2 then
    let s := x.1.commitBlock b.2
    (s, if (s.blockCom b.2).ref then setB x.2 b.1 true else x.2)
  else x

/-- R377: 0xC5 applied to GLB_GCOMMIT. -/
def State.groupCommit (s : State) : State :=
  let chosen := gcOrder.filter fun b => s.glb.gcsel.getLsbD b.1
  let r := chosen.foldl State.groupOne (s, 0)
  let refused := (chosen.filter fun b => r.2.getLsbD b.1).length
  let cst : Byte := if refused = chosen.length then 2 else if refused = 0 then 1 else 4
  r.1.modGlb fun g => { g with gcom := { cmd := 0xC5, cst }, gcres := r.2, evt := setB g.evt 1 true }

/-- A write of GLB_GCOMMIT.CMD. -/
def State.gcomWrite (s : State) (cmd : Byte) : State :=
  if cmd = 0xC5 then s.groupCommit else s.modGlb fun g => { g with gcom := { cmd, cst := 2 } }

/-! ### The command mailbox (R378-R382) -/

/-- Port p is named by a PMASK. -/
def named (pmask : Byte) (p : PortId) : Bool := pmask.getLsbD p.val

/-- PRES of a port at issue (R380). -/
def State.presAtIssue (s : State) (pmask : Byte) (p : PortId) : Byte :=
  if !named pmask p then 0xF0 else if !s.present p then 0xF1 else 0xF2

/-- Byte of PRES and of DATA of port p in GLB_MBXRES. -/
def presIx (p : PortId) : Fin 36 := ⟨8 + p.val, by omega⟩
def mbxDataIx (p : PortId) : Fin 36 := ⟨16 + p.val, by omega⟩

/-- PRES of port p set. -/
def Glb.setPres (g : Glb) (p : PortId) (v : Byte) : Glb := { g with mbxres := g.mbxres.set (presIx p) v }

/-- ARG keeps the layout of a hardware command (R381). -/
def mbxArgOk (cmd : Byte) (arg : List Byte) : Bool :=
  let a0 := arg.headD 0
  (arg.drop 1).all (fun b => b == 0) &&
    (if cmd = 0x81 ∨ cmd = 0x83 then decide (a0.toNat < 32) else decide (a0 = 0))

/-- The selected sub-blocks committed on one port: the first refusal and the accepted bits. -/
def State.mbxCommitPort (s : State) (p : PortId) (arg : Byte) : State :=
  let r := (subBlocks p).zipIdx.foldl (fun (x : State × Byte × Byte) b =>
    if arg.getLsbD b.2 then
      let s := x.1.commitBlock b.1
      let c := s.blockCom b.1
      (s, if c.ref ∧ x.2.1 = 0 then c.rsn.setWidth 8 else x.2.1, if c.ref then x.2.2 else setB x.2.2 b.2 true)
    else x) (s, (0 : Byte), (0 : Byte))
  r.1.modGlb fun g => let g1 := g.setPres p r.2.1; { g1 with mbxres := g1.mbxres.set (mbxDataIx p) r.2.2 }

/-- A hardware command on one port (R381). -/
def State.mbxPort (cmd arg : Byte) (s : State) (p : PortId) : State :=
  if cmd = 0x80 then ((s.gateWrite p 0).2).modGlb fun g => g.setPres p 0
  else if cmd = 0x81 then s.mbxCommitPort p arg
  else if cmd = 0x82 then (s.ecmdClear p).modGlb fun g => g.setPres p 0
  else ((subBlocks p).zipIdx.foldl (fun s b => if arg.getLsbD b.2 then s.revertBlock b.1 else s) s).modGlb fun g => g.setPres p 0

/-- The final ST of a hardware command (R380). -/
def Glb.mbxSum (g : Glb) (ps : List PortId) : Byte :=
  let ok := (ps.filter fun p => g.mbxres[presIx p] = 0).length
  if ok = ps.length then 1 else if ok = 0 then 2 else 4

/-- A hardware command runs (R381). -/
def State.mbxRun (s : State) (cmd pmask : Byte) (arg : List Byte) : State :=
  if !mbxArgOk cmd arg then s.modGlb fun g => g.mbxFinal 2 0x41
  else
    let ps := (List.finRange 8).filter fun p => named pmask p && s.present p
    (ps.foldl (State.mbxPort cmd (arg.headD 0)) s).modGlb fun g => g.mbxFinal (g.mbxSum ps) 0

/-- R378 step 2: the command of the page is taken. -/
def State.mbxTake (s : State) (seq : Byte) : State :=
  let pg := s.glb.mbxcmd
  let cmd := pg[0]
  let pmask := pg[1]
  let hw := decide (0x80 ≤ cmd.toNat ∧ cmd.toNat ≤ 0x83)
  let head : List Byte := [seq, cmd, 3, 0, pmask, if hw then 3 else 1, 0, 0]
  let s1 := s.modGlb fun g => { g with mbxres := toVec 36 (head ++ (List.finRange 8).map (s.presAtIssue pmask)) }
  if hw then s1.mbxRun cmd pmask ((pg.toList.drop 4).take 24)
  else if cmd = 0 ∨ 0x7F < cmd.toNat then s1.modGlb fun g => g.mbxFinal 2 0x40
  else
    let r := s1.raiseNc arbiterId { cls := 0x20, arg := seq.setWidth 32, seq }
    if r.1 = 0 then r.2 else r.2.modGlb fun g => g.mbxFinal 2 (BitVec.ofNat 8 r.1)

/-- R378: SEQ is applied. While a command runs the page is frozen. -/
def State.mbxIssue (s : State) (seq : Byte) : State :=
  if s.glb.mbxSt = 3 then s
  else
    let s1 := s.modGlb fun g => { g with mbxcmd := g.mbxcmd.set 31 seq }
    if s1.glb.mbxValid ∧ s1.glb.mbxres[0] = seq then s1.modGlb fun g => { g with evt := setB g.evt 2 true } else s1.mbxTake seq

/-- The whole page written and issued: the rows of the hardware commands. -/
def State.mbxWhole (s : State) (cmd pmask arg seq : Byte) : State :=
  if s.glb.mbxSt = 3 then s
  else (s.modGlb fun g => { g with mbxcmd := toVec 32 [cmd, pmask, 0, 0, arg] }).mbxIssue seq

/-- A byte of the command page. -/
def State.mbxCmdByte (s : State) (i : Nat) (b : Byte) : State :=
  if s.glb.mbxSt = 3 then s
  else if i = 31 then s.mbxIssue b
  else s.modGlb fun g => { g with mbxcmd := g.mbxcmd.setIfInBounds i b }

/-- An arbiter store into GLB_MBXRES: ST, RSN, PRES and DATA of a running firmware command (R379, R382). -/
def State.mbxResByte (s : State) (i : Nat) (b : Byte) : State :=
  if s.glb.mbxSt ≠ 3 ∨ s.glb.mbxHw then s
  else if i = 2 then
    (if b = 1 ∨ b = 2 ∨ b = 4 ∨ b = 5 then s.modGlb fun g => g.mbxFinal b g.mbxres[3] else s)
  else if i = 3 ∨ 8 ≤ i then s.modGlb fun g => { g with mbxres := g.mbxres.setIfInBounds i b }
  else s

/-! ### Register values: port blocks -/

/-- A write of Pn_PW_CTL: PGSEL, PWRCLS and RSNS (class F), then PEN; every write of 0 to PEN fires the generators (R188). -/
def State.pwCtlWrite (s : State) (p : PortId) (w : Who) (v : Nat) : State :=
  let x := BitVec.ofNat 16 v
  let runs := decide ((s.port p).pw.mode ≠ .off)
  let cls := x.getLsbD 3
  let s1 := s.modPw p fun q =>
    let c := setB q.ctl 1 (x.getLsbD 1)
    { q with ctl := if runs ∨ (cls = true ∧ s.epren = false) then c else setB c 3 cls }
  let s2 := if runs ∨ fld x 8 8 = (s1.port p).pw.rsns then s1 else s1.rsnsWrite p (BitVec.ofNat 8 (fld x 8 8))
  s2.penWrite p w (x.getLsbD 0)

/-- A write of Pn_PD_CMD. -/
def State.pdCmdWrite (s : State) (p : PortId) (cmd : Byte) : State :=
  if cmd = 0x48 then s.sendHr p else if cmd = 0x43 then s.sendCr p else if cmd = 0x42 then s.bistCarrier p
  else if cmd = 0x54 then s.bistTestData p else if cmd = 0x45 then s.amsEnd p else if cmd = 0x44 then s.hrDoneCmd p
  else s.pdCmd p cmd 2

/-- A write of Pn_PD_ROLE. -/
def State.roleWrite (s : State) (p : PortId) (cmd : Byte) : State :=
  if cmd = 0x50 then s.prsBegin p else if cmd = 0x54 then s.term p (s.port p).pw.vbPin else if cmd = 0x45 then s.swapEnd p
  else if cmd = 0x52 then s.errrecCmd p else s.rcmdSet p cmd false

/-- A register of the Type-C or PD block takes a value; `hi` is its highest byte, the CMD of a 16-bit command register. -/
def State.linkRegWrite (s : State) (p : PortId) (off v : Nat) (hi : Byte) : State :=
  match off with
  | 0x00 => s.modTc p fun t => { t with ctlS := fields 16 0x7FF3 v }
  | 0x02 => s.commitWrite (.tc p) hi
  | 0x08 => s.modTc p fun t => { t with evt := w1c t.evt v }
  | 0x0A => s.modTc p fun t => { t with ien := fields 16 0x7FF v }
  | 0x0C => s.modTc p fun t => { t with wetcfgS := BitVec.ofNat 16 v }
  | 0x0E => if hi = 0x5A then s.wetNow p else if hi = 0xD7 then s.wetOverride p
            else s.modTc p fun t => { t with wetcmd := { cmd := hi, cst := 2 } }
  | 0x80 => s.modPd p fun d =>
      let rev := v % 4
      { d with ctl := fields 16 0xF0 v ||| BitVec.ofNat 16 (if rev = 1 ∨ rev = 2 then rev else fld d.ctl 0 2) }
  | 0x82 => s.pdCmdWrite p hi
  | 0x88 => s.modPd p fun d => { d with evt := w1c d.evt v }
  | 0x8A => s.modPd p fun d => { d with ien := fields 16 0x1FFF v }
  | 0xA0 => s.modCt p fun c => { c with convS := BitVec.ofNat 16 v }
  | 0xA2 => s.modCt p fun c => { c with coniS := BitVec.ofNat 16 v }
  | 0xA4 => s.modCt p fun c => { c with concfgS := fields 32 0x000FE700 v }
  | 0xA8 => s.commitWrite (.pd p) hi
  | 0xC0 => s.roleWrite p hi
  | 0xC8 => s.modCt p fun c => { c with frsS := (c.frsS &&& ~~~(0x0C80 : Half)) ||| fields 16 0x0C80 v }
  | 0xCC => s.modCt p fun c => { c with cevt := w1c c.cevt v }
  | 0xCE => s.modCt p fun c => { c with cien := fields 16 0xFF v }
  | _ => s

/-- A register of the power-path or set-point block takes a value. -/
def State.powerRegWrite (s : State) (w : Who) (p : PortId) (off v : Nat) (hi : Byte) : State :=
  match off with
  | 0x100 => s.pwCtlWrite p w v
  | 0x104 => s.modPw p fun x => { x with limS := BitVec.ofNat 32 v }
  | 0x108 => s.modPw p fun x => { x with cfgS := fields 32 0xFFFFFFF0 v }
  | 0x10C => s.modPw p fun x => { x with pgwS := fields 16 0xFF v }
  | 0x110 => s.commitWrite (.pw p) hi
  | 0x118 => s.modPw p fun x => { x with evt := w1c x.evt v }
  | 0x11A => s.modPw p fun x => { x with ien := fields 16 0x7FF v }
  | 0x180 => s.modSp p fun x => { x with vminS := BitVec.ofNat 16 v }
  | 0x182 => s.modSp p fun x => { x with vmaxS := BitVec.ofNat 16 v }
  | 0x184 => s.modSp p fun x => { x with cfgS := fields 32 0xFFFFFFCB v }
  | 0x188 => s.modSp p fun x => { x with iclfsS := BitVec.ofNat 16 v }
  | 0x18A => s.modSp p fun x => { x with rdropS := BitVec.ofNat 16 v }
  | 0x18C => s.commitWrite (.sp p) hi
  | 0x1A0 => s.modSp p fun x => { x with evt := w1c x.evt v }
  | 0x1A2 => s.modSp p fun x => { x with ien := fields 16 0xF v }
  | _ => s

/-- A register of the monitor, measurement, core or queue-control block takes a value. -/
def State.watchRegWrite (s : State) (p : PortId) (off v : Nat) (hi : Byte) : State :=
  match off with
  | 0x200 => s.modMn p fun m => { m with ctlS := BitVec.ofNat 32 v }
  | 0x204 => s.modMn p fun m => { m with cfgS := fields 16 0x0F06 v }
  | 0x208 => s.modMn p fun m => { m with vlvlS := BitVec.ofNat 32 v }
  | 0x20C => s.modMn p fun m => { m with ilvlS := BitVec.ofNat 32 v }
  | 0x210 => s.modMn p fun m => { m with trkS := fields 32 0x00FFFFFF v }
  | 0x214 => s.commitWrite (.mn p) hi
  | 0x21C => s.modMn p fun m => { m with rawl := w1c m.rawl (v >>> 8), svl := w1c m.svl v }
  | 0x228 => s.modMn p fun m => { m with evt := w1c m.evt v }
  | 0x22A => s.modMn p fun m => { m with ien := fields 16 0x7F v }
  | 0x22C => if hi = 0x5E then s.stest p
            else s.modMn p fun m => { m with st := { cmd := hi, cst := if m.testing then m.st.cst else 2 } }
  | 0x2B0 => if hi = 0xE0 then s.ecmdClear p else s.modMs p fun m => { m with ecmd := { cmd := hi, cst := 2 } }
  | 0x304 => s.modCore (fileCore p) fun C => { C with cr := { C.cr with evt := w1c C.cr.evt v } }
  | 0x306 => s.modCore (fileCore p) fun C => { C with cr := { C.cr with ien := fields 16 0x3F v } }
  | 0x380 => s.modPd p fun d =>
      let src := v / 4 % 4
      { d with qsctl := fields 16 1 v ||| BitVec.ofNat 16 ((if src = 3 then fld d.qsctl 2 2 else src) * 4) }
  | 0x388 => s.modPd p fun d => { d with ovf := w1c d.ovf v }
  | _ => s

/-- A register of a port block (R20). -/
def State.portRegWrite (s : State) (w : Who) (p : PortId) (off v : Nat) (hi : Byte) : State :=
  if off < 0x100 then s.linkRegWrite p off v hi
  else if off < 0x200 then s.powerRegWrite w p off v hi
  else s.watchRegWrite p off v hi

/-- A register of a queue window (R84). -/
def State.queueRegWrite (s : State) (p : PortId) (k : Fin 8) (off v : Nat) (hi : Byte) : State :=
  match off with
  | 0x28 => if hi = 1 then s.qPush p k else if hi = 2 then s.qPop p k else if hi = 3 then s.qClrOvf p k else s.qCmd p k hi 6
  | 0x2A => s.modQ p k fun q => { q with sel := BitVec.ofNat 8 v, expseq := BitVec.ofNat 8 (v >>> 8) }
  | _ => s

/-! ### Register values: device blocks -/

/-- GLB, HBS and TMB. -/
def State.busRegWrite (s : State) (a v : Nat) (hi : Byte) : State :=
  match a with
  | 0x14 => s.modGlb fun g => { g with irqctl := fields 16 1 v }
  | 0x20 => s.modGlb fun g => { g with evt := w1c g.evt v }
  | 0x22 => s.modGlb fun g => { g with ien := fields 16 7 v }
  | 0x28 => s.modGlb fun g => { g with gcsel := fields 64 0xFFFFFFFFFFF v }
  | 0x30 => s.gcomWrite hi
  | 0x100 => s.modHbs fun h => { h with cfgS := fields 16 0xFF03 v }
  | 0x104 => s.commitWrite .hbs hi
  | 0x108 => s.modHbs fun h => { h with page := fields 16 0x1FF v }
  | 0x114 => s.modHbs fun h => { h with evt := w1c h.evt v }
  | 0x116 => s.modHbs fun h => { h with ien := fields 16 0x1F v }
  | 0x200 => s.modTmb fun t => { t with cfg := fields 16 1 v }
  | 0x21C => s.modTmb fun t => { t with evt := w1c t.evt v }
  | 0x21E => s.modTmb fun t => { t with ien := fields 16 0xF v }
  | _ => s

/-- The registers of FLG above the units. -/
def State.flgRegWrite (s : State) (a v : Nat) (hi : Byte) : State :=
  match a with
  | 0x390 => s.modFlg fun F => { F with evt := w1c F.evt v }
  | 0x394 => s.modFlg fun F => { F with ien := fields 32 0x01FF01FF v }
  | 0x398 => if outside 1 100 (v % 128) then s else s.modFlg fun F => { F with pulse := fields 16 0x7F v }
  | 0x39C =>
      let s1 := s.modFlg fun F => { F with unit := BitVec.ofNat 4 v }
      if hi = 0xF1 then s1.flagForce else s1.modFlg fun F => { F with cmd := { cmd := hi, cst := 2 } }
  | 0x3A4 => s.modFlg fun F => { F with rsel := fields 8 0xF1 v }
  | _ => s

/-- OTP. -/
def State.otpRegWrite (s : State) (a v : Nat) (hi : Byte) : State :=
  match a with
  | 0x400 => s.modOtp fun o => { o with waddr := BitVec.ofNat 9 v }
  | 0x404 => s.modOtp fun o => { o with data := BitVec.ofNat 32 v }
  | 0x40C => if hi = 0x52 then s.otpRead .readn 0x52 else if hi = 0x53 then s.otpRead .reads 0x53
             else if hi = 0x50 then s.otpBlow false else if hi = 0x4C then s.otpBlow true else s.otpUnknown hi
  | 0x410 => s.modOtp fun o => o.unlkWrite (BitVec.ofNat 16 v)
  | 0x414 => s.modOtp fun o => o.stickyWrite (BitVec.ofNat 16 v)
  | 0x424 => s.modOtp fun o => o.ovrWrite (BitVec.ofNat 16 v)
  | 0x42C => s.modOtp fun o => { o with evt := w1c o.evt v }
  | 0x42E => s.modOtp fun o => { o with ien := fields 16 0x1F v }
  | _ => s

/-- UPD_CMD. -/
def State.updCmdWrite (s : State) (cmd : Byte) : State :=
  if cmd = 0x42 then s.updBegin else if cmd = 0x45 then s.updEnd else if cmd = 0x41 then s.updAbort
  else if cmd = 0x5A then s.updErase else if cmd = 0x53 then s.schedule else if cmd = 0x43 then s.cancel
  else if cmd = 0x52 then s.updRollback else if cmd = 0x4C then s.relay else s.updUnknown cmd

/-- UPD. -/
def State.updRegWrite (s : State) (w : Who) (a v : Nat) (hi : Byte) : State :=
  match a with
  | 0x504 => s.updCtlWrite w (BitVec.ofNat 32 v)
  | 0x508 => (s.modUpd fun u => { u with fan := v.testBit 0 }).updCmdWrite hi
  | 0x50C => s.confirmWrite hi
  | 0x510 => s.modUpd fun u => { u with acttime := BitVec.ofNat 64 v }
  | 0x518 => s.modUpd fun u => { u with actver := u.actver.set 0 (BitVec.ofNat 32 v) }
  | 0x51C => s.modUpd fun u => { u with actver := u.actver.set 1 (BitVec.ofNat 32 v) }
  | 0x520 => s.modUpd fun u => { u with actver := u.actver.set 2 (BitVec.ofNat 32 v) }
  | 0x550 => s.modUpd fun u => { u with rdst := fields 16 0x3FFF v }
  | 0x558 => s.modUpd fun u => { u with evt := w1c u.evt v }
  | 0x55A => s.modUpd fun u => { u with ien := fields 16 0x7F v }
  | 0x5D0 => s.relayChunk (leBytes 16 v)
  | 0x5E0 => s.hostChunk (BitVec.ofNat 32 v) (leBytes 28 (v / 2 ^ 32))
  | _ => s

/-- REC_CMD with its ARG. -/
def State.recCmdWrite (s : State) (w : Who) (cmd arg : Byte) : State :=
  let s1 := s.modRec fun r => { r with arg }
  if cmd = 0x21 then s1.restartCoreCmd w else if cmd = 0x22 then s1.reinitPortCmd w
  else if cmd = 0x23 then s1.restartArbCmd w else if cmd = 0x24 then s1.releaseCoreCmd w
  else if cmd = 0x30 then s1.deviceResetCmd w else if cmd = 0x40 then s1.powerCycleCmd w
  else s1.recCmd cmd 2

/-- REC. -/
def State.recRegWrite (s : State) (w : Who) (a v : Nat) (hi : Byte) : State :=
  match a with
  | 0x600 => s.modRec fun r =>
      let wd := v / 256 % 256
      { r with cfg := fields 16 1 v ||| BitVec.ofNat 16 ((if outside 1 100 wd then fld r.cfg 8 8 else wd) * 256) }
  | 0x604 => s.recCmdWrite w hi (BitVec.ofNat 8 v)
  | 0x60C => s.modRec fun r => { r with cause := w1c r.cause v }
  | 0x610 => s.modRec fun r => { r with evt := w1c r.evt v }
  | 0x612 => s.modRec fun r => { r with ien := fields 16 0x3F v }
  | _ => s

/-- FED. -/
def State.fedRegWrite (s : State) (a v : Nat) (hi : Byte) : State :=
  match a with
  | 0x700 => s.modFed fun f => { f with cfgS := fields 32 0xFFFFFF07 v }
  | 0x704 => s.modFed fun f => { f with f1 := { f.f1 with capS := BitVec.ofNat 32 v } }
  | 0x708 => s.modFed fun f => { f with f2 := { f.f2 with capS := BitVec.ofNat 32 v } }
  | 0x70C => s.modFed fun f => { f with buscapS := BitVec.ofNat 32 v }
  | 0x710 => s.modFed fun f => { f with shedcapS := BitVec.ofNat 32 v }
  | 0x714 => s.modFed fun f => { f with f1 := { f.f1 with ewS := BitVec.ofNat 32 v } }
  | 0x718 => s.modFed fun f => { f with f2 := { f.f2 with ewS := BitVec.ofNat 32 v } }
  | 0x71C => s.modFed fun f => { f with lcfgS := BitVec.ofNat 32 v }
  | 0x720 => s.commitWrite .fed hi
  | 0x728 => s.modFed fun f => { f with evt := w1c f.evt v }
  | 0x72A => s.modFed fun f => { f with ien := fields 16 0x7FF v }
  | 0x768 => s.lcmdWrite hi
  | _ => s

/-- LDG and the thermistors (R241). -/
def State.ldgRegWrite (s : State) (a v : Nat) (hi : Byte) : State :=
  match a with
  | 0x800 => s.modLdg fun l => { l with cfgS := fields 16 0xFF03 v }
  | 0x804 => s.commitWrite .ldg hi
  | 0x808 => s.modLdg fun l => { l with prio := BitVec.ofNat 32 v }
  | 0x82C => s.modLdg fun l => { l with evt := w1c l.evt v }
  | 0x82E => s.modLdg fun l => { l with ien := fields 16 0xFF07 v }
  | 0x8C0 => s.modLdg fun l => { l with thst := w1c l.thst ((v >>> 64) % 65536 / 256 * 256) }
  | 0x8E0 => s.thermCfg 0 (BitVec.ofNat 32 v)
  | 0x8E8 => s.thermCfg 1 (BitVec.ofNat 32 v)
  | 0x8F0 => s.thermCfg 2 (BitVec.ofNat 32 v)
  | 0x8F8 => s.thermCfg 3 (BitVec.ofNat 32 v)
  | 0x8E4 => s.thermNtc 0 (BitVec.ofNat 32 v)
  | 0x8EC => s.thermNtc 1 (BitVec.ofNat 32 v)
  | 0x8F4 => s.thermNtc 2 (BitVec.ofNat 32 v)
  | 0x8FC => s.thermNtc 3 (BitVec.ofNat 32 v)
  | _ => s

/-- FAB_LCMD (R267). A value that is no command is refused with a code the spec does not name: a free value (log 1). -/
def State.leaseCmdWrite (s : State) (cmd : Byte) (v : Nat) : State :=
  let s1 := s.modFab fun f => { f with lentry := Fin.ofNat 8 (v / 256), llink := Fin.ofNat 2 v }
  if cmd = 0x11 then s1.leaseRsv false else if cmd = 0x12 then s1.leaseRsv true else if cmd = 0x13 then s1.leaseCommit
  else if cmd = 0x14 then s1.leaseRollback else if cmd = 0x15 then s1.ownGrant else if cmd = 0x16 then s1.leaseGiveBack
  else s1.freeByte.2.lcmdSet cmd s1.freeByte.1.toNat

/-- FAB. -/
def State.fabRegWrite (s : State) (a v : Nat) (hi : Byte) : State :=
  match a with
  | 0x900 => s.modFab fun f => { f with cfgS := fields 16 0xE007 v }
  | 0x904 => s.modFab fun f => { f with timingS := BitVec.ofNat 32 v }
  | 0x908 => s.modFab fun f => { f with floorS := BitVec.ofNat 32 v }
  | 0x90C => s.modFab fun f => { f with rootcapS := BitVec.ofNat 32 v }
  | 0x910 => s.modFab fun f => { f with lcapS := f.lcapS.set 0 (BitVec.ofNat 32 v) }
  | 0x914 => s.modFab fun f => { f with lcapS := f.lcapS.set 1 (BitVec.ofNat 32 v) }
  | 0x918 => s.commitWrite .fab hi
  | 0x950 => s.modFab fun f => { f with lamt := BitVec.ofNat 32 v }
  | 0x954 => s.modFab fun f => { f with lexp := BitVec.ofNat 64 v }
  | 0x95C => s.leaseCmdWrite hi v
  | 0x988 => s.ftset (BitVec.ofNat 64 v)
  | 0x990 => s.modFab fun f => { f with evt := w1c f.evt v }
  | 0x992 => s.modFab fun f => { f with ien := fields 16 0x3FF v }
  | 0x9A0 => s.modFab fun f => { f with tdst := fields 16 0x3FFF v }
  | 0x9A2 => s.modFab fun f => { f with topl := BitVec.ofNat 16 v }
  | 0x9A4 => s.modFab fun f => { f with taddr := BitVec.ofNat 16 v }
  | 0x9A6 => if hi = 0x54 then s.tunnelSend else s.modFab fun f => { f with tcmd := { cmd := hi, cst := 2 } }
  | 0x9A8 => s.modFab fun f => { f with ttag := BitVec.ofNat 8 v }
  | 0x9B0 => s.modFab fun f => { f with tdata := toVec 16 (leBytes 16 v) }
  | _ => s

/-- ADM, PMV and POS. -/
def State.admRegWrite (s : State) (a v : Nat) (hi : Byte) : State :=
  match a with
  | 0xA04 => s.modCore arbiterId fun C => { C with cr := { C.cr with evt := w1c C.cr.evt v } }
  | 0xA06 => s.modCore arbiterId fun C => { C with cr := { C.cr with ien := fields 16 0x3F v } }
  | 0xA84 => { s with hsel := fields 16 0xF03F v }
  | 0xB00 =>
    let m : Half := BitVec.ofNat 16 s.portMask
    { s with pmv := { s.pmv with ctl := (s.pmv.ctl &&& ~~~m) ||| (BitVec.ofNat 16 v &&& m) } }
  | 0xB0C => { s with pmv := { s.pmv with evt := w1c s.pmv.evt v } }
  | 0xB0E => { s with pmv := { s.pmv with ien := BitVec.ofNat 16 (v &&& (s.portMask * 257)) } }
  | 0xC00 => if hi = 0x51 then s.posTake else if hi = 0x52 then s.posRelease else s.posUnknown hi
  | _ => s

/-- A register of a device block takes a value. -/
def State.globalRegWrite (s : State) (w : Who) (a v : Nat) (hi : Byte) : State :=
  if a < 0x300 then s.busRegWrite a v hi
  else if h : a < 0x390 then s.unitRegWrite ⟨(a - 0x300) / 16, by omega⟩ (a % 16) v
  else if a < 0x400 then s.flgRegWrite a v hi
  else if a < 0x500 then s.otpRegWrite a v hi
  else if a < 0x600 then s.updRegWrite w a v hi
  else if a < 0x700 then s.recRegWrite w a v hi
  else if a < 0x800 then s.fedRegWrite a v hi
  else if a < 0x900 then s.ldgRegWrite a v hi
  else if a < 0xA00 then s.fabRegWrite a v hi
  else s.admRegWrite a v hi

/-- The register at base address a takes effect with a value whose highest byte is `hi` (R15, R17). -/
def State.regWrite (s : State) (w : Who) (a v : Nat) (hi : Byte) : State :=
  if a < 0x1000 then s.globalRegWrite w a v hi
  else if h : a < 0x3000 then s.portRegWrite w ⟨(a - 0x1000) / 0x400, by omega⟩ ((a - 0x1000) % 0x400) v hi
  else if h : a < 0x4000 then
    s.queueRegWrite ⟨(a - 0x3000) / 0x200, by omega⟩ ⟨(a - 0x3000) % 0x200 / 0x40, by omega⟩ (a % 0x40) v hi
  else s

/-! ### Bytes (R15) -/

/-- The register at base address a is W1C: bytes not written count as 0 in the write. -/
def isW1c (a : Nat) : Bool :=
  if a < 0x1000 then
    [0x20, 0x114, 0x21C, 0x390, 0x42C, 0x558, 0x60C, 0x610, 0x728, 0x82C, 0x8C0, 0x990, 0xA04, 0xB0C].contains a
  else decide (a < 0x3000) && [0x008, 0x088, 0x0CC, 0x118, 0x1A0, 0x21C, 0x228, 0x304, 0x388].contains ((a - 0x1000) % 0x400)

/-- A byte that belongs to no register wider than itself: mailbox page and result, push buffer, override buffer (the width
of its registers is not stated: each byte takes effect by itself, DESIGN CHOICE of log 119). none: it is a byte of a
register. -/
def State.putLone (s : State) (w : Who) (a : Nat) (b : Byte) : Option State :=
  if 0x40 ≤ a ∧ a < 0x60 then some (s.mbxCmdByte (a - 0x40) b)
  else if 0x60 ≤ a ∧ a < 0x84 then some (if w = .arbiter then s.mbxResByte (a - 0x60) b else s)
  else if h : 0x3000 ≤ a ∧ a < 0x4000 then
    let p : PortId := ⟨(a - 0x3000) / 0x200, by omega⟩
    if a % 0x40 < 0x28 then
      some (if a % 0x200 / 0x40 = 6 ∧ s.present p then s.modQ p 6 fun q => { q with buf := q.buf.setIfInBounds (a % 0x40) b }
            else s)
    else none
  else if h : 0x4400 ≤ a ∧ a < 0x4800 then
    some (s.modOtp fun o =>
      let i : Fin 256 := ⟨(a - 0x4400) / 4, by omega⟩
      { o with ovrBuf := o.ovrBuf.set i (setF o.ovrBuf[i] (8 * (a % 4)) 8 b.toNat) })
  else if 0x4000 ≤ a then some s
  else none

/-- A byte of a register: kept until the register's highest byte, which makes it take effect (R15). -/
def State.putReg (s : State) (w : Who) (a : Nat) (b : Byte) : State :=
  match s.regAt a with
  | none => s
  | some (base, size, cur) =>
    if a + 1 < base + size then s.modHbs fun h => { h with low := (h.low.filter fun x => decide (x.1 ≠ a)) ++ [(a, b)] }
    else
      let got (i : Nat) := (s.hbs.low.find? fun x => decide (x.1 = base + i)).map fun x => x.2
      let lows := (List.range (size - 1)).map fun i => (got i).getD (if isW1c base then 0 else byteOf cur i)
      (s.modHbs fun h => { h with low := h.low.filter fun x => decide (x.1 < base ∨ base + size ≤ x.1) }).regWrite w base
        (ofLe (lows ++ [b])) b

/-- A byte reaches an address of the register space. -/
def State.putByte (s : State) (w : Who) (a : Nat) (b : Byte) : State := (s.putLone w a b).getD (s.putReg w a b)

/-- A core's store of bytes from an address on, lowest first, GLB_MBXRES.ST last (R91, R379, R382). -/
def State.coreStore (s : State) (w : Who) (a : Nat) (bytes : List Byte) : State :=
  let l := bytes.zipIdx.map fun x => (a + x.2, x.1)
  let st := l.filter fun x => decide (x.1 = 0x62)
  ((l.filter fun x => decide (x.1 ≠ 0x62)) ++ st).foldl (fun s x => s.putByte w x.1 x.2) s

/-! ### Reads that clear (R17, R369) -/

/-- RC registers of a port block. -/
def State.rcPort (s : State) (p : PortId) (off : Nat) : State :=
  match off with
  | 0x022 => s.modTc p fun t => { t with wetcnt := 0 }
  | 0x090 => s.modPd p fun d => { d with nFail := 0, nRetry := 0, nDup := 0, nCrc := 0 }
  | 0x138 => s.modPw p fun x => { x with tripcnt := 0 }
  | 0x13A => s.modPw p fun x => { x with revcnt := 0 }
  | 0x308 => s.modCore (fileCore p) fun C => { C with cr := { C.cr with minrate := 0xFFFF } }
  | 0x38A => s.modPd p fun d => { d with rxdrop := 0 }
  | _ => s

/-- RC registers of the device blocks. -/
def State.rcGlobal (s : State) (a : Nat) : State :=
  match a with
  | 0x110 => s.modHbs fun h => { h with nSda := 0, nAck := 0, nFroz := 0, nScope := 0 }
  | 0x548 => s.modUpd fun u => { u with chunkErr := 0 }
  | 0x554 => s.modUpd fun u => { u with repairs := 0 }
  | 0x994 => s.modFab fun f => { f with nRenew := 0, nDrop := 0, nCrcD := 0, nCrcU := 0 }
  | 0xA08 => s.modCore arbiterId fun C => { C with cr := { C.cr with minrate := 0xFFFF } }
  | _ => s

/-- The RC fields of the register at base address a are cleared. -/
def State.rcClear (s : State) (a : Nat) : State :=
  if h : 0x300 ≤ a ∧ a < 0x390 then
    if a % 16 = 12 then s.modUnit ⟨(a - 0x300) / 16, by omega⟩ fun u => { u with nFall := 0, nDup := 0, nProxy := 0, nStray := 0 }
    else s
  else if h : 0xB40 ≤ a ∧ a < 0xBC0 then
    if a % 16 = 0 then s.modPmv ⟨(a - 0xB40) / 16, by omega⟩ fun r => { r with played := 0, taken := 0 } else s
  else if h : 0xBC0 ≤ a ∧ a < 0xBE0 then s.modPmv ⟨(a - 0xBC0) / 4, by omega⟩ fun r => { r with hwmEff := 0, hwmSto := 0 }
  else if a < 0x1000 then s.rcGlobal a
  else if h : a < 0x3000 then s.rcPort ⟨(a - 0x1000) / 0x400, by omega⟩ ((a - 0x1000) % 0x400)
  else s

/-- A core's load: the bytes of one instant, and the RC registers among them cleared (R91). -/
def State.coreLoad (s : State) (a n : Nat) : List Byte × State :=
  ((List.range n).map fun i => s.peek (a + i),
   (List.range n).foldl (fun t i => match s.regAt (a + i) with
     | some r => t.rcClear r.1
     | none => t) s)

end Sys2Proof.Machine
end

