-- ==== Sys2Proof/Machine/Loader.lean ====
section
/-! DEFINITION. The loader (R135-R140, R422): the checks of R139 in their order, step bounds, buffer bounds, occupancies and
the feasibility test. It works on the sections of an image as `PImage` holds them (log 13). -/

namespace Sys2Proof

open Machine

/-! ### Words and functions of an image -/

/-- Code word i; an absent word is undefined. -/
def PImage.word (im : PImage) (i : Nat) : Word := im.code.getD i 0

/-- Last word of a function. -/
def fnLast (f : Func) : Nat := f.entry + f.len - 1

/-- The words of a function. -/
def fnWords (f : Func) : List Nat := (List.range f.len).map fun i => f.entry + i

/-- Loop bodies in a list of words: first and last word. -/
def PImage.bodies (im : PImage) (ws : List Nat) : List (Nat × Nat) :=
  ws.filterMap fun i => if wOp (im.word i) = 0x2F then some (i + 1, i + wSub12 (im.word i)) else none

/-- Word i lies in a body. -/
def inBody (i : Nat) (b : Nat × Nat) : Bool := decide (b.1 ≤ i ∧ i ≤ b.2)

/-- The lowest valid slot whose entry function holds word i, 0xFF for none (the slot concerned of Pn_CR_LOAD). -/
def PImage.owner (im : PImage) (i : Nat) : Nat :=
  match im.funcs.find? fun f => decide (f.entry ≤ i ∧ i ≤ fnLast f) with
  | none => 0xFF
  | some f => ((im.slots.zipIdx.find? fun x => x.1.valid && decide (x.1.entry.toNat = f.entry)).map fun x => x.2).getD 0xFF

/-! ### FLOW (R103) and CALLS (R104) -/

/-- A function breaks R103. -/
def PImage.flowBad (im : PImage) (f : Func) : Bool :=
  let ws := fnWords f
  let hi := fnLast f
  let bs := im.bodies ws
  let lastOp := wOp (im.word hi)
  decide (f.len = 0 ∨ im.code.length ≤ hi)
    || (if f.handler then decide (lastOp ≠ 0x32 ∧ lastOp ≠ 0x33) else decide (lastOp ≠ 0x31))
    || ws.any fun i =>
        let w := im.word i
        let op := wOp w
        let t := i + wSub14 w
        (f.handler && decide (op = 0x31)) || (!f.handler && decide (op = 0x32 ∨ op = 0x33))
          || (decide (op = 0x2F) &&
              (decide (hi < i + wSub12 w) || bs.any (fun b => inBody i b && decide (b.2 < i + wSub12 w))
                || decide (4 ≤ (bs.filter fun b => inBody i b).length)))
          || (decide (op = 0x2E) && (decide (hi < t) || bs.any fun b => inBody t b && !inBody i b))

/-- Entries called in a function. -/
def PImage.calls (im : PImage) (f : Func) : List Nat :=
  (fnWords f).filterMap fun i => if wOp (im.word i) = 0x30 then some (wImm (im.word i)) else none

/-- The value a table gives an entry. -/
def tblAt (t : List (Nat × Nat)) (e : Nat) : Nat := ((t.find? fun x => decide (x.1 = e)).map fun x => x.2).getD 0

/-- A value of every function from those of the functions it calls, n levels deep. -/
def PImage.levels (im : PImage) (g : (Nat → Nat) → Func → Nat) : Nat → List (Nat × Nat)
  | 0 => im.funcs.map fun f => (f.entry, 0)
  | n + 1 => let t := im.levels g n; im.funcs.map fun f => (f.entry, g (tblAt t) f)

/-- Depth of the calls below a function. -/
def PImage.depths (im : PImage) : List (Nat × Nat) :=
  im.levels (fun d f => (im.calls f).foldl (fun a e => max a (1 + d e)) 0) 10

/-- A call breaks R104: target no callee's entry, or a path deeper than 8 (a cycle is). -/
def PImage.callsBad (im : PImage) : Bool :=
  im.funcs.any (fun f => (im.calls f).any fun e => !im.funcs.any fun g => decide (g.entry = e) && !g.handler)
    || im.depths.any fun x => decide (8 < x.2)

/-! ### SCOPE and TABLE -/

/-- AWAIT of a slot not declared for its class (R106). -/
def awaitBad (slots : List HEntry) (w : Word) : Bool :=
  decide (wOp w = 0x33) &&
    match slots[wN w]? with
    | some e => !e.valid || decide (e.cls.toNat ≠ fld w 6 6)
    | none => true

/-- Lowest word that satisfies a test. -/
def PImage.firstWord (im : PImage) (f : Word → Bool) : Option Nat :=
  (im.code.zipIdx.find? fun x => f x.1).map fun x => x.2

/-- A class that a core of this kind raises (R125). -/
def classOk (arb : Bool) (cls : Nat) : Bool := if arb then arbClass cls else fileClass cls

/-- Slot n breaks R128 or R129. -/
def PImage.slotBad (im : PImage) (arb : Bool) (n : Nat) (e : HEntry) : Bool :=
  let c := e.cls.toNat
  let frame := decide (c = 1 ∨ c = 2)
  let timer := isTimer c
  e.valid && (
    e.reserved || decide (16 ≤ e.flags.toNat) || !classOk arb c
      || !(im.funcs.any fun f => decide (f.entry = e.entry.toNat) && f.handler)
      || (if frame then decide (32 ≤ e.msop.toNat ∨ 32 ≤ e.mtype.toNat ∨ 7 < e.mindo.toNat)
          else decide (e.msop ≠ 0 ∨ e.mtype ≠ 0 ∨ e.mindo ≠ 0))
      || (if timer then decide (e.tmin = 0) else decide (e.tmin ≠ 0))
      || (if c = 1 then decide (e.deadline ≠ 0) else decide (e.deadline = 0 ∨ 10000000 < e.deadline.toNat))
      || (if timer then im.slots.any (fun x => x.valid && decide (x.cls = e.cls) && (x.crit != e.crit))
          else decide (c ≠ 0 ∧ c ≠ 13) && (e.crit == nonCritical c))
      || (e.dflt && (im.slots.take n).any fun x => x.valid && x.dflt && decide (x.cls = e.cls)))

/-! ### Longest paths (R135, R422) -/

/-- What a longest path counts: a word's own weight, the weights of a taken branch, an untaken one and a call, and a loop
of at most m iterations around a body of weight B. -/
structure Meter where
  word    : Nat → Word → Nat
  taken   : Nat
  untaken : Nat
  loop    : Nat → Nat → Nat

/-- End of the innermost body that holds word i, else the function's last word. -/
def innerEnd (bs : List (Nat × Nat)) (hi i : Nat) : Nat := bs.foldl (fun e b => if inBody i b then min e b.2 else e) hi

/-- Longest path from word i until it leaves the innermost body that holds it, or ends; `acc` has those of the words
after it. An early exit of a loop goes on at its target; the loop costs its full bound (R103). -/
def PImage.pathFrom (im : PImage) (M : Meter) (bs : List (Nat × Nat)) (hi : Nat) (callee : Nat → Nat) (i : Nat)
    (acc : List Nat) : Nat :=
  let w := im.word i
  let op := wOp w
  let e := innerEnd bs hi i
  let at' (t : Nat) : Nat := if e < t then 0 else acc.getD (t - i - 1) 0
  if op = 0x2E then
    let tk := M.taken + at' (i + wSub14 w)
    if wD w = 0 then tk else max tk (M.untaken + at' (i + 1))
  else if op = 0x2F then
    let last := i + wSub12 w
    let outs := ((List.range (wSub12 w)).map fun k => i + 1 + k).filterMap fun j =>
      if wOp (im.word j) = 0x2E ∧ last < j + wSub14 (im.word j) then some (at' (j + wSub14 (im.word j))) else none
    M.loop (wMax w) (acc.headD 0) + outs.foldl max (at' (last + 1))
  else if op = 0x31 ∨ op = 0x32 ∨ op = 0x33 then M.word i w
  else if op = 0x30 then M.word i w + callee (wImm w) + at' (i + 1)
  else M.word i w + at' (i + 1)

/-- Longest path through a function. -/
def PImage.funcPath (im : PImage) (M : Meter) (callee : Nat → Nat) (f : Func) : Nat :=
  let ws := fnWords f
  let bs := im.bodies ws
  (ws.foldr (fun i acc => im.pathFrom M bs (fnLast f) callee i acc :: acc) []).headD 0

/-- Steps (R96, R135). -/
def stepMeter : Meter :=
  { word := fun _ w => wordCost w false, taken := 2, untaken := 1, loop := fun m b => 1 + m * (b + 2) }

/-- Certified bounds of all functions. -/
def PImage.bounds (im : PImage) : List (Nat × Nat) := im.levels (im.funcPath stepMeter) 9

/-! ### Known register values (R422) -/

/-- What is known of g0 to g15 before a word. -/
abbrev Known := List (Option Nat)

def Known.get (k : Known) (r : Nat) : Option Nat := if r = 0 then some 0 else (k[r]?).join
def Known.put (k : Known) (r : Nat) (v : Option Nat) : Known := k.set r v
def Known.meet (a b : Known) : Known := List.zipWith (fun x y => if x = y then x else none) a b

/-- At a handler's first instruction every register is 0 (R86); at a callee's entry nothing is known. -/
def knownAt (handler : Bool) : Known := List.replicate 16 (if handler then some 0 else none)

/-- The value an immediate instruction gives a known register. -/
def immValue (w : Word) (a : Nat) : Nat :=
  let op := wOp w
  let x := BitVec.ofNat 32 a
  let u : Word := BitVec.ofNat 32 (wImm w)
  (if op = 0x18 then x + immS w else if op = 0x19 then x &&& u else if op = 0x1A then x ||| u else if op = 0x1B then x ^^^ u
   else if op = 0x1C then x <<< (wImm w % 32) else if op = 0x1D then x >>> (wImm w % 32)
   else x.sshiftRight (wImm w % 32)).toNat

/-- The instruction writes g[d]. -/
def writesD (w : Word) : Bool :=
  let op := wOp w
  decide ((0x01 ≤ op ∧ op ≤ 0x27) ∨ (0x2B ≤ op ∧ op ≤ 0x2D) ∨ (0x36 ≤ op))

/-- What is known after a word. -/
def Known.after (k : Known) (w : Word) : Known :=
  let op := wOp w
  if op = 0x30 then knownAt false
  else if op = 0x2F then k.put (wD w) none
  else if !writesD w then k
  else k.put (wD w) (if op = 0x1F then some (wImm w * 16384)
    else if 0x18 ≤ op ∧ op ≤ 0x1E then (k.get (wA w)).map (immValue w) else none)

/-- Where control goes from word i within its function, and what is known there: the next word, a branch target, the word
after a loop, and the first word of every body that ends before the word gone to (a further iteration, whose counter is
not known). -/
def PImage.flowsTo (im : PImage) (bs : List (Nat × Nat)) (i : Nat) (k : Known) : List (Nat × Known) :=
  let w := im.word i
  let op := wOp w
  let k1 := k.after w
  let again (t : Nat) : List (Nat × Known) := (bs.filter fun b => inBody i b && decide (b.2 + 1 = t)).map fun b =>
    (b.1, k1.put (wD (im.word (b.1 - 1))) none)
  if op = 0x2E then
    (i + wSub14 w, k1) :: (if wD w = 0 then [] else (i + 1, k1) :: again (i + 1))
  else if op = 0x31 ∨ op = 0x32 ∨ op = 0x33 then []
  else if op = 0x2F then (i + 1, k1) :: (i + 1 + wSub12 w, k1) :: again (i + 1 + wSub12 w)
  else (i + 1, k1) :: again (i + 1)

/-- One pass over a function: known values of each word from the words before it and from the further iterations of the
pass before; the flows of this pass. -/
def PImage.knownPass (im : PImage) (f : Func) (bs : List (Nat × Nat)) (back : List (Nat × Known)) :
    List (Nat × Option Known) × List (Nat × Known) :=
  (fnWords f).foldl (fun acc i =>
    let into := ((if i = f.entry then [knownAt f.handler] else []) ++
      ((acc.2.filter fun x => decide (x.1 = i)).map fun x => x.2) ++ ((back.filter fun x => decide (x.1 = i)).map fun x => x.2))
    let k : Option Known := match into with
      | [] => none
      | x :: t => some (t.foldl Known.meet x)
    (acc.1 ++ [(i, k)], match k with
      | none => acc.2
      | some y => acc.2 ++ im.flowsTo bs i y)) ([], [])

/-- Flows of a pass that lead backward: further iterations. -/
def backFlows (bs : List (Nat × Nat)) (fl : List (Nat × Known)) : List (Nat × Known) :=
  fl.filter fun x => bs.any fun b => decide (b.1 = x.1)

/-- The known values once a pass changes nothing more. -/
def PImage.knownFix (im : PImage) (f : Func) (bs : List (Nat × Nat)) :
    Nat → List (Nat × Known) → List (Nat × Option Known)
  | 0, back => (im.knownPass f bs back).1
  | n + 1, back =>
    let r := im.knownPass f bs back
    let b := backFlows bs r.2
    if b = back then r.1 else im.knownFix f bs n b

/-- Known values before each word of a function. -/
def PImage.known (im : PImage) (f : Func) : List (Nat × Option Known) :=
  let bs := im.bodies (fnWords f)
  im.knownFix f bs (16 * bs.length + 2) []

/-! ### Buffer entries of an EARLY slot (R117, R422) -/

/-- Where a store or copy of a file core goes. -/
inductive Target where
  | scratch | regs | mem | unknown
  deriving DecidableEq, Repr

/-- Target of an address. -/
def targetOf : Option Nat → Target
  | none => .unknown
  | some a =>
    if 0x3800 ≤ a ∧ a < 0x4000 then .scratch else if 0x100000 ≤ a ∧ a < 0x110000 then .regs else .mem

/-- Effect-buffer and store-buffer entries of a word. -/
def bufEntries (k : Known) (w : Word) : Nat × Nat :=
  let op := wOp w
  let base := k.get (wA w)
  if 0x28 ≤ op ∧ op ≤ 0x2A then
    match targetOf (base.map fun a => (BitVec.ofNat 32 a + immS w).toNat) with
    | .scratch => (0, 0)
    | .regs => (1, 0)
    | .mem => (0, 1)
    | .unknown => (1, 1)
  else if op = 0x38 ∨ op = 0x39 then (1, if targetOf base = .scratch then 0 else 10)
  else if (0x33 ≤ op ∧ op ≤ 0x35) ∨ op = 0x37 ∨ (0x3A ≤ op ∧ op ≤ 0x3C) ∨ 0x3E ≤ op then (1, 0)
  else (0, 0)

/-- Most entries of one kind on a path of each function. -/
def PImage.bufBounds (im : PImage) (sto : Bool) : List (Nat × Nat) :=
  im.levels (fun c f =>
    let kn := im.known f
    let at' (i : Nat) : Known := (((kn.find? fun x => decide (x.1 = i)).map fun x => x.2).join).getD (knownAt false)
    im.funcPath { word := fun i w => if sto then (bufEntries (at' i) w).2 else (bufEntries (at' i) w).1
                  taken := 0, untaken := 0, loop := fun m b => m * b } c f) 9

/-! ### Occupancy and deadline (R136, R137) -/

/-- j of R136 for every function: the largest NDO of a QPEEK with EVT, 7 with a QPOP of an RX queue. -/
def PImage.stallObjs (im : PImage) : List (Nat × Nat) :=
  im.levels (fun c f => (fnWords f).foldl (fun a i =>
    let w := im.word i
    let op := wOp w
    max a (if op = 0x39 ∧ fld w 11 1 = 1 then fld w 4 3 else if op = 0x38 ∧ (wN w = 0 ∨ wN w = 2 ∨ wN w = 4) then 7
      else if op = 0x30 then c (wImm w) else 0)) 0) 9

/-- D of an EARLY slot in us (R137). -/
def earlyD (mindo : Nat) : Nat := ((40 * mindo + 45) * 100000 + 5507 * 3300) / 33000

/-- Certified figures of a slot. -/
def slotInfo (bound sf j : Nat) (e : HEntry) : SlotInfo :=
  let early := decide (e.cls = 1)
  { e, bound, occ := 4 * (bound + sf) + (if early ∧ 0 < j then 148200 * j + 1000 else 0)
    ded := if early then earlyD e.mindo.toNat else e.deadline.toNat }

/-- The image as loaded: S_F is the largest bound of a valid FAULT slot (R136). -/
def PImage.loaded (im : PImage) : LoadedImage :=
  let bs := im.bounds
  let js := im.stallObjs
  let sf := im.slots.foldl (fun a e => if e.valid ∧ e.cls = 13 then max a (tblAt bs e.entry.toNat) else a) 0
  { slots := im.slots.map fun e =>
      if e.valid then some (slotInfo (tblAt bs e.entry.toNat) sf (tblAt js e.entry.toNat) e) else none
    codeEnd := im.code.length, ncmax := im.ncmax, table := im.slots }

/-- ... with the code end of the arbiter's header where there is one (R88, R343). -/
def PImage.loadedAt (im : PImage) (codeEnd : Option Nat) : LoadedImage :=
  { im.loaded with codeEnd := codeEnd.getD im.code.length }

end Sys2Proof

namespace Sys2Proof.Machine

/-! ### Slot checks -/

/-- Lowest loaded slot that satisfies a test. -/
def LoadedImage.firstSlot (l : LoadedImage) (f : SlotInfo → Bool) : Option Nat :=
  (l.indexed.find? fun x => f x.2).map fun x => x.1

/-- A critical slot (R129). -/
def critSlot (e : HEntry) : Bool := criticalClass e.cls.toNat || (isTimer e.cls.toNat && e.crit)

/-- A non-critical slot. -/
def ncSlot (e : HEntry) : Bool := nonCritical e.cls.toNat || (isTimer e.cls.toNat && !e.crit)

/-- NCMAX check of R139. -/
def LoadedImage.ncBad (l : LoadedImage) : Option Nat :=
  if 250000 < l.ncmax then some 0xFF else l.firstSlot fun i => ncSlot i.e && decide (l.ncmax < i.bound)

/-- OVERDUE check of R139. -/
def LoadedImage.overdue (l : LoadedImage) (arb : Bool) : Option Nat :=
  l.firstSlot fun i =>
    (critSlot i.e && decide (i.ded * 1000 < i.occ)) || (decide (i.e.cls = 0) && decide ((if arb then 2500000 else 500000) < i.bound))

/-! ### The critical test (R140), in ns over a common denominator -/

/-- Product of the intervals in ns. -/
def denOf (ds : List Demand) : Nat := ds.foldl (fun a d => a * (d.t * 1000)) 1

/-- U times the denominator. -/
def utilNum (ds : List Demand) : Nat := ds.foldl (fun a d => a + d.c * (denOf ds / (d.t * 1000))) 0

/-- K times the denominator. -/
def kNum (ds : List Demand) : Nat := ds.foldl (fun a d => a + d.c * ((d.t - d.d) * 1000) * (denOf ds / (d.t * 1000))) 0

/-- dbf(t) + b(t). -/
def demandAt (ds : List Demand) (bnc t : Nat) : Nat :=
  ds.foldl (fun a d => if d.d * 1000 ≤ t then a + ((t - d.d * 1000) / (d.t * 1000) + 1) * d.c else a) 0
    + ds.foldl (fun a d => if t < d.d * 1000 then max a d.c else a) bnc

/-- The check points up to L, each with the class it is of. -/
def checkPoints (ds : List Demand) (bnc : Nat) : List (Nat × Nat) :=
  let top := (kNum ds + ds.foldl (fun a d => max a d.c) bnc * denOf ds) / (denOf ds - utilNum ds)
  ds.flatMap fun d =>
    if d.d * 1000 ≤ top then
      (List.range ((top - d.d * 1000) / (d.t * 1000) + 1)).map fun m => (d.d * 1000 + m * (d.t * 1000), d.cls)
    else []

/-- The earliest check point that fails. -/
def failPoint (ds : List Demand) (bnc : Nat) : Option (Nat × Nat) :=
  (checkPoints ds bnc).foldl (fun a x =>
    if demandAt ds bnc x.1 ≤ x.1 then a
    else match a with
      | some y => if x.1 < y.1 then some x else a
      | none => some x) none

/-- Least slack and the earliest check point with it, over the check points the test passed: all, or those before the one that
fails (R140). -/
def leastSlack (ds : List Demand) (bnc : Nat) (before : Option Nat) : Option (Nat × Nat) :=
  ((checkPoints ds bnc).filter fun x => (before.map fun t => decide (x.1 < t)).getD true).foldl (fun a x =>
    let sl := x.1 - demandAt ds bnc x.1
    match a with
    | some y => if sl < y.1 ∨ (sl = y.1 ∧ x.1 < y.2) then some (sl, x.1) else a
    | none => some (sl, x.1)) none

/-- The slot of a class with the largest C. -/
def LoadedImage.slotOfClass (l : LoadedImage) (cls : Nat) : Nat :=
  ((l.indexed.filter fun x => decide (x.2.e.cls.toNat = cls)).foldl (fun (a : Option (Nat × Nat)) x =>
    match a with
    | some y => if y.2 < x.2.occ then some (x.1, x.2.occ) else a
    | none => some (x.1, x.2.occ)) none).elim 0xFF fun x => x.1

/-! ### The verdict (R139) -/

/-- The result of a load: code and slot, and the figures of Pn_CR_LOAD where the test came so far. -/
structure Verdict where
  code  : Nat
  slot  : Nat := 0xFF
  util  : Option Nat := none
  slack : Option Nat := none
  tight : Option Nat := none
  deriving DecidableEq, Repr

/-- A check: refused with a code and slot, or the next check. -/
def check (code : Nat) (bad : Option Nat) (next : Verdict) : Verdict :=
  match bad with
  | some n => { code, slot := n }
  | none => next

/-- A check that concerns no slot. -/
def flag' (b : Bool) : Option Nat := if b then some 0xFF else none

/-- The last checks: OVERLOAD, INFEASIBLE, EVENTS. -/
def LoadedImage.feasible (l : LoadedImage) : Verdict :=
  let ds := l.demands
  let bnc := 4 * l.ncmax
  if denOf ds ≤ utilNum ds then { code := 0x0B }
  else
    let util := some (ceilDiv (utilNum ds * 65536) (denOf ds))
    match failPoint ds bnc with
    | some x =>
      let sl := leastSlack ds bnc (some x.1)
      { code := 0x0C, slot := l.slotOfClass x.2, util, slack := sl.map fun y => y.1, tight := sl.map fun y => y.2 / 1000 }
    | none =>
      let sl := leastSlack ds bnc none
      { code := if 24 < ds.foldl (fun a d => a + ceilDiv d.d d.t) 0 then 0x0D else 0
        util, slack := some ((sl.map fun x => x.1).getD 0), tight := some ((sl.map fun x => x.2 / 1000).getD 0) }

/-- The words of Pn_CR_LOAD (05). A figure the test did not come to is a free value (log 1). -/
def Verdict.regs (v : Verdict) (ctr : Nat) : Word × Word × Word :=
  let free (i : Nat) : Nat := ofLe ((List.range 4).map fun j => Config.freeByte (ctr + 4 * i + j))
  (BitVec.ofNat 32 (v.code * 2 ^ 24 + v.slot % 256 * 2 ^ 16 + (v.util.getD (free 0)) % 65536),
   BitVec.ofNat 32 (v.slack.getD (free 1)), BitVec.ofNat 32 (v.tight.getD (free 2)))

end Sys2Proof.Machine

namespace Sys2Proof

open Machine

/-- Code words an image may have: 12,288 in a file core, CODEEND in the arbiter, whose RAM holds 65,536 (R88, R139). -/
def codeLimit (codeEnd : Option Nat) : Nat :=
  match codeEnd with
  | some e => min e 65536
  | none => 12288

/-- R139: the first check that fails. `codeEnd`: CODEEND of an arbiter image's header, none for a file image. -/
def PImage.judge (im : PImage) (codeEnd : Option Nat) : Verdict :=
  let arb := codeEnd.isSome
  let l := im.loadedAt codeEnd
  check 0x01 (flag' (!im.format || decide (im.slots.length ≠ 64) || decide (codeLimit codeEnd < im.code.length)
    || decide (65536 < codeEnd.getD 0))) <|
  check 0x02 ((im.firstWord wordBad).map im.owner) <|
  check 0x03 ((im.funcs.find? im.flowBad).map fun f => im.owner f.entry) <|
  check 0x04 (flag' im.callsBad) <|
  check 0x05 ((im.firstWord fun w => scopeBad arb w || awaitBad im.slots w).map im.owner) <|
  check 0x06 ((im.slots.zipIdx.find? fun x => im.slotBad arb x.2 x.1).map fun x => x.2) <|
  check 0x07 (l.firstSlot fun i => decide (i.e.declared ≠ i.bound)) <|
  check 0x08 (l.firstSlot fun i => decide (i.e.cls = 1) &&
    (decide (32 < tblAt (im.bufBounds false) i.e.entry.toNat) || decide (64 < tblAt (im.bufBounds true) i.e.entry.toNat))) <|
  check 0x09 l.ncBad <|
  check 0x0A (l.overdue arb)
  l.feasible

/-- The image is accepted. -/
def PImage.accepted (im : PImage) (codeEnd : Option Nat) : Bool := decide ((im.judge codeEnd).code = 0)

end Sys2Proof
end

