-- ==== Sys2Proof/Machine/Startup.lean ====
section
/-! DEFINITION. Power-up, boot and start mode (17), the end of a device reset (R314) and of a core's restart (R306, R308),
and the loads of the arbiter and file images (R139, R352, R356). -/

namespace Sys2Proof.Machine

/-! ### Loads -/

/-- Code RAM of a list of words. -/
def codeCells (l : List Word) : Cells :=
  Mem.writes 0 [] 0 (l.flatMap fun w => leBytes 4 w.toNat)

/-- An image installed in a core, with the loader's figures. -/
def Core.install (C : Core) (im : LoadedImage) (code : List Word) (r : Word × Word × Word) : Core :=
  { C with image := some im, code := codeCells code, cr := { C.cr with load := r.1, slack := r.2.1, tight := r.2.2 } }

/-- The figures of a refused image (Pn_CR_LOAD). -/
def Core.loadRefused (C : Core) (r : Word × Word × Word) : Core :=
  { C with cr := { C.cr with load := r.1, slack := r.2.1, tight := r.2.2 } }

/-- CODEEND of an arbiter image's header (R343 +0x28). -/
def Img.codeEnd (m : Img) : Nat := ofLe ((m.hdr.drop 0x28).take 4)

/-- CODEEND of the arbiter image in force. -/
def State.arbCodeEnd (s : State) : Nat := ((s.upd.booted .arb).map Img.codeEnd).getD 0

/-- The digest of a flash image, as recorded at a full verification (R308). -/
def Img.digest (m : Img) : BitVec 256 := Config.sha256 (m.hdr ++ m.body)

/-! ### SERVICE (R357) -/

/-- BOOT becomes SERVICE. Transfers are served, so the arbiter counts as running (log 38). -/
def State.toService (s : State) : State :=
  { (s.outageEnd.modUpd fun u => { u with boot := .service }).modRec fun r => { r with arb := .running } with phase := .service }

/-! ### Boot (R314, R356, R392) -/

/-- R355 cause 5: a device reset taken by the sequencer during a trial. -/
def State.bootCause5 (s : State) : State :=
  if s.rcv.devReset && s.upd.trial && (s.rcv.cause.getLsbD 4 || s.rcv.cause.getLsbD 8) then s.bootFallBack 5 else s

/-- Step 4 of R392 on: the SFDP tables of both flash devices (R340), the state record, larder slots, PROVISION, and the choice of
the arbiter image. -/
def State.bootGo (s : State) : State :=
  let f0 := s.pins.flash0
  let f1 := s.pins.flash1
  let s1 := s.modUpd fun u =>
    let v : Upd := { u with
      dev0 := sfdpUsable f0, dev1 := sfdpUsable f1, mirror := sfdpUsable f0 && sfdpUsable f1, boot := .normal }
    if v.recDue then v.readRec else v
  let s2 := s1.judgeSlots
  if s2.keyBlank 0 && s2.keyBlank 1 then
    { (s2.outageEnd.modUpd fun u => { u with boot := .provision }).modRec fun r => { r with arb := .running } with phase := .provision }
  else if s2.upd.noFlash then s2.toService
  else
    match s2.bootCause5.bootPick .arb with
    | none => s2.bootCause5.toService
    | some x => { x with phase := .bootRom }

/-- R330, R392: the OTP sense ends; the boot goes on, or waits for VIO (R388). -/
def State.otpSenseDone (s : State) : State :=
  if s.phase = .sense then
    let s1 := s.otpSense
    if s.pins.vioOk then s1.bootGo else { s1 with phase := .waitVio }
  else s

/-- START of a core (R125): where the image has no START slot the event is unhandled and the core runs at once (R131; log 30).
`fin` ends a START. -/
def State.startCore (s : State) (c : CoreId) (arg : Word) (fin : State → CoreId → State) : State :=
  let s1 := s.enterStart c arg
  if ((s1.core c).slotFor 0 none).isNone then fin s1 c else s1

/-- The image that was tried is refused at a boot: a trial set falls back, else the other slot is tried, else SERVICE
(R356, R357). -/
def State.bootRefused (s : State) (k : Kind) : State :=
  let next (x : State) : State :=
    match x.bootPick k with
    | none => x.toService
    | some y => y
  if s.upd.trial && s.upd.tkinds.getLsbD (kindIx k).val then next (s.bootFallBack 4)
  else
    match s.upd.first k with
    | some i =>
      if (s.upd.kind k).alt.isNone && s.slotAlt k (1 - i) then
        s.modUpd fun u =>
          { u.modKind k fun K => { K with alt := some (1 - i) } with boot := .alternate, evt := setB u.evt 6 true }
      else s.toService
    | none => s.toService

/-- Steps 4 and 5 of R314 between the arbiter's START and the file image: leases are judged after a device reset (R29),
a power-on reset gives a trial a new window and cancels a schedule (R359), and the other kinds are chosen. A trial that
falls back here restarts an arbiter that runs from the trial slot, or that has read trial settings at its START (R355). -/
def State.arbBooted (s : State) : State :=
  let s1 := if s.rcv.devReset then s.shedPoint else s
  let s2 := if s1.rcv.devReset = false ∧ s1.bootArg = 0 ∧ s1.phase = .arbStart then
      s1.modUpd fun u =>
        let v := if u.trial then { u with trialEnd := s1.fab.ftime + BitVec.ofNat 64 u.trialWin } else u
        if v.sched then ({ v.cst 4 with sched := false, rsn := 0x18, evt := setB v.evt 3 true } : Upd).keepRec else v
    else s1
  let s3 : State := { s2 with phase := .fileStart }
  match (s3.bootPick .set).bind fun x => x.bootPick .file with
  | none => s3.toService
  | some x =>
    let setRead := s3.upd.tkinds.getLsbD 2 && decide (s3.pick .set ≠ .trialFails)
    if s3.upd.trial && (s3.upd.tkinds.getLsbD 0 || setRead) && !x.upd.trial then
      (x.modUpd fun u => { u with fallback := true }).actBegin false
    else x

/-- The next step of an activation or fall-back once the arbiter runs again (R352 step 3). -/
def State.actArbDone (s : State) : State :=
  if s.pick .file = .trialFails ∨ s.pick .set = .trialFails then s.fallBack 4
  else if s.upd.actFile then s.modUpd fun u => { u with step := .loader } else s.actDone

/-- HOST-CMD entries not popped are offered again as HOSTCMD events (R306). -/
def State.reofferHostCmd (s : State) (p : PortId) : State :=
  (s.queue p 6).ents.foldl (fun s e =>
    (s.raiseNc (fileCore p) { cls := 7, arg := e.seq.setWidth 32, queue := 6, seq := e.seq }).2) s

/-- A restart of a file core ends (R306 step 5). -/
def State.fileRestarted (s : State) (p : PortId) : State :=
  let s1 := (s.modRec fun r => { r with
    stage := r.stage.set p .none, evt := setB r.evt 0 true
    cmd := if r.arg.toNat = p.val ∧ r.cmd.cst = 3 ∧ (r.cmd.cmd = 0x21 ∨ r.cmd.cmd = 0x22) then { r.cmd with cst := 1 }
           else r.cmd }).rungDone p.val 2
  if s1.upd.actPort = some p then (s1.modUpd fun u => { u with actPort := none }).actNext else s1

/-- At its START the arbiter copies the outage counters to the fault-log ring, puts there the entries of the AO tail that
the ring lacks, and adds the outage of a rung 4 that the reset-cause record kept in flash shows at a power-on reset; the record
then shows this boot's cause (R285, R315; log 75). -/
def State.startLog (s : State) : State :=
  let lacks := s.faultLog.filter fun e => !s.upd.ring.contains e
  let s1 := if lacks.isEmpty then s else s.modUpd fun u => u.log lacks
  let s2 := s1.faultFree arbiterId (leBytes 2 s.rcv.outcnt.toNat ++ leBytes 4 s.rcv.outms.toNat)
  if s.phase = .arbStart ∧ s.upd.rung4Rec ∧ s.upd.secOk .cause then
    (if s.rcv.devReset then s2 else s2.faultFree arbiterId [1]).modUpd fun u => { u with rung4Rec := false }.wroteSecs [.cause]
  else s2

/-- A restart of the arbiter ends (R308 step 4); in a boot the boot goes on, in an activation its next step follows. -/
def State.arbStarted (s0 : State) : State :=
  let s := s0.startLog
  let again := decide (s.rcv.arb = .restarting)
  let s1 := s.modRec fun r => { r with
    arb := .running, evt := if again then setB r.evt 1 true else r.evt
    cmd := if again ∧ r.cmd.cmd = 0x23 ∧ r.cmd.cst = 3 then { r.cmd with cst := 1 } else r.cmd }
  let s2 := if again then s1.rungDone 8 2 else s1
  if s2.phase = .arbStart ∨ s2.phase = .fileStart then s2.arbBooted
  else if s2.upd.step = .arbiter then s2.actArbDone else s2

/-- The unpopped RX entries of a port, oldest first across its three RX queues (R306). -/
def State.rxUnpopped (s : State) (p : PortId) : List (Sop × Byte) :=
  let q (x : Sop) : List (Sop × Entry) := (s.queue p (rxQ x)).ents.map fun e => (x, e)
  let put (l : List (Sop × Entry)) (y : Sop × Entry) : List (Sop × Entry) :=
    let age (z : Sop × Entry) := (s.now - z.2.time).toNat
    (l.takeWhile fun z => decide (age y ≤ age z)) ++ y :: l.dropWhile fun z => decide (age y ≤ age z)
  (((q .sop ++ q .sopP ++ q .sopPP).foldl put []).map fun y => (y.1, y.2.seq))

/-- START of core c ends: the core runs, and the events raised meanwhile are raised on it (R125, R134). -/
def State.finishStart (s : State) (c : CoreId) : State :=
  let s1 := (s.modCore c fun C => { C with st := .running }).raiseHeld c
  match corePort c with
  | some p => if s1.rcv.stage[p] = .starting then
      ((s1.reofferHostCmd p).modPd p fun d => { d with reoffer := s1.rxUnpopped p }).fileRestarted p
    else s1
  | none => s1.arbStarted

/-- The verdict on an arbiter image and the figures it leaves. -/
def PImage.loadRegs (s : State) (v : Verdict) : (Word × Word × Word) × State :=
  (v.regs s.freeCtr, { s with freeCtr := s.freeCtr + 12 })

/-- R356, R314 step 3: the boot ROM has read and verified the chosen arbiter image; it is loaded, and START begins. One that
cannot be read is refused. -/
def State.arbImage (s0 : State) (r : FlashRead) : State :=
  let s := s0.modUpd fun u => u.slotRead .arb r
  if s0.phase = .bootRom ∧ s.upd.bootable .arb = false then s.bootRefused .arb
  else if s0.phase = .bootRom then
    let img := s.upd.pal .arb
    let v := img.judge (some s.arbCodeEnd)
    let r := PImage.loadRegs s v
    if v.code ≠ 0 then (r.2.modCore arbiterId fun C => C.loadRefused r.1).bootRefused .arb
    else
      let s1 := r.2.modCore arbiterId fun C => C.install (img.loadedAt (some s.arbCodeEnd)) img.code r.1
      let s2 := s1.modUpd fun u => { u with digest := ((u.booted .arb).map Img.digest).getD 0 }
      ({ s2.romUnit8 with phase := .arbStart }).startCore arbiterId s.bootArg State.finishStart
  else s0

/-- A file core is loaded from the shared copy (R306 step 3, R314 step 5). -/
def State.loadFile (s : State) (p : PortId) : State :=
  match s.upd.fileImg with
  | none => s
  | some im => s.modCore (fileCore p) fun C => C.install im s.upd.fileCode s.upd.fileLoad

/-- The certified image becomes the copy in shared SRAM (R139, R352 step 3). -/
def Upd.putFile (u : Upd) (img : PImage) (r : Word × Word × Word) : Upd :=
  { u with fileImg := some img.loaded, fileCode := img.code, fileLoad := r }

/-- The figures of a refused file image on every file core. -/
def State.fileRefused (s : State) (r : Word × Word × Word) : State :=
  s.forPorts fun s p => s.modCore (fileCore p) fun C => C.loadRefused r

/-- The file image of a boot is refused: where the arbiter runs from the trial set too, or has read its settings, the whole
set falls back with a restart of the arbiter (R355, R356). -/
def State.fileBootRefused (s : State) : State :=
  if s.upd.trial && s.upd.tkinds.getLsbD 1 && (s.upd.tkinds.getLsbD 0 || s.upd.tkinds.getLsbD 2) then s.fallBack 4
  else s.bootRefused .file

/-- R139: the file image has been read and the loader has judged it, at a boot or at step 3 of an activation. One that cannot
be read is refused (R342, R356). -/
def State.fileImage (s0 : State) (f : FlashRead) : State :=
  let s := s0.modUpd fun u => u.slotRead .file f
  let img := s.upd.pal .file
  let v := img.judge none
  let r := PImage.loadRegs s v
  if s.phase = .fileStart ∧ s.upd.fileImg.isNone ∧ s.rcv.arb = .running then
    if s.upd.bootable .file = false then s.fileBootRefused
    else if v.code ≠ 0 then (r.2.fileRefused r.1).fileBootRefused
    else
      let s1 := r.2.modUpd fun u => u.putFile img r.1
      let s2 := if s1.upd.step = .none ∧ s1.upd.fallback = false then s1 else s1.actDone
      s2.forPorts fun s p => if s.runs p then (s.loadFile p).startCore (fileCore p) s.bootArg State.finishStart else s
  else if s.upd.step = .loader then
    if s.upd.bootable .file = false then (if s.upd.trial then s.fallBack 4 else s.actDone)
    else if v.code ≠ 0 then
      let x := r.2.fileRefused r.1
      if x.upd.trial then x.fallBack 3 else x.actDone
    else
      let s1 := r.2.modUpd fun u => { u.putFile img r.1 with step := .files }
      (s1.modUpd fun u => { u with toRestart := maskOf 8 8 fun i => if h : i < 8 then s1.runs ⟨i, h⟩ else false, passed := 0 }).actNext
  else s0

/-- R314 step 6, R392 step 8: the LINK domain is released and the ports go live. The Hard Reset wait of a sequence still
in progress stands (R28, R181). -/
def State.portsLive (s : State) : State :=
  if s.phase = .fileStart ∧ s.upd.fileImg.isSome then
    let s1 := s.forPorts fun s p =>
      if (s.port p).ct.hrseq ≠ .none then s.modPd p fun d => { d with hrwait := true } else s
    let s2 := (s1.modGlb fun g => { g with live := true })
    let s3 : State := { s2 with phase := .live }
    let s4 := if s3.rcv.devReset then
        (s3.outageEnd.modRec fun r => { r with
          devReset := false, evt := setB r.evt 2 true
          cmd := if r.cmd.cmd = 0x30 ∧ r.cmd.cst = 3 then { r.cmd with cst := 1 } else r.cmd }).rungDone 0xFF 3
      else s3
    if s4.bootArg = 2 then s4.fedEvt 9 else s4
  else s

/-! ### Restarts (R306, R308, R309) -/

/-- R306 step 3: the copy of the file image is checked and installed. A copy that does not fit is a fault of the shared
SRAM: rung 3 with trigger BOOTFAIL. -/
def State.fileLoaded (s : State) (p : PortId) (crcOk : Bool) : State :=
  if s.rcv.stage[p] = .copying then
    if !crcOk then s.sequencerReset 8 3
    else if s.upd.fileImg.isNone then
      (s.setStage p .none).modCore (fileCore p) fun C => { C with st := .stopped }
    else ((s.setStage p .starting).loadFile p).startCore (fileCore p) 1 State.finishStart
  else s

/-- A boot before its arbiter image is loaded: the image comes with the boot's own step (R314). -/
def State.romPhase (s : State) : Bool := decide (s.phase = .sense ∨ s.phase = .waitVio ∨ s.phase = .bootRom)

/-- R308 step 2: the boot ROM has read the arbiter image; a sector that fails on every usable device makes it unreadable (R342). In
an activation or fall-back it is verified in full and the
digest recorded (R352 step 2); otherwise its digest must be the recorded one. -/
def State.arbLoaded (s0 : State) (bad0 bad1 : List FlashSec) : State :=
  let s := s0.modUpd fun u => u.found bad0 bad1
  if s.rcv.arb = .restarting ∧ (s.core arbiterId).image.isNone ∧ !s.romPhase then
    let run (s : State) : State :=
      let img := s.upd.pal .arb
      let v := img.judge (some s.arbCodeEnd)
      let r := PImage.loadRegs s v
      if v.code ≠ 0 then
        let x := r.2.modCore arbiterId fun C => C.loadRefused r.1
        if x.upd.step = .arbiter && x.upd.trial then x.fallBack 4 else x.arbFailure 3
      else (r.2.modCore arbiterId fun C => C.install (img.loadedAt (some s.arbCodeEnd)) img.code r.1).startCore arbiterId 1 State.finishStart
    if s.upd.step = .arbiter then
      match s.pick .arb with
      | .trialFails => s.fallBack 4
      | .good _ | .alternate _ | .nothing =>
        match s.bootPick .arb with
        | none => s.arbFailure 3
        | some x => run (x.modUpd fun u => { u with digest := ((u.booted .arb).map Img.digest).getD 0 })
    else match s.upd.bootSlot .arb with
      | none => s.arbFailure 3
      | some i =>
        let x := s.modUpd fun u => u.readSecs (u.secs .arb i)
        if s.upd.readable .arb i ∧ ((s.upd.booted .arb).map Img.digest) = some s.upd.digest then run x else x.arbFailure 3
  else s0

/-- R309, R311: a restart has not come to the end of START within its bound. -/
def State.boundExpiry (s : State) (c : CoreId) : State :=
  match corePort c with
  | some p => if s.rcv.stage[p] ≠ .none then s.fileFailure p 3 else s
  | none =>
    if s.rcv.arb = .restarting ∨ s.phase = .arbStart ∨ (s.rcv.devReset ∧ s.romPhase) then s.arbFailure 3 else s

/-! ### Power (R282, R388, R391-R394) -/

/-- Everything but what needs no power: OTP cells, larder slots, flash content and the levels of the digital balls; a rail's
reading is gone (R27). -/
def State.dark (s : State) : State :=
  let u := s.upd
  { otp := { cells := s.otp.cells }
    fed := { slot0 := s.fed.slot0, slot1 := s.fed.slot1 }
    upd := { arb := { slots := u.arb.slots }, file := { slots := u.file.slots }, set := { slots := u.set.slots }
             recs := u.recs, recDue := true, bad0 := u.bad0, bad1 := u.bad1
             ring := u.ring, energyLog := u.energyLog, sessionLog := u.sessionLog, rung4Rec := u.rung4Rec }
    pins := { adr := s.pins.adr, vioOk := s.pins.vioOk, flash0 := s.pins.flash0, flash1 := s.pins.flash1 }
    ramBad := s.ramBad, dbgHalt := s.dbgHalt
    phase := .unpowered, freeCtr := s.freeCtr, pending := s.pending }

/-- V5 is up: the power-on reset is released and the OTP sense runs; the board is what `b` says (R340, R362,
R391, R392). -/
def State.v5Up (s : State) (b : Board) : State :=
  { (s.modPins fun n => { n with adr := b.adr, flash0 := b.flash0, flash1 := b.flash1 }).modHbs fun h => { h with adr := b.adr } with phase := .sense, bootArg := 0 }

/-- R392: a power-on reset. In start mode and in a save or park V5's rise has another effect (R394, R282; log 37). -/
def State.powerOn (s : State) (b : Board) : State :=
  if s.phase = .startMode ∨ s.inSave then s else s.dark.v5Up b

/-- TMB_STATUS.SMSRC. -/
def smsrc : StartSource → BitVec 4
  | .vhv => 1
  | .vb p => BitVec.ofNat 4 (8 + p.val)

/-- R393: start mode begins. -/
def State.startModeEntry (s : State) (src : StartSource) : State :=
  let ok := match src with
    | .vhv => true
    | .vb p => s.fitted p
  if s.phase = .unpowered && ok then
    { s.dark.modTmb fun t => { t with smsrc := smsrc src } with phase := .startMode }
  else s

/-- What a start exit keeps of a port: terminations, attach state, DEADBAT, POL and the running Type-C timers (R394). -/
def Port.startKeep (P : Port) : Port :=
  { tc := { P.tc with evt := 0 }
    ct := { attpr := P.ct.attpr, attdr := P.ct.attdr, attvc := P.ct.attvc, rapin := P.ct.rapin } }

/-- R394: V5 rises in start mode. -/
def State.startModeExit (s : State) (b : Board) (ms : Nat) : State :=
  if s.phase = .startMode then
    let d := s.dark.v5Up b
    { d with ports := s.ports.map Port.startKeep
             tmb := { smsrc := s.tmb.smsrc, startmode := true, smtime := BitVec.ofNat 32 ms } }
  else s

/-- R394: the start source fails. -/
def State.startModeLoss (s : State) : State := if s.phase = .startMode then s.dark else s

/-- R282: VHOLD falls below 4.5 V while parked. -/
def State.parkPowerLoss (s : State) : State := if s.phase = .parked then s.dark else s

/-- R388: VIO falls below 1.5 V. -/
def State.vioLoss (s : State) : State :=
  if s.pins.vioOk then
    let s1 := s.modPins fun n => { n with vioOk := false, vio := min n.vio 1499 }
    if s.phase = .unpowered then s1 else s1.modTmb fun t => { t with evt := setB t.evt 2 true }
  else s

/-- R388: VIO returns; a boot that waits goes on. -/
def State.vioReturn (s : State) : State :=
  if s.pins.vioOk then s
  else
    let s1 := s.modPins fun n => { n with vioOk := true, vio := max n.vio 1650 }
    if s.phase = .unpowered then s1
    else
      let s2 := s1.modTmb fun t => { t with evt := setB t.evt 3 true }
      if s.phase = .waitVio then s2.bootGo else s2

/-- R390: the crystal is confirmed. -/
def State.xtalSwitch (s : State) : State :=
  let t := s.tmb
  if s.otp.sensed && t.xtalen && !t.xtalfail && !t.mainsrc then
    s.modTmb fun t => { t with xtalok := true, mainsrc := true, evt := setB t.evt 0 true }
  else s

/-- R390: the crystal stops or drifts. -/
def State.xtalFail (s : State) : State :=
  if s.tmb.mainsrc then s.modTmb fun t => { t with mainsrc := false, xtalfail := true, evt := setB t.evt 1 true } else s

end Sys2Proof.Machine
end

