-- ==== Sys2Proof/Machine/Operands.lean ====
section
/-! DEFINITION. Operands of Paltein instructions: general registers and immediates (R85, R95), the event record (R87), the
data space with its regions and protections (R89-R91), and premove forwarding (R118). -/

namespace Sys2Proof.Machine

/-! ### Registers and immediates -/

/-- General register r of core c; g0 reads 0 (R85). -/
def State.gr (s : State) (c : CoreId) (r : BitVec 4) : Word := if r = 0 then 0 else (s.core c).g.get ⟨r.toNat, r.isLt⟩

/-- A core with general register r written; a write to g0 is discarded (R85). -/
def Core.setG (C : Core) (r : BitVec 4) (v : Word) : Core :=
  if r = 0 then C else { C with g := C.g.set r.toNat v r.isLt }

/-- General register r of core c written. -/
def State.putG (s : State) (c : CoreId) (r : BitVec 4) (v : Word) : State := s.modCore c fun C => C.setG r v

/-- imm18 sign-extended, and zero-extended (R95). -/
def immSx (i : BitVec 18) : Word := i.signExtend 32
def immZx (i : BitVec 18) : Word := i.setWidth 32

/-- Effective address of a load or store (R99). -/
def State.addr (s : State) (c : CoreId) (f : FormI) : Nat := (s.gr c f.a + immSx f.imm).toNat

/-! ### The event record (R87) -/

/-- The 32 bytes of the event record of a running handler. -/
def Handler.record (h : Handler) : List Byte :=
  [BitVec.ofNat 8 h.job.cls, BitVec.ofNat 8 h.job.slot, BitVec.ofNat 8 (bitAt 0 h.premove + bitAt 1 h.job.rerun),
   BitVec.ofNat 8 h.job.queue, h.job.seq, 0, 0, 0]
    ++ leBytes 4 h.job.time.toNat ++ leBytes 4 h.job.deadline.toNat ++ leBytes 4 h.job.arg.toNat ++ leBytes 4 h.bound
    ++ leBytes 8 0

/-! ### The data space (R89) -/

/-- Regions of the data space. `sram k` is the region of core k (R90). -/
inductive Region where
  | ram | scratch | event | sram (k : Nat) | regs | unmapped
  deriving DecidableEq, Repr

/-- Region of an address; the arbiter's RAM is one region (log 39). -/
def region (arb : Bool) (a : Nat) : Region :=
  if a < 0x3800 then .ram
  else if a < 0x4000 then (if arb then .ram else .scratch)
  else if a < 0x40000 then (if arb then .ram else .unmapped)
  else if a < 0x40020 then .event
  else if 0x80000 ≤ a ∧ a < 0xC0000 then .sram ((a - 0x80000) / 0x8000)
  else if 0xC0000 ≤ a ∧ a < 0x100000 then .sram 8
  else if 0x100000 ≤ a ∧ a < 0x110000 then .regs
  else .unmapped

/-- Is the core the arbiter? -/
def isArb (c : CoreId) : Bool := decide (c = arbiterId)

/-- CODEEND of a core in words (R88, R89). -/
def Core.codeEnd (C : Core) : Nat := (C.image.map fun im => im.codeEnd).getD 0

/-- Fault of an access of n bytes, 0 for none: 2 MISALIGNED, 3 BAD_ADDRESS (R99, R122). -/
def spanFault (arb : Bool) (al a n : Nat) : Nat :=
  if a % al ≠ 0 then 2
  else if region arb a = .unmapped ∨ region arb (a + n - 1) ≠ region arb a then 3 else 0

/-- The word at the pc of core c has an uncorrectable error (R122). -/
def State.fetchBad (s : State) (c : CoreId) : Bool :=
  let w := (s.core c).pc.toNat
  s.ramBad.contains (if isArb c then .data c w else .code c w)

/-- A byte of data RAM or shared SRAM lies in a word with an uncorrectable error (R122). -/
def State.byteBad (s : State) (c : CoreId) (a : Nat) : Bool :=
  match region (isArb c) a with
  | .ram | .scratch => s.ramBad.contains (.data c (a / 4))
  | .sram _ => s.ramBad.contains (.shared ((a - 0x80000) / 4))
  | .event | .regs | .unmapped => false

/-- Fault of a read of n bytes, 0 for none: that of the access, or 7 RAM_ERROR (R122). -/
def State.readFault (s : State) (c : CoreId) (al a n : Nat) : Nat :=
  if spanFault (isArb c) al a n ≠ 0 then spanFault (isArb c) al a n
  else if (List.range n).any fun i => s.byteBad c (a + i) then 7 else 0

/-- A store is WRITE_PROTECTED (R87, R89-R91). -/
def writeProtected (c : CoreId) (codeEnd a n : Nat) : Bool :=
  match region (isArb c) a with
  | .ram => isArb c && decide (a < codeEnd * 4)
  | .scratch | .unmapped => false
  | .event => true
  | .sram k => decide (k ≠ c.val)
  | .regs =>
    let r := a - 0x100000
    (decide (r < 0x4000) && decide (0x3000 < r + n)) ||
      (!isArb c && !(decide (0x1000 + c.val * 0x400 ≤ r) && decide (r + n ≤ 0x1400 + c.val * 0x400)))

/-- Fault of a store of n bytes. -/
def storeFault (c : CoreId) (codeEnd al a n : Nat) : Nat :=
  if spanFault (isArb c) al a n ≠ 0 then spanFault (isArb c) al a n
  else if writeProtected c codeEnd a n then 4 else 0

/-- The path of a core to the register space. -/
def coreWho (c : CoreId) : Who :=
  match corePort c with
  | some p => .file p
  | none => .arbiter

/-- The youngest staged byte of an address, else the byte given (R118). -/
def forward (l : List Staged) (a : Nat) (b : Byte) : Byte :=
  l.foldl (fun b x => match x with
    | .store at' bytes => if at' ≤ a ∧ a < at' + bytes.length then bytes.getD (a - at') b else b
    | .reg _ _ | .qpush _ _ _ | .qpop _ _ | .qpeekEvent _ _ _ _ | .qpeekSlot _ _ _ | .lrsv _ _ | .lcmt _ _
    | .lrelGrant _ _ | .lrelRsv _ _ | .act _ _ _ | .chk _ | .log _ _ _ | .tset _ _ _ | .tclr _ | .await _ _ => b) b

/-- The byte of an address outside the register window, as the core reads it. -/
def State.dataByte (s : State) (c : CoreId) (a : Nat) : Byte :=
  let C := s.core c
  let l := (C.run.map fun h => h.staged).getD []
  match region (isArb c) a with
  | .ram | .scratch =>
    forward l a (if isArb c && decide (a < C.codeEnd * 4) then Mem.read 0 C.code a else Mem.read 0 C.data a)
  | .event => ((C.run.map Handler.record).getD []).getD (a - 0x40000) 0
  | .sram _ => forward l a (Mem.read 0 s.sram (a - 0x80000))
  | .regs => s.peek (a - 0x100000)
  | .unmapped => 0

/-- The core's handler is an unresolved premove. -/
def State.inPremove (s : State) (c : CoreId) : Bool := ((s.core c).run.map fun h => h.premove).getD false

/-- n bytes as a load or a copy reads them; outside a premove a register read has its effects (R91, R118). -/
def State.loadBytes (s : State) (c : CoreId) (a n : Nat) : List Byte × State :=
  if region (isArb c) a = .regs ∧ s.inPremove c = false then s.coreLoad (a - 0x100000) n
  else ((List.range n).map fun i => s.dataByte c (a + i), s)

/-- Bytes stored by a core, not staged. -/
def State.storeBytes (s : State) (c : CoreId) (a : Nat) (b : List Byte) : State :=
  match region (isArb c) a with
  | .ram | .scratch => s.modCore c fun C => { C with data := Mem.writes 0 C.data a b }
  | .sram _ => { s with sram := Mem.writes 0 s.sram (a - 0x80000) b }
  | .regs => s.coreStore (coreWho c) (a - 0x100000) b
  | .event | .unmapped => s

end Sys2Proof.Machine
end

