-- ==== Sys2Proof/Machine/Flags.lean ====
section
/-! DEFINITION. Paltein has no condition flags (R85): the conditions of BR on two registers (R101), and the bookkeeping of
loops at an iteration's end, a branch and a return (R102, R104). -/

namespace Sys2Proof.Machine

/-- BR is taken (R101). -/
def brTaken (cond : BitVec 4) (a b : Word) : Bool :=
  match cond.toNat with
  | 0 => true
  | 1 => decide (a = b)
  | 2 => decide (a ≠ b)
  | 3 => a.slt b
  | 4 => !a.slt b
  | 5 => decide (a < b)
  | 6 => decide (b ≤ a)
  | 7 => decide (a &&& b ≠ 0)
  | 8 => decide (a &&& b = 0)
  | _ => false

/-- What the sequential arrival at word t does to the open loops. -/
structure LoopEnd where
  pc     : Nat
  loops  : List LoopFrame
  writes : List (BitVec 4 × Word) := []
  cost   : Nat := 0
  deriving DecidableEq, Repr

/-- Sequential control arrives at word t: iterations that end there end, innermost first, each for 2 steps (R96, R102). -/
def endLoops (depth t : Nat) : List LoopFrame → LoopEnd
  | [] => { pc := t, loops := [] }
  | l :: r =>
    if l.depth = depth ∧ t = l.last.toNat + 1 then
      if 1 < l.left then
        { pc := l.first.toNat, loops := { l with left := l.left - 1 } :: r
          writes := [(l.ctr, BitVec.ofNat 32 (l.left - 1))], cost := 2 }
      else
        let x := endLoops depth t r
        { x with writes := (l.ctr, 0) :: x.writes, cost := x.cost + 2 }
    else { pc := t, loops := l :: r }

/-- A branch to word t leaves every loop whose last word it passes (R102). -/
def leaveLoops (depth t : Nat) : List LoopFrame → List LoopFrame
  | [] => []
  | l :: r => if l.depth = depth ∧ l.last.toNat < t then leaveLoops depth t r else l :: r

/-- RET closes the loops open in the returning function (R104). -/
def closeLoops (depth : Nat) : List LoopFrame → List LoopFrame
  | [] => []
  | l :: r => if l.depth = depth then closeLoops depth r else l :: r

/-- Status codes of queue, ledger and actuator instructions (R111, R113, R114). -/
def stDone : Nat := 0x00
def stFull : Nat := 0x02
def stEmpty : Nat := 0x03
def stNotOwner : Nat := 0x05
def stNotAllowed : Nat := 0x06
def stDisabled : Nat := 0x07
def stNotPermitted : Nat := 0x13

end Sys2Proof.Machine
end

