-- ==== Sys2Proof/Machine/Effects.lean ====
section
/-! DEFINITION. The effects of queue, ledger, actuator, timer and SYS instructions, each as a status and a state (R106-R116);
what a staged effect does (R117, R119, R120), and the state a premove sees with its own staged effects (R119). -/

namespace Sys2Proof.Machine

/-! ### Queues (R108-R111) -/

/-- Port and queue that number n of a queue instruction names on core c (R108). -/
def qOf (c : CoreId) (n : Nat) : PortId × Fin 8 :=
  match corePort c with
  | some p => (p, ⟨n % 8, by omega⟩)
  | none => (⟨n / 8 % 8, by omega⟩, ⟨n % 8, by omega⟩)

/-- A push to PORT-EVT: full, or the entry and, where the arbiter is the popper, its PEVT event (R77, R84, R125). -/
def State.evtPush (s : State) (p : PortId) (e : Entry) : Nat × State :=
  let q := s.queue p 7
  if q.full then (stFull, s.modPd p fun d => { d with ovf := setB d.ovf 7 true })
  else
    let s1 := s.modQ p 7 fun q => q.push { e with st := .pending, rsn := 0, time := s.now }
    let n := p.val * 8 + 7
    if (s.port p).pd.qsctl.getLsbD 0 then
      (stDone, (s1.raiseNc arbiterId { cls := 0x21, arg := BitVec.ofNat 32 n, queue := n, seq := q.seq }).2)
    else (stDone, s1)

/-- QPUSH (R109): status and state. -/
def State.qpushOp (s : State) (c : CoreId) (n : Nat) (b : List Byte) : Nat × State :=
  let x := qOf c n
  let p := x.1
  let k := x.2
  let e := Entry.ofBytes b
  if !s.present p then (stDisabled, s)
  else if isArb c then
    if k ≠ 6 then (stNotAllowed, s)
    else if fld (s.port p).pd.qsctl 2 2 = 1 then (stNotOwner, s)
    else s.hostCmdPush p e
  else if k = 1 ∨ k = 3 ∨ k = 5 then s.txPush p k e
  else if k = 7 then s.evtPush p e
  else (stNotAllowed, s)

/-- QPOP is allowed on the queue (R108): a status, 0 when it is. -/
def State.qpopRight (s : State) (c : CoreId) (n : Nat) : Nat :=
  let x := qOf c n
  if !s.present x.1 then stDisabled
  else if isArb c then
    if x.2 ≠ 7 then stNotAllowed else if (s.port x.1).pd.qsctl.getLsbD 0 then 0 else stNotOwner
  else if x.2 = 0 ∨ x.2 = 2 ∨ x.2 = 4 ∨ x.2 = 6 then 0 else stNotAllowed

/-- QPOP (R110): status, the entry, state. -/
def State.qpopOp (s : State) (c : CoreId) (n : Nat) : Nat × Option Entry × State :=
  let x := qOf c n
  if s.qpopRight c n ≠ 0 then (s.qpopRight c n, none, s)
  else match (s.queue x.1 x.2).ents.head? with
    | none => (stEmpty, none, s)
    | some e => (stDone, some e, s.modQ x.1 x.2 fun q => q.pop s.us)

/-- QPEEK of a slot after the head (R110). -/
def State.qpeekSlotOp (s : State) (c : CoreId) (n slot : Nat) : Nat × Option Entry :=
  let x := qOf c n
  if !s.present x.1 then (stDisabled, none)
  else match (s.queue x.1 x.2).ents[slot]? with
    | none => (stEmpty, none)
    | some e => (stDone, some e)

/-- QPEEK of the entry that raised the event (R110). -/
def State.qpeekEventOp (s : State) (c : CoreId) (n queue : Nat) (seq : Byte) : Nat × Option Entry :=
  let x := qOf c n
  if !s.present x.1 then (stDisabled, none)
  else if queue = 0xFF ∨ queue ≠ n then (stNotAllowed, none)
  else match (s.queue x.1 x.2).ents.find? fun e => decide (e.seq = seq) with
    | none => (stEmpty, none)
    | some e => (stDone, some e)

/-! ### Ledger (R112, R113) -/

/-- Status and state of a ledger operation. -/
def lrsvOp (s : State) (p : PortId) (arb : Bool) (tent amt : Nat) : Nat × State :=
  (s.lrsvStatus p tent amt, if s.lrsvStatus p tent amt = 0 then s.lrsvDo p arb amt else s)
def lcmtOp (s : State) (p : PortId) (arb : Bool) (amt : Nat) : Nat × State :=
  (s.lcmtStatus p amt, if s.lcmtStatus p amt = 0 then s.lcmtDo p arb amt else s)
def lrelGOp (s : State) (p : PortId) (amt : Nat) : Nat × State :=
  (s.lrelGStatus p amt, if s.lrelGStatus p amt = 0 then s.lrelGDo p amt else s)
def lrelROp (s : State) (p : PortId) (arb : Bool) (amt : Nat) : Nat × State :=
  (s.lrelRStatus p amt, if s.lrelRStatus p amt = 0 then s.lrelRDo p arb amt else s)

/-! ### Timers and bindings (R106, R107) -/

/-- A timer is armed or disarmed. -/
def Core.setTimer (C : Core) (n : Fin 8) (e : Option Nat) : Core :=
  { C with timers := C.timers.set n { C.timers[n] with expiry := e } }

/-- When a timer armed at us `now` expires, in us since power-on: at v, or with `abs` when TMB_NOW equals v. A time already
passed, within the last 2^31 us where it is one of TMB_NOW, expires in the next us (R107). -/
def tsetAt (now : Nat) (abs : Bool) (v : Nat) : Nat :=
  if abs then
    let gone := (BitVec.ofNat 32 now - BitVec.ofNat 32 v).toNat
    if gone = 0 then now else if gone < 2 ^ 31 then now + 1 else now + (2 ^ 32 - gone)
  else if v < now then now + 1 else v

/-- TSET: timer n of core c is armed. -/
def State.armTimer (s : State) (c : CoreId) (n : Fin 8) (abs : Bool) (v : Nat) : State :=
  s.modCore c fun C => C.setTimer n (some (tsetAt s.us abs v))

/-- TCLR: disarmed, and its event withdrawn if not yet dispatched. -/
def Core.clearTimer (C : Core) (n : Fin 8) : Core :=
  let cls := 0x10 + n.val
  { C.setTimer n none with
    jobs := C.jobs.filter fun j => decide (j.cls ≠ cls)
    reoffer := C.reoffer.filter fun r => decide (r.cls ≠ cls)
    held := C.held.filter fun r => decide (r.cls ≠ cls) }

/-- AWAIT binds a slot to a class, replacing an unused binding. -/
def Core.bind' (C : Core) (cls slot : Nat) : Core :=
  { C with awaits := (cls, slot) :: C.awaits.filter fun x => decide (x.1 ≠ cls) }

/-! ### SYS LOG (R116) -/

/-- LOG: 16 records at most. -/
def State.logOp (s : State) (c : CoreId) (typ : Nat) (b : List Byte) : Nat × State :=
  if 16 ≤ (s.core c).logs.length then (stFull, s)
  else (stDone, s.modCore c fun C => { C with logs := C.logs ++ [(typ, b)] })

/-- The arbiter takes the oldest record of the lowest-numbered core that has one (R116; log 40). -/
def State.drainLog (s : State) : State :=
  if !s.arbUp then s
  else match (List.finRange 9).find? fun c => !(s.core c).logs.isEmpty with
    | none => s
    | some c =>
      match (s.core c).logs with
      | [] => s
      | x :: r => (s.modCore c fun C => { C with logs := r }).faultAdd (s.faultEntry c (BitVec.ofNat 8 x.1) x.2)

/-! ### What a staged effect does -/

/-- A result that counts only when the status is DONE: a refused operation changes nothing at a release (R150). -/
def onlyDone (s : State) (r : Nat × State) : Nat × State := (r.1, if r.1 = 0 then r.2 else s)

/-- A staged effect carried out on port p's file core for the handler of job j: status (0 where the instruction returns
none) and state (R117, R120). -/
def State.apply (s : State) (p : PortId) (j : Job) (x : Staged) : Nat × State :=
  let c := fileCore p
  match x with
  | .store a b => (0, s.storeBytes c a b)
  | .reg a b => (0, s.coreStore (.file p) a b)
  | .qpush k b _ => onlyDone s (s.qpushOp c k.val b)
  | .qpop k _ => let r := s.qpopOp c k.val; (r.1, r.2.2)
  | .qpeekEvent k _ _ _ => ((s.qpeekEventOp c k.val j.queue j.seq).1, s)
  | .qpeekSlot k n _ => ((s.qpeekSlotOp c k.val n).1, s)
  | .lrsv amt _ => lrsvOp s p false 0 amt.toNat
  | .lcmt amt _ => lcmtOp s p false amt.toNat
  | .lrelGrant amt _ => lrelGOp s p amt.toNat
  | .lrelRsv amt _ => lrelROp s p false amt.toNat
  | .act k v _ => onlyDone s (s.actWrite p k.val v)
  | .chk n => (0, if h : n < 16 then s.checkIn c ⟨n, h⟩ false else s)
  | .log t b _ => s.logOp c t b
  | .tset n abs v => (0, s.armTimer c n abs v)
  | .tclr n => (0, s.modCore c fun C => C.clearTimer n)
  | .await cls n => (0, s.modCore c fun C => C.bind' cls n)

/-- The status the premove saw, none for an effect that returns no status. -/
def Staged.seen : Staged → Option Word
  | .qpush _ _ w | .qpop _ w | .qpeekEvent _ _ _ w | .qpeekSlot _ _ w | .lrsv _ w | .lcmt _ w | .lrelGrant _ w
  | .lrelRsv _ w | .act _ _ w | .log _ _ w => some w
  | .store _ _ | .reg _ _ | .chk _ | .tset _ _ _ | .tclr _ | .await _ _ => none

/-- The entry under reception of a port's queue, as its premove sees it (R72, R110). -/
def rxEntry (r : RxFrame) (st : EntSt) : Entry :=
  { st, len := BitVec.ofNat 8 r.data.length, hdr := r.hdr, ext := if hdrExt r.hdr then r.ext else 0
    flg := BitVec.ofNat 8 (bitAt 7 (hdrExt r.hdr) + r.sop.idx.val), data := toVec 28 r.data, time := r.time }

/-- The state with the reserved RX slot in its queue: what the port's premove sees (R72). -/
def State.withRx (s : State) (p : PortId) : State :=
  match (s.port p).pd.rx with
  | some r => if r.slot then s.modQ p (rxQ r.sop) fun q => q.push (rxEntry r .receiving) else s
  | none => s

/-- What a staged effect counts for in the statuses of what follows (R119): the status it saw stands, so a refused one
counts for nothing, and one that was DONE counts whatever the state has become. A check-in counts only at release (R149). -/
def State.foresee (s : State) (p : PortId) (j : Job) (x : Staged) : State :=
  match x with
  | .lrsv amt w => if w = 0 then s.lrsvDo p false amt.toNat else s
  | .lcmt amt w => if w = 0 then s.lcmtDo p false amt.toNat else s
  | .lrelGrant amt w => if w = 0 then s.lrelGDo p amt.toNat else s
  | .lrelRsv amt w => if w = 0 then s.lrelRDo p false amt.toNat else s
  | .qpush _ _ w | .qpop _ w | .act _ _ w | .log _ _ w => if w = 0 then (s.apply p j x).2 else s
  | .chk _ | .qpeekEvent _ _ _ _ | .qpeekSlot _ _ _ => s
  | .store _ _ | .reg _ _ | .tset _ _ _ | .tclr _ | .await _ _ => (s.apply p j x).2

/-- The state with the premove's staged effects counted, for the statuses of what follows (R119). -/
def State.projected (s : State) (p : PortId) (h : Handler) : State :=
  h.staged.foldl (fun s x => s.foresee p h.job x) (s.withRx p)

/-- Tentative reservations of the other ports' premoves (R157). -/
def State.tentOthers (s : State) (p : PortId) : Nat := s.tentSum - s.tentOf p

/-! ### Play (R120, R155) -/

/-- Every staged status, judged again in one tick with the effects staged before it, equals the one the premove saw (R120).
A check-in has no status, and counts at the release alone. -/
def State.confirmed (s : State) (p : PortId) (j : Job) : List Staged → Bool
  | [] => true
  | x :: r =>
    let y := match x with
      | .chk _ => (0, s)
      | .store _ _ | .reg _ _ | .qpush _ _ _ | .qpop _ _ | .qpeekEvent _ _ _ _ | .qpeekSlot _ _ _ | .lrsv _ _ | .lcmt _ _
      | .lrelGrant _ _ | .lrelRsv _ _ | .act _ _ _ | .log _ _ _ | .tset _ _ _ | .tclr _ | .await _ _ => s.apply p j x
    (match x.seen with
      | some w => decide (w = BitVec.ofNat 32 y.1)
      | none => true) && y.2.confirmed p j r

/-- The staged effects carried out in program order (R155). A check-in that makes the core's flag unit fall stops the core:
the premove is then taken back with cause RESTART, and what was staged after it is never carried out (R153, R306; log 123). -/
def State.release (s : State) (p : PortId) (j : Job) : List Staged → State
  | [] => s
  | x :: r =>
    let y := (s.apply p j x).2
    if (y.premove p).isNone then y else y.release p j r

end Sys2Proof.Machine
end

