-- ==== Sys2Proof/Machine/Handlers.lean ====
section
/-! DEFINITION. Handlers: dispatch (R86, R131-R133, R146), the end of a handler (R105), faults (R122-R124), and the runner
every instruction goes through: fetch, legality, step count, loop ends (R88, R94, R96, R102, R123). -/

namespace Sys2Proof.Machine

/-! ### End of a handler -/

/-- The completion of a job is recorded where Pn_CR_LASTBRK waits for it (R145). -/
def Core.complete (C : Core) (j : Job) (now : Word) : Core :=
  if C.cr.lbId = some j.id then { C with cr := { C.cr with lbComplete := now, lbId := none } } else C

/-- The running handler is over: the core is free; at the end of START, or of the FAULT handler of START, the core runs
(R105, R125; log 41). -/
def State.endHandler (s : State) (c : CoreId) (h : Handler) : State :=
  let s1 := s.modCore c fun C => { C.complete h.job s.now with run := none, loops := [], ret := [] }
  if (s.core c).st = .loading then s1.finishStart c else s1

/-! ### Faults (R122-R124) -/

/-- The fault record (Pn_CR_FAULT). -/
def Core.faultRecord (C : Core) (h : Handler) (code : Nat) (now : Word) : Core :=
  { C with cr := { C.cr with
      fault := BitVec.ofNat 32 (code * 2 ^ 16 + h.job.slot * 2 ^ 8 + bitAt 7 h.premove + h.job.cls)
      fpc := C.pc.setWidth 32, fsteps := BitVec.ofNat 32 h.steps, ftime := now
      evt := if h.premove then C.cr.evt else setB C.cr.evt 4 true } }

/-- The handler of a job begins: registers 0, stacks empty, the entry word next (R86). -/
def Core.start (C : Core) (j : Job) (now : Word) (premove : Bool) : Core :=
  let i := C.image.bind fun im => im.slot j.slot
  { C with
    g := Vector.replicate 16 0, pc := (i.map fun i => i.e.entry).getD 0, ret := [], loops := []
    run := some { job := j, bound := (i.map fun i => i.bound).getD 0, start := now, premove } }

/-- The core stops after a fault (R124), and its recovery begins (R309). -/
def State.faultStop (s : State) (c : CoreId) (h : Handler) : State :=
  (s.modCore c fun C => { C.complete h.job s.now with run := none, st := .faulted }).coreFailure c 2

/-- A fault of the running handler (R124). A fault in a premove is a take-back; its slot and deadline stay with the frame
for the rerun. Outside a premove the handler is aborted, and the FAULT event is raised in its band with its deadline (R125,
R134); the core, free again, takes the job that goes first (R132). -/
def State.fault (s : State) (c : CoreId) (code : Nat) : State :=
  match (s.core c).run with
  | none => s
  | some h =>
    if h.premove then
      match corePort c with
      | none => s
      | some p =>
        ((s.modCore c fun C => C.faultRecord h code s.now).takeBack p .fault).modPd p fun d =>
          { d with rx := d.rx.map fun r => { r with again := some (h.job.slot, h.job.deadline) } }
    else
      let code' := if h.job.cls = 13 then 8 else code
      let s1 := s.modCore c fun C => C.faultRecord h code' s.now
      if h.job.cls = 13 then s1.faultStop c h
      else match (s1.core c).slotFor 13 none with
        | none => (s1.modCore c Core.unhandled).faultStop c h
        | some n => s1.modCore c fun C =>
          let C1 := { C.complete h.job s.now with run := none, ret := [], loops := [] }
          C1.pend { C1.mkJob s.now { cls := 13, arg := BitVec.ofNat 32 code } n h.job.nc with deadline := h.job.deadline }

/-! ### Dispatch (R132, R133, R146, R147) -/

/-- An EARLY job whose frame is still under reception is held while premoves are off (R147). -/
def State.eligible (s : State) (c : CoreId) (j : Job) : Bool :=
  if j.inRx then match corePort c with
    | some p => s.pmv.ports[p].en
    | none => false
  else true

/-- Job a goes before job b of the same band (R132): earlier deadline, lower class, earlier event. -/
def Job.before (now : Word) (a b : Job) : Bool :=
  let x := until' now a.deadline
  let y := until' now b.deadline
  if x ≠ y then decide (x < y)
  else if a.cls ≠ b.cls then decide (a.cls < b.cls) else decide (until' now a.time < until' now b.time)

/-- The first job of a list under R132. -/
def firstJob (now : Word) (l : List Job) : Option Job :=
  l.foldl (fun a j => match a with
    | none => some j
    | some x => if j.before now x then some j else a) none

/-- The job a free core takes next. -/
def State.nextJob (s : State) (c : CoreId) : Option Job :=
  let l := (s.core c).jobs.filter (s.eligible c)
  match l.find? fun j => decide (j.cls = 0) with
  | some j => some j
  | none =>
    match firstJob s.now (l.filter fun j => !j.nc) with
    | some j => some j
    | none => firstJob s.now (l.filter fun j => j.nc)

/-- R132: a free core takes its next job. An EARLY event dispatched before its frame has ended runs as a premove; at the start
of a rerun premove scratch is undefined (R151). -/
def State.dispatch (s : State) (c : CoreId) : State :=
  let C := s.core c
  if C.run.isSome ∨ (C.st ≠ .running ∧ C.st ≠ .loading) then s
  else match s.nextJob c with
    | none => s
    | some j =>
      let s1 := s.modCore c fun C =>
        ({ C with jobs := C.jobs.filter fun x => decide (x.id ≠ j.id) } : Core).start j s.now j.inRx
      if j.rerun then s1.scratchFree c else s1

/-! ### The runner -/

/-- What the body of an instruction answers: the next word in sequence, a transfer to word t (`falls`: in sequence, so
iterations may end there; `taken`: the dearer cost), the end of the handler, a fault, or a stall. -/
inductive Exec where
  | ok (s : State)
  | to (s : State) (t : Nat) (falls taken : Bool)
  | done (s : State)
  | fault (code : Nat)
  | stall (data : Bool)

/-- Registers written by loop ends. -/
def Core.setGs (C : Core) (l : List (BitVec 4 × Word)) : Core := l.foldl (fun C x => C.setG x.1 x.2) C

/-- Steps added to the running handler. -/
def Core.addSteps (C : Core) (n : Nat) : Core := { C with run := C.run.map fun h => { h with steps := h.steps + n } }

/-- After an instruction that goes on at word t: the loop ends of a sequential arrival, the step count, the pc; a count
above the bound faults OVERSTEP instead, from the state before the instruction (R123). -/
def State.goOn (s0 : State) (c : CoreId) (h : Handler) (w : Word) (s : State) (t : Nat) (falls taken : Bool) : State :=
  let C := s.core c
  let e : LoopEnd := if falls then endLoops C.ret.length t C.loops else { pc := t, loops := C.loops }
  let cost := wordCost w taken + e.cost
  if h.bound < h.steps + cost then s0.fault c 6
  else if C.run.isNone then s
  else s.modCore c fun C =>
    (({ C with pc := BitVec.ofNat 18 e.pc, loops := e.loops } : Core).setGs e.writes).addSteps cost

/-- The word is refused on the core (R94, R106). -/
def State.illegal (s : State) (c : CoreId) (w : Word) : Bool :=
  wordBad w || scopeBad (isArb c) w || awaitBad (((s.core c).image.map fun im => im.table).getD []) w

/-- The stall mark of the running handler. -/
def Core.setStall (C : Core) (x : Option Stall) : Core := { C with run := C.run.map fun h => { h with stall := x } }

/-- One instruction of a running handler: word w whose effect is `body`. A core that runs no handler, whose premove has
ended or is stalled, or that the debug port holds halted, executes nothing (logs 11, 36). -/
def State.exec (s : State) (c : CoreId) (w : Word) (body : State → Exec) : State :=
  match (s.core c).run with
  | none => s
  | some h =>
    if h.ended || h.stall.isSome || s.halted c then s
    else if (s.core c).codeEnd ≤ (s.core c).pc.toNat then s.fault c 3
    else if s.fetchBad c then s.fault c 7
    else if s.illegal c w then s.fault c 1
    else
      let t := (s.core c).pc.toNat + 1
      let overstep := decide (h.bound < h.steps + wordCost w false)
      match body s with
      | .ok s1 => s.goOn c h w s1 t true false
      | .to s1 t1 falls taken => s.goOn c h w s1 t1 falls taken
      | .done s1 =>
        if overstep then s.fault c 6
        else if h.premove then (s1.modCore c fun C => { C.addSteps (wordCost w false) with
          run := (C.addSteps (wordCost w false)).run.map fun h => { h with ended := true } })
        else s1.endHandler c h
      | .fault k => s.fault c (if overstep then 6 else k)
      | .stall data =>
        if overstep then s.fault c 6 else s.modCore c fun C => C.setStall (some (if data then .data w else .buffer w))

/-! ### Staging (R117, R118) -/

/-- There is room for n effect-buffer and m store-buffer entries. -/
def State.room (s : State) (c : CoreId) (n m : Nat) : Bool :=
  match (s.core c).run with
  | none => false
  | some h => decide (h.eff + n ≤ 32) && decide (h.sto + m ≤ 64)

/-- Effects staged in program order; the high-water marks follow (PMV_n_HWM). -/
def State.stage (s : State) (c : CoreId) (l : List Staged) : State :=
  let s1 := s.modCore c fun C => { C with run := C.run.map fun h => { h with staged := h.staged ++ l } }
  match corePort c, (s1.core c).run with
  | some p, some h => s1.modPmv p fun r => { r with hwmEff := max r.hwmEff h.eff, hwmSto := max r.hwmSto h.sto }
  | _, _ => s1

/-- The running handler. -/
def State.handler (s : State) (c : CoreId) : Handler := (s.core c).run.getD { job := { cls := 0, slot := 0 }, bound := 0 }

/-- The state a status of core c's premove is judged on: its own staged effects carried out (R119). -/
def State.seenBy (s : State) (c : CoreId) : State :=
  match corePort c with
  | some p => s.projected p (s.handler c)
  | none => s

/-- An instruction without a status: staged in a premove, else carried out. -/
def State.effect (s : State) (c : CoreId) (x : Staged) (act : State → State) : Exec :=
  if s.inPremove c then (if s.room c x.eff x.sto then .ok (s.stage c [x]) else .stall false) else .ok (act s)

/-- An instruction with a status in g[d]: in a premove judged by `seen` and staged as `mk` of it, else carried out. -/
def State.status (s : State) (c : CoreId) (d : BitVec 4) (seen : State → Nat) (mk : Word → Staged)
    (act : State → Nat × State) : Exec :=
  if s.inPremove c then
    let st := BitVec.ofNat 32 (seen s)
    if s.room c (mk st).eff (mk st).sto then .ok ((s.stage c [mk st]).putG c d st) else .stall false
  else
    let r := act s
    .ok (r.2.putG c d (BitVec.ofNat 32 r.1))

end Sys2Proof.Machine
end

