-- ==== Sys2Proof/Machine/Alu.lean ====
section
/-! DEFINITION. Arithmetic, comparison, shift, immediate and bit-field instructions (R95, R97, R98, R100). -/

namespace Sys2Proof.Machine

/-! ### The operations -/

/-- A truth value as a register value. -/
def ofBool (b : Bool) : Word := if b then 1 else 0

def aluShl (a b : Word) : Word := a <<< (b.toNat % 32)
def aluShr (a b : Word) : Word := a >>> (b.toNat % 32)
def aluSar (a b : Word) : Word := a.sshiftRight (b.toNat % 32)
def aluSlt (a b : Word) : Word := ofBool (a.slt b)
def aluSltu (a b : Word) : Word := ofBool (decide (a < b))
def aluMin (a b : Word) : Word := if a.slt b then a else b
def aluMax (a b : Word) : Word := if a.slt b then b else a
def aluMinu (a b : Word) : Word := if a < b then a else b
def aluMaxu (a b : Word) : Word := if a < b then b else a
/-- Unsigned sum saturating at 0xFFFF_FFFF. -/
def aluAddsu (a b : Word) : Word := if a.toNat + b.toNat < 2 ^ 32 then a + b else 0xFFFFFFFF
/-- Unsigned difference saturating at 0. -/
def aluSubsu (a b : Word) : Word := if b ≤ a then a - b else 0
/-- High half of the signed product. -/
def aluMulh (a b : Word) : Word := BitVec.ofInt 32 (a.toInt * b.toInt / 2 ^ 32)
/-- High half of the unsigned product. -/
def aluMulhu (a b : Word) : Word := BitVec.ofNat 32 (a.toNat * b.toNat / 2 ^ 32)
/-- Signed quotient, truncated toward 0; 0 for a divisor of 0 (R98). -/
def aluDiv (a b : Word) : Word := BitVec.ofInt 32 (if b = 0 then 0 else Int.tdiv a.toInt b.toInt)
/-- Unsigned quotient; 0 for a divisor of 0. -/
def aluDivu (a b : Word) : Word := BitVec.ofNat 32 (a.toNat / b.toNat)
/-- Signed remainder with the dividend's sign; the dividend for a divisor of 0. -/
def aluRem (a b : Word) : Word := BitVec.ofInt 32 (if b = 0 then a.toInt else Int.tmod a.toInt b.toInt)
/-- Unsigned remainder; the dividend for a divisor of 0. -/
def aluRemu (a b : Word) : Word := BitVec.ofNat 32 (a.toNat % b.toNat)

/-- Position and width of a bit field (R100). -/
def fieldPos (sub : BitVec 14) : Nat := fld sub 5 5
def fieldWidth (sub : BitVec 14) : Nat := fld sub 0 5 + 1

/-- EXT, EXTS and INS on values (R100). -/
def fieldExt (a : Word) (pos width : Nat) : Word := BitVec.ofNat 32 (fld a pos width)
def fieldExts (a : Word) (pos width : Nat) : Word := (BitVec.ofNat width (fld a pos width)).signExtend 32
def fieldIns (d a : Word) (pos width : Nat) : Word := setF d pos width a.toNat

/-! ### Shapes -/

/-- A register-form instruction: d = g of a and b. -/
def State.opA (s : State) (c : CoreId) (op : Nat) (f : FormA) (g : Word → Word → Word) : State :=
  s.exec c (encA op f) fun s => .ok (s.putG c f.d (g (s.gr c f.a) (s.gr c f.b)))

/-- An immediate-form instruction: d = g of a and imm18. -/
def State.opI (s : State) (c : CoreId) (op : Nat) (f : FormI) (g : Word → BitVec 18 → Word) : State :=
  s.exec c (encI op f) fun s => .ok (s.putG c f.d (g (s.gr c f.a) f.imm))

/-- A bit-field instruction: d = g of d, a, pos and width. -/
def State.opF (s : State) (c : CoreId) (op : Nat) (f : FormA) (g : Word → Word → Nat → Nat → Word) : State :=
  s.exec c (encA op f) fun s => .ok (s.putG c f.d (g (s.gr c f.d) (s.gr c f.a) (fieldPos f.sub) (fieldWidth f.sub)))

/-! ### The instructions (R97) -/

/-- ADD. -/
def execAdd (c : CoreId) (f : FormA) (s : State) : Host.Outcome State Fault Refusal := .next (s.opA c 0x01 f fun a b => a + b)
/-- SUB. -/
def execSub (c : CoreId) (f : FormA) (s : State) : Host.Outcome State Fault Refusal := .next (s.opA c 0x02 f fun a b => a - b)
/-- AND. -/
def execAnd (c : CoreId) (f : FormA) (s : State) : Host.Outcome State Fault Refusal := .next (s.opA c 0x03 f fun a b => a &&& b)
/-- OR. -/
def execOr (c : CoreId) (f : FormA) (s : State) : Host.Outcome State Fault Refusal := .next (s.opA c 0x04 f fun a b => a ||| b)
/-- XOR. -/
def execXor (c : CoreId) (f : FormA) (s : State) : Host.Outcome State Fault Refusal := .next (s.opA c 0x05 f fun a b => a ^^^ b)
/-- SHL. -/
def execShl (c : CoreId) (f : FormA) (s : State) : Host.Outcome State Fault Refusal := .next (s.opA c 0x06 f aluShl)
/-- SHR. -/
def execShr (c : CoreId) (f : FormA) (s : State) : Host.Outcome State Fault Refusal := .next (s.opA c 0x07 f aluShr)
/-- SAR. -/
def execSar (c : CoreId) (f : FormA) (s : State) : Host.Outcome State Fault Refusal := .next (s.opA c 0x08 f aluSar)
/-- SLT. -/
def execSlt (c : CoreId) (f : FormA) (s : State) : Host.Outcome State Fault Refusal := .next (s.opA c 0x09 f aluSlt)
/-- SLTU. -/
def execSltu (c : CoreId) (f : FormA) (s : State) : Host.Outcome State Fault Refusal := .next (s.opA c 0x0A f aluSltu)
/-- MIN. -/
def execMin (c : CoreId) (f : FormA) (s : State) : Host.Outcome State Fault Refusal := .next (s.opA c 0x0B f aluMin)
/-- MAX. -/
def execMax (c : CoreId) (f : FormA) (s : State) : Host.Outcome State Fault Refusal := .next (s.opA c 0x0C f aluMax)
/-- MINU. -/
def execMinu (c : CoreId) (f : FormA) (s : State) : Host.Outcome State Fault Refusal := .next (s.opA c 0x0D f aluMinu)
/-- MAXU. -/
def execMaxu (c : CoreId) (f : FormA) (s : State) : Host.Outcome State Fault Refusal := .next (s.opA c 0x0E f aluMaxu)
/-- ADDSU. -/
def execAddsu (c : CoreId) (f : FormA) (s : State) : Host.Outcome State Fault Refusal := .next (s.opA c 0x0F f aluAddsu)
/-- SUBSU. -/
def execSubsu (c : CoreId) (f : FormA) (s : State) : Host.Outcome State Fault Refusal := .next (s.opA c 0x10 f aluSubsu)
/-- MUL. -/
def execMul (c : CoreId) (f : FormA) (s : State) : Host.Outcome State Fault Refusal := .next (s.opA c 0x11 f fun a b => a * b)
/-- MULH. -/
def execMulh (c : CoreId) (f : FormA) (s : State) : Host.Outcome State Fault Refusal := .next (s.opA c 0x12 f aluMulh)
/-- MULHU. -/
def execMulhu (c : CoreId) (f : FormA) (s : State) : Host.Outcome State Fault Refusal := .next (s.opA c 0x13 f aluMulhu)
/-- DIV. -/
def execDiv (c : CoreId) (f : FormA) (s : State) : Host.Outcome State Fault Refusal := .next (s.opA c 0x14 f aluDiv)
/-- DIVU. -/
def execDivu (c : CoreId) (f : FormA) (s : State) : Host.Outcome State Fault Refusal := .next (s.opA c 0x15 f aluDivu)
/-- REM. -/
def execRem (c : CoreId) (f : FormA) (s : State) : Host.Outcome State Fault Refusal := .next (s.opA c 0x16 f aluRem)
/-- REMU. -/
def execRemu (c : CoreId) (f : FormA) (s : State) : Host.Outcome State Fault Refusal := .next (s.opA c 0x17 f aluRemu)
/-- ADDI (R95). -/
def execAddi (c : CoreId) (f : FormI) (s : State) : Host.Outcome State Fault Refusal := .next (s.opI c 0x18 f fun a i => a + immSx i)
/-- ANDI. -/
def execAndi (c : CoreId) (f : FormI) (s : State) : Host.Outcome State Fault Refusal := .next (s.opI c 0x19 f fun a i => a &&& immZx i)
/-- ORI. -/
def execOri (c : CoreId) (f : FormI) (s : State) : Host.Outcome State Fault Refusal := .next (s.opI c 0x1A f fun a i => a ||| immZx i)
/-- XORI. -/
def execXori (c : CoreId) (f : FormI) (s : State) : Host.Outcome State Fault Refusal := .next (s.opI c 0x1B f fun a i => a ^^^ immZx i)
/-- SHLI. -/
def execShli (c : CoreId) (f : FormI) (s : State) : Host.Outcome State Fault Refusal := .next (s.opI c 0x1C f fun a i => aluShl a (immZx i))
/-- SHRI. -/
def execShri (c : CoreId) (f : FormI) (s : State) : Host.Outcome State Fault Refusal := .next (s.opI c 0x1D f fun a i => aluShr a (immZx i))
/-- SARI. -/
def execSari (c : CoreId) (f : FormI) (s : State) : Host.Outcome State Fault Refusal := .next (s.opI c 0x1E f fun a i => aluSar a (immZx i))
/-- LUI. -/
def execLui (c : CoreId) (f : FormI) (s : State) : Host.Outcome State Fault Refusal := .next (s.opI c 0x1F f fun _ i => immZx i <<< 14)
/-- SLTI. -/
def execSlti (c : CoreId) (f : FormI) (s : State) : Host.Outcome State Fault Refusal := .next (s.opI c 0x20 f fun a i => aluSlt a (immSx i))
/-- SLTIU. -/
def execSltiu (c : CoreId) (f : FormI) (s : State) : Host.Outcome State Fault Refusal := .next (s.opI c 0x21 f fun a i => aluSltu a (immZx i))
/-- MULI. -/
def execMuli (c : CoreId) (f : FormI) (s : State) : Host.Outcome State Fault Refusal := .next (s.opI c 0x22 f fun a i => a * immSx i)
/-- EXT (R100). -/
def execExt (c : CoreId) (f : FormA) (s : State) : Host.Outcome State Fault Refusal := .next (s.opF c 0x2B f fun _ a p w => fieldExt a p w)
/-- EXTS. -/
def execExts (c : CoreId) (f : FormA) (s : State) : Host.Outcome State Fault Refusal := .next (s.opF c 0x2C f fun _ a p w => fieldExts a p w)
/-- INS. -/
def execIns (c : CoreId) (f : FormA) (s : State) : Host.Outcome State Fault Refusal := .next (s.opF c 0x2D f fieldIns)
/-- TEVT (R107): the handler's event time. -/
def execTevt (c : CoreId) (f : FormA) (s : State) : Host.Outcome State Fault Refusal :=
  .next (s.exec c (encA 0x36 f) fun s => .ok (s.putG c f.d (s.handler c).job.time))

end Sys2Proof.Machine
end

