-- ==== Sys2Proof/Machine/Control.lean ====
section
/-! DEFINITION. Branches, loops, calls and the ends of a handler (R101-R106). -/

namespace Sys2Proof.Machine

/-- BR: not taken, the next word; taken, the loops whose bodies it exits are left (R101, R102). -/
def State.brBody (s : State) (c : CoreId) (f : FormB) : Exec :=
  let C := s.core c
  let t := C.pc.toNat + f.off.toNat
  if brTaken f.cond (s.gr c f.a) (s.gr c f.b) then
    .to (s.modCore c fun C => { C with loops := leaveLoops C.ret.length t C.loops }) t false true
  else .ok s

/-- LOOP: a count of 0 skips the body; otherwise the loop opens with its counter at the count (R102, R104). -/
def State.loopBody (s : State) (c : CoreId) (f : FormL) : Exec :=
  let C := s.core c
  let n := min (s.gr c f.ctr).toNat f.max.toNat
  let first := C.pc.toNat + 1
  if n = 0 then .to s (first + f.len.toNat) true true
  else if 32 ≤ C.loops.length then .fault 5
  else
    let l : LoopFrame := { first := BitVec.ofNat 18 first, last := BitVec.ofNat 18 (C.pc.toNat + f.len.toNat)
                           left := n, ctr := f.ctr, depth := C.ret.length }
    .to ((s.modCore c fun C => { C with loops := l :: C.loops }).putG c f.ctr (BitVec.ofNat 32 n)) first false false

/-- CALL (R104): a target outside the loaded code faults BAD_ADDRESS (R88). -/
def State.callBody (s : State) (c : CoreId) (f : FormI) : Exec :=
  let C := s.core c
  if C.codeEnd ≤ f.imm.toNat then .fault 3
  else if 8 ≤ C.ret.length then .fault 5
  else .to (s.modCore c fun C => { C with ret := (C.pc + 1) :: C.ret }) f.imm.toNat false false

/-- RET (R104): the loops of the returning function close. -/
def State.retBody (s : State) (c : CoreId) : Exec :=
  match (s.core c).ret with
  | [] => .fault 5
  | t :: r => .to (s.modCore c fun C => { C with ret := r, loops := closeLoops C.ret.length C.loops }) t.toNat true false

/-- AWAIT (R106): the binding is made, in a premove staged. -/
def State.awaitBody (s : State) (c : CoreId) (f : FormQ) : Exec :=
  let cls := fld f.sub 6 6
  match s.effect c (.await cls f.n.toNat) fun s => s.modCore c fun C => C.bind' cls f.n.toNat with
  | .ok s1 => .done s1
  | .to s1 _ _ _ => .done s1
  | .done s1 => .done s1
  | .fault k => .fault k
  | .stall d => .stall d

/-- BR. -/
def execBr (c : CoreId) (f : FormB) (s : State) : Host.Outcome State Fault Refusal :=
  .next (s.exec c (encB 0x2E f) fun s => s.brBody c f)
/-- LOOP. -/
def execLoop (c : CoreId) (f : FormL) (s : State) : Host.Outcome State Fault Refusal :=
  .next (s.exec c (encL 0x2F f) fun s => s.loopBody c f)
/-- CALL. -/
def execCall (c : CoreId) (f : FormI) (s : State) : Host.Outcome State Fault Refusal :=
  .next (s.exec c (encI 0x30 f) fun s => s.callBody c f)
/-- RET. -/
def execRet (c : CoreId) (f : FormA) (s : State) : Host.Outcome State Fault Refusal :=
  .next (s.exec c (encA 0x31 f) fun s => s.retBody c)
/-- END (R105). -/
def execEndI (c : CoreId) (f : FormA) (s : State) : Host.Outcome State Fault Refusal :=
  .next (s.exec c (encA 0x32 f) fun s => .done s)
/-- AWAIT. -/
def execAwait (c : CoreId) (f : FormQ) (s : State) : Host.Outcome State Fault Refusal :=
  .next (s.exec c (encQ 0x33 f) fun s => s.awaitBody c f)

end Sys2Proof.Machine
end

