-- ==== Sys2Proof/Machine/QueueIns.lean ====
section
/-! DEFINITION. Timer and queue instructions (R107-R111). A row that is one form of an instruction fixes the field that
selects the form: `selBit`, `selSub`. -/

namespace Sys2Proof.Machine

/-! ### Timers (R107, R121) -/

/-- Timer number of a word. -/
def timerOf (f : FormQ) : Fin 8 := ⟨f.n.toNat % 8, by omega⟩

/-- TSET, to a us since power-on or to a value of TMB_NOW. -/
def State.tsetBody (s : State) (c : CoreId) (f : FormQ) (abs : Bool) (v : Nat) : Exec :=
  s.effect c (.tset (timerOf f) abs v) fun s => s.armTimer c (timerOf f) abs v

/-- The us since power-on of a handler's event time. -/
def State.eventUs (s : State) (c : CoreId) : Nat := s.us - (s.now - (s.handler c).job.time).toNat

/-- TCLR. -/
def State.tclrBody (s : State) (c : CoreId) (f : FormQ) : Exec :=
  s.effect c (.tclr (timerOf f)) fun s => s.modCore c fun C => C.clearTimer (timerOf f)

/-- TSET with the time its form bit selects. -/
def State.tsetAny (s : State) (c : CoreId) (f : FormQ) : Exec :=
  if f.sub.getLsbD 0 then s.tsetBody c f true (s.gr c f.a).toNat
  else s.tsetBody c f false (s.eventUs c + (s.gr c f.a).toNat)

/-! ### Queue instructions -/

/-- The queue number of a word as a staged effect names it. -/
def queueK (f : FormQ) : Fin 8 := ⟨f.n.toNat % 8, by omega⟩

/-- QPUSH (R109). -/
def State.qpushBody (s : State) (c : CoreId) (f : FormQ) : Exec :=
  let a := (s.gr c f.a).toNat
  let k := s.readFault c 4 a 40
  if k ≠ 0 then .fault k
  else
    let r := s.loadBytes c a 40
    r.2.status c f.d (fun s => ((s.seenBy c).qpushOp c f.n.toNat r.1).1) (.qpush (queueK f) r.1) fun s => s.qpushOp c f.n.toNat r.1

/-- Bytes of a frame's data written into its RX slot so far (R72). -/
def RxFrame.written (r : RxFrame) : Nat := r.data.length + if hdrExt r.hdr then 2 else 0

/-- The entry is under reception on the port of core c with fewer than n data objects written (R110). -/
def State.awaits (s : State) (c : CoreId) (e : Entry) (n : Nat) : Bool :=
  match corePort c with
  | none => false
  | some p => match (s.port p).pd.rx with
    | none => false
    | some r => decide (e.st = .receiving) && !r.ended && decide (r.written < 4 * n)

/-- The ten store-buffer entries of a copy (R117). -/
def copyStaged (a : Nat) (b : List Byte) : List Staged :=
  (List.range 10).map fun i => .store (a + 4 * i) ((b.drop (4 * i)).take 4)

/-- A premove's queue instruction with its status, staged mark and the entry to copy (R117, R118). -/
def State.copyOut (s : State) (c : CoreId) (d : BitVec 4) (a : Nat) (mark : Word → Staged) (r : Nat × Option Entry)
    (objs : Nat) : Exec :=
  let st := BitVec.ofNat 32 r.1
  match r.2 with
  | none => if s.room c 1 0 then .ok ((s.stage c [mark st]).putG c d st) else .stall false
  | some e =>
    let scratch := decide (region (isArb c) a = .scratch)
    if s.awaits c e objs then .stall true
    else if !s.room c 1 (if scratch then 0 else 10) then .stall false
    else if scratch then .ok (((s.stage c [mark st]).storeBytes c a e.bytes).putG c d st)
    else .ok ((s.stage c (mark st :: copyStaged a e.bytes)).putG c d st)

/-- Outside a premove: the copy at once. -/
def State.copyNow (s : State) (c : CoreId) (d : BitVec 4) (a : Nat) (st : Nat) (e : Option Entry) : Exec :=
  .ok ((match e with
    | some e => s.storeBytes c a e.bytes
    | none => s).putG c d (BitVec.ofNat 32 st))

/-- QPOP (R110). -/
def State.qpopBody (s : State) (c : CoreId) (f : FormQ) : Exec :=
  let a := (s.gr c f.a).toNat
  let k := storeFault c (s.core c).codeEnd 4 a 40
  if k ≠ 0 then .fault k
  else if s.inPremove c then
    let r := (s.seenBy c).qpopOp c f.n.toNat
    s.copyOut c f.d a (.qpop (queueK f)) (r.1, r.2.1) ((r.2.1.map fun e => hdrNdo e.hdr).getD 0)
  else
    let r := s.qpopOp c f.n.toNat
    r.2.2.copyNow c f.d a r.1 r.2.1

/-- QPEEK with EVT (R110). -/
def State.qpeekEventBody (s : State) (c : CoreId) (f : FormQ) : Exec :=
  let a := (s.gr c f.a).toNat
  let k := storeFault c (s.core c).codeEnd 4 a 40
  let j := (s.handler c).job
  if k ≠ 0 then .fault k
  else if s.inPremove c then
    s.copyOut c f.d a (.qpeekEvent (queueK f) j.queue j.seq) ((s.seenBy c).qpeekEventOp c f.n.toNat j.queue j.seq) (fld f.sub 4 3)
  else
    let r := s.qpeekEventOp c f.n.toNat j.queue j.seq
    s.copyNow c f.d a r.1 r.2

/-- QPEEK of a slot after the head (R110). -/
def State.qpeekSlotBody (s : State) (c : CoreId) (f : FormQ) : Exec :=
  let a := (s.gr c f.a).toNat
  let k := storeFault c (s.core c).codeEnd 4 a 40
  let n := fld f.sub 0 3
  if k ≠ 0 then .fault k
  else if s.inPremove c then
    s.copyOut c f.d a (.qpeekSlot (queueK f) n) ((s.seenBy c).qpeekSlotOp c f.n.toNat n) 0
  else
    let r := s.qpeekSlotOp c f.n.toNat n
    s.copyNow c f.d a r.1 r.2

/-! ### The instructions -/

/-- TSET with a relative time: g[a] us after the event time. -/
def execTsetRelative (c : CoreId) (f : FormQ) (s : State) : Host.Outcome State Fault Refusal :=
  .next (s.exec c (encQ 0x34 (selBit f 0 false)) fun s => s.tsetAny c (selBit f 0 false))
/-- TSET with an absolute time. -/
def execTsetAbsolute (c : CoreId) (f : FormQ) (s : State) : Host.Outcome State Fault Refusal :=
  .next (s.exec c (encQ 0x34 (selBit f 0 true)) fun s => s.tsetAny c (selBit f 0 true))
/-- TCLR. -/
def execTclr (c : CoreId) (f : FormQ) (s : State) : Host.Outcome State Fault Refusal :=
  .next (s.exec c (encQ 0x35 f) fun s => s.tclrBody c f)
/-- QPUSH. -/
def execQpush (c : CoreId) (f : FormQ) (s : State) : Host.Outcome State Fault Refusal :=
  .next (s.exec c (encQ 0x37 f) fun s => s.qpushBody c f)
/-- QPOP. -/
def execQpop (c : CoreId) (f : FormQ) (s : State) : Host.Outcome State Fault Refusal :=
  .next (s.exec c (encQ 0x38 f) fun s => s.qpopBody c f)
/-- QPEEK with EVT = 1. -/
def execQpeekEvent (c : CoreId) (f : FormQ) (s : State) : Host.Outcome State Fault Refusal :=
  .next (s.exec c (encQ 0x39 (selBit f 11 true)) fun s => s.qpeekEventBody c (selBit f 11 true))
/-- QPEEK with EVT = 0. -/
def execQpeekSlot (c : CoreId) (f : FormQ) (s : State) : Host.Outcome State Fault Refusal :=
  .next (s.exec c (encQ 0x39 (selBit f 11 false)) fun s => s.qpeekSlotBody c (selBit f 11 false))

end Sys2Proof.Machine
end

