-- ==== Sys2Proof/Machine/LedgerIns.lean ====
section
/-! DEFINITION. Ledger, actuator and SYS instructions (R112-R116, R119, R157). -/

namespace Sys2Proof.Machine

/-! ### Ledger (R112, R113) -/

/-- The port a ledger number names on core c; none is NOT_PERMITTED (R112). `idx` is g[a]. -/
def ledgerPort (c : CoreId) (n : Nat) (idx : Word) : Option PortId :=
  let m := if n = 63 then fld idx 0 4 else n
  if h : m < 8 then some ⟨m, h⟩ else if m = 8 then corePort c else none

/-- A ledger operation with a status: `seen` judges in a premove with the other premoves' reservations, `act` carries out
(R119, R157). -/
def State.ledgerBody (s : State) (c : CoreId) (f : FormQ) (mk : Word → Word → Staged)
    (op : State → PortId → Bool → Nat → Nat → Nat × State) : Exec :=
  let amt := s.gr c f.a
  match ledgerPort c f.n.toNat 0 with
  | none => .ok (s.putG c f.d (BitVec.ofNat 32 stNotPermitted))
  | some p => s.status c f.d (fun s => (op (s.seenBy c) p (isArb c) (s.tentOthers p) amt.toNat).1) (mk amt)
      fun s => op s p (isArb c) 0 amt.toNat

/-- The operations of R113 in the form `ledgerBody` takes. -/
def opLrsv (s : State) (p : PortId) (arb : Bool) (tent amt : Nat) : Nat × State := lrsvOp s p arb tent amt
def opLcmt (s : State) (p : PortId) (arb : Bool) (_ amt : Nat) : Nat × State := lcmtOp s p arb amt
def opLrelG (s : State) (p : PortId) (_ : Bool) (_ amt : Nat) : Nat × State := lrelGOp s p amt
def opLrelR (s : State) (p : PortId) (arb : Bool) (_ amt : Nat) : Nat × State := lrelROp s p arb amt

/-- The quantity LRD reads (R113, R157). -/
def State.lrdValue (s : State) (c : CoreId) (p : PortId) (k : Nat) : Nat :=
  match k with
  | 0 => s.ldg.grant[p]
  | 1 => s.ldg.rsv p
  | 2 => s.ceil p
  | 3 => s.pAvail
  | 4 => s.ldg.gsum
  | _ => if s.inPremove c then s.pAvail - (s.used + s.tentSum) else s.headroom

/-- LRD: 0xFFFF_FFFF for a port that is absent or may not be named. -/
def State.lrdBody (s : State) (c : CoreId) (f : FormQ) : Exec :=
  let k := fld f.sub 0 4
  let v : Word := match ledgerPort c f.n.toNat (s.gr c f.a) with
    | none => 0xFFFFFFFF
    | some p => if s.present p then BitVec.ofNat 32 (s.lrdValue c p k) else 0xFFFFFFFF
  .ok (s.putG c f.d v)

/-! ### Actuators (R114, R115) -/

/-- A write of the arbiter to actuator j of port p: GATE off and DSC on only (R115). -/
def State.arbAct (s : State) (p : PortId) (j : Nat) (v : Word) : Nat × State :=
  if s.present p && (decide (j = 3 ∧ v = 0) || decide (j = 4 ∧ v = 1)) then s.actWrite p j v else (stNotPermitted, s)

/-- ACT. A premove judges an actuator on its present state (R119). -/
def State.actBody (s : State) (c : CoreId) (f : FormQ) : Exec :=
  let v := s.gr c f.a
  match corePort c with
  | some p =>
    let j : Fin 8 := ⟨f.n.toNat % 8, by omega⟩
    s.status c f.d (fun s => (s.actWrite p j.val v).1) (.act j v) fun s => s.actWrite p j.val v
  | none =>
    let r := s.arbAct ⟨f.n.toNat / 8 % 8, by omega⟩ (f.n.toNat % 8) v
    .ok (r.2.putG c f.d (BitVec.ofNat 32 r.1))

/-! ### SYS (R116) -/

/-- CHK: a check-in of slot n. -/
def State.chkBody (s : State) (c : CoreId) (f : FormQ) : Exec :=
  let n : Fin 16 := ⟨f.n.toNat % 16, by omega⟩
  s.effect c (.chk n.val) fun s => s.checkIn c n false

/-- LOG: the 16 bytes at g[a] with record type n. -/
def State.logBody (s : State) (c : CoreId) (f : FormQ) : Exec :=
  let a := (s.gr c f.a).toNat
  let k := s.readFault c 4 a 16
  if k ≠ 0 then .fault k
  else
    let r := s.loadBytes c a 16
    r.2.status c f.d (fun s => ((s.seenBy c).logOp c f.n.toNat r.1).1) (.log f.n.toNat r.1) fun s => s.logOp c f.n.toNat r.1

/-- The link a word names (R116). -/
def linkOf (n : Nat) : FLink := if n = 0 then .u else if n = 1 then .d0 else .d1

/-- FSEND: a frame on a link, its 32 bytes 4-aligned like a queue copy (log 125). A link that is not enabled, a down link of
a device without an address, and a LEASE_REQ without FTLOCK are not permitted (R116, R249, R254; log 143). -/
def State.fsendBody (s : State) (c : CoreId) (f : FormQ) : Exec :=
  let a := (s.gr c f.a).toNat
  let k := s.readFault c 4 a 32
  let l := linkOf f.n.toNat
  if k ≠ 0 then .fault k
  else
    let r := s.loadBytes c a 32
    let r2 := r.2
    let x := frameOfBytes r.1
    if !r2.fab.linkEn l || (decide (l ≠ .u) && r2.fab.own.isNone) || (decide (x.typ = 1) && !r2.fab.ftlock) then .ok (r2.putG c f.d (BitVec.ofNat 32 stNotPermitted))
    else if 8 ≤ r2.fab.txq[l.idx].length then .ok (r2.putG c f.d (BitVec.ofNat 32 stFull))
    else .ok ((r2.modFab fun b => b.send l x).putG c f.d 0)

/-- FRECV: the oldest frame received on a link, to 32 bytes 4-aligned like a queue copy (log 125). -/
def State.frecvBody (s : State) (c : CoreId) (f : FormQ) : Exec :=
  let a := (s.gr c f.a).toNat
  let k := storeFault c (s.core c).codeEnd 4 a 32
  let l := linkOf f.n.toNat
  if k ≠ 0 then .fault k
  else match s.fab.rxq[l.idx] with
    | [] => .ok (s.putG c f.d (BitVec.ofNat 32 stEmpty))
    | x :: r => .ok (((s.modFab fun b => { b with rxq := b.rxq.set l.idx r }).storeBytes c a (frameBytes x)).putG c f.d 0)

/-- SYS, by its function. -/
def State.sysBody (s : State) (c : CoreId) (f : FormQ) : Exec :=
  match fld f.sub 8 4 with
  | 0 => s.chkBody c f
  | 1 => s.logBody c f
  | 2 => s.fsendBody c f
  | _ => s.frecvBody c f

/-! ### The instructions -/

/-- LRSV. -/
def execLrsv (c : CoreId) (f : FormQ) (s : State) : Host.Outcome State Fault Refusal :=
  .next (s.exec c (encQ 0x3A f) fun s => s.ledgerBody c f .lrsv opLrsv)
/-- LCMT. -/
def execLcmt (c : CoreId) (f : FormQ) (s : State) : Host.Outcome State Fault Refusal :=
  .next (s.exec c (encQ 0x3B f) fun s => s.ledgerBody c f .lcmt opLcmt)
/-- LREL of a grant. -/
def execLrelGrant (c : CoreId) (f : FormQ) (s : State) : Host.Outcome State Fault Refusal :=
  .next (s.exec c (encQ 0x3C (selBit f 0 false)) fun s => s.ledgerBody c f .lrelGrant opLrelG)
/-- LREL of a reservation. -/
def execLrelReservation (c : CoreId) (f : FormQ) (s : State) : Host.Outcome State Fault Refusal :=
  .next (s.exec c (encQ 0x3C (selBit f 0 true)) fun s => s.ledgerBody c f .lrelRsv opLrelR)
/-- LRD of a grant. -/
def execLrdGrant (c : CoreId) (f : FormQ) (s : State) : Host.Outcome State Fault Refusal :=
  .next (s.exec c (encQ 0x3D (selSub f 0 4 0)) fun s => s.lrdBody c (selSub f 0 4 0))
/-- LRD of a reservation. -/
def execLrdReservation (c : CoreId) (f : FormQ) (s : State) : Host.Outcome State Fault Refusal :=
  .next (s.exec c (encQ 0x3D (selSub f 0 4 1)) fun s => s.lrdBody c (selSub f 0 4 1))
/-- LRD of a derated ceiling. -/
def execLrdCeiling (c : CoreId) (f : FormQ) (s : State) : Host.Outcome State Fault Refusal :=
  .next (s.exec c (encQ 0x3D (selSub f 0 4 2)) fun s => s.lrdBody c (selSub f 0 4 2))
/-- LRD of the available power. -/
def execLrdAvailable (c : CoreId) (f : FormQ) (s : State) : Host.Outcome State Fault Refusal :=
  .next (s.exec c (encQ 0x3D (selSub f 0 4 3)) fun s => s.lrdBody c (selSub f 0 4 3))
/-- LRD of the sum of grants. -/
def execLrdGrantSum (c : CoreId) (f : FormQ) (s : State) : Host.Outcome State Fault Refusal :=
  .next (s.exec c (encQ 0x3D (selSub f 0 4 4)) fun s => s.lrdBody c (selSub f 0 4 4))
/-- LRD of the headroom. -/
def execLrdHeadroom (c : CoreId) (f : FormQ) (s : State) : Host.Outcome State Fault Refusal :=
  .next (s.exec c (encQ 0x3D (selSub f 0 4 5)) fun s => s.lrdBody c (selSub f 0 4 5))

/-- ACT on VSET. -/
def execActVset (c : CoreId) (f : FormQ) (s : State) : Host.Outcome State Fault Refusal :=
  .next (s.exec c (encQ 0x3E (selAct f 0)) fun s => s.actBody c (selAct f 0))
/-- ACT on ILIM. -/
def execActIlim (c : CoreId) (f : FormQ) (s : State) : Host.Outcome State Fault Refusal :=
  .next (s.exec c (encQ 0x3E (selAct f 1)) fun s => s.actBody c (selAct f 1))
/-- ACT on CONV. -/
def execActConv (c : CoreId) (f : FormQ) (s : State) : Host.Outcome State Fault Refusal :=
  .next (s.exec c (encQ 0x3E (selAct f 2)) fun s => s.actBody c (selAct f 2))
/-- ACT on GATE; the value in g[a] selects off, source on or ideal diode (R114), here 0b00. -/
def execActGateOff (c : CoreId) (f : FormQ) (s : State) : Host.Outcome State Fault Refusal :=
  .next (s.exec c (encQ 0x3E (selAct f 3)) fun s => s.actBody c (selAct f 3))
/-- ACT on GATE, with 0b01 in g[a] the turn-on of a source (R190). -/
def execActGateSourceOn (c : CoreId) (f : FormQ) (s : State) : Host.Outcome State Fault Refusal :=
  .next (s.exec c (encQ 0x3E (selAct f 3)) fun s => s.actBody c (selAct f 3))
/-- ACT on GATE, with 0b10 in g[a] the ideal diode of a sink (R425). -/
def execActGateIdealDiode (c : CoreId) (f : FormQ) (s : State) : Host.Outcome State Fault Refusal :=
  .next (s.exec c (encQ 0x3E (selAct f 3)) fun s => s.actBody c (selAct f 3))
/-- ACT on DSC. -/
def execActDsc (c : CoreId) (f : FormQ) (s : State) : Host.Outcome State Fault Refusal :=
  .next (s.exec c (encQ 0x3E (selAct f 4)) fun s => s.actBody c (selAct f 4))
/-- ACT on VCONN. -/
def execActVconn (c : CoreId) (f : FormQ) (s : State) : Host.Outcome State Fault Refusal :=
  .next (s.exec c (encQ 0x3E (selAct f 5)) fun s => s.actBody c (selAct f 5))

/-- SYS CHK. -/
def execChk (c : CoreId) (f : FormQ) (s : State) : Host.Outcome State Fault Refusal :=
  .next (s.exec c (encQ 0x3F (selSub f 8 4 0)) fun s => s.chkBody c f)
/-- SYS LOG. -/
def execLog (c : CoreId) (f : FormQ) (s : State) : Host.Outcome State Fault Refusal :=
  .next (s.exec c (encQ 0x3F (selSub f 8 4 1)) fun s => s.logBody c f)
/-- SYS FSEND. -/
def execFsend (c : CoreId) (f : FormQ) (s : State) : Host.Outcome State Fault Refusal :=
  .next (s.exec c (encQ 0x3F (selSub f 8 4 2)) fun s => s.fsendBody c f)
/-- SYS FRECV. -/
def execFrecv (c : CoreId) (f : FormQ) (s : State) : Host.Outcome State Fault Refusal :=
  .next (s.exec c (encQ 0x3F (selSub f 8 4 3)) fun s => s.frecvBody c f)

end Sys2Proof.Machine
end

