-- ==== Sys2Proof/Machine/Memory.lean ====
section
/-! DEFINITION. Loads and stores (R99, R117, R118). -/

namespace Sys2Proof.Machine

/-- A load of n bytes; `ext` makes the register value of the number read. -/
def State.loadBody (s : State) (c : CoreId) (f : FormI) (n : Nat) (ext : Nat → Word) : Exec :=
  let a := s.addr c f
  if s.readFault c n a n ≠ 0 then .fault (s.readFault c n a n)
  else
    let r := s.loadBytes c a n
    .ok (r.2.putG c f.d (ext (ofLe r.1)))

/-- A store of bytes: at once outside a premove and into premove scratch, else staged (R117). -/
def State.storeOrStage (s : State) (c : CoreId) (a : Nat) (b : List Byte) : Exec :=
  if s.inPremove c = false ∨ region (isArb c) a = .scratch then .ok (s.storeBytes c a b)
  else
    let x : Staged := if region (isArb c) a = .regs then .reg (a - 0x100000) b else .store a b
    if s.room c x.eff x.sto then .ok (s.stage c [x]) else .stall false

/-- A store of the low n bytes of g[d]. -/
def State.storeBody (s : State) (c : CoreId) (f : FormI) (n : Nat) : Exec :=
  let a := s.addr c f
  let k := storeFault c (s.core c).codeEnd n a n
  if k ≠ 0 then .fault k else s.storeOrStage c a (leBytes n (s.gr c f.d).toNat)

/-- LDW. -/
def execLdw (c : CoreId) (f : FormI) (s : State) : Host.Outcome State Fault Refusal :=
  .next (s.exec c (encI 0x23 f) fun s => s.loadBody c f 4 fun v => BitVec.ofNat 32 v)
/-- LDH, zero-extended. -/
def execLdh (c : CoreId) (f : FormI) (s : State) : Host.Outcome State Fault Refusal :=
  .next (s.exec c (encI 0x24 f) fun s => s.loadBody c f 2 fun v => BitVec.ofNat 32 v)
/-- LDHS, sign-extended. -/
def execLdhs (c : CoreId) (f : FormI) (s : State) : Host.Outcome State Fault Refusal :=
  .next (s.exec c (encI 0x25 f) fun s => s.loadBody c f 2 fun v => (BitVec.ofNat 16 v).signExtend 32)
/-- LDB, zero-extended. -/
def execLdb (c : CoreId) (f : FormI) (s : State) : Host.Outcome State Fault Refusal :=
  .next (s.exec c (encI 0x26 f) fun s => s.loadBody c f 1 fun v => BitVec.ofNat 32 v)
/-- LDBS, sign-extended. -/
def execLdbs (c : CoreId) (f : FormI) (s : State) : Host.Outcome State Fault Refusal :=
  .next (s.exec c (encI 0x27 f) fun s => s.loadBody c f 1 fun v => (BitVec.ofNat 8 v).signExtend 32)
/-- STW. -/
def execStw (c : CoreId) (f : FormI) (s : State) : Host.Outcome State Fault Refusal :=
  .next (s.exec c (encI 0x28 f) fun s => s.storeBody c f 4)
/-- STH. -/
def execSth (c : CoreId) (f : FormI) (s : State) : Host.Outcome State Fault Refusal :=
  .next (s.exec c (encI 0x29 f) fun s => s.storeBody c f 2)
/-- STB. -/
def execStb (c : CoreId) (f : FormI) (s : State) : Host.Outcome State Fault Refusal :=
  .next (s.exec c (encI 0x2A f) fun s => s.storeBody c f 1)

end Sys2Proof.Machine
end

