-- ==== Sys2Proof/Machine/Frame.lean ====
section
/-! DEFINITION. The end of a frame (03, 06): a stalled instruction resumes (R110, R118), the acceptance decision (R60-R68,
R74), and the resolution of the premove (R120, R133, R152-R156). -/

namespace Sys2Proof.Machine

/-! ### A stalled instruction -/

/-- The effect of the instructions that a premove stalls on: those with the codes S, E, T and W (R117). -/
def State.bodyOf (s : State) (c : CoreId) (w : Word) : Exec :=
  let f := decQ w
  match wOp w with
  | 0x28 => s.storeBody c (decI w) 4
  | 0x29 => s.storeBody c (decI w) 2
  | 0x2A => s.storeBody c (decI w) 1
  | 0x33 => s.awaitBody c f
  | 0x34 => s.tsetAny c f
  | 0x35 => s.tclrBody c f
  | 0x37 => s.qpushBody c f
  | 0x38 => s.qpopBody c f
  | 0x39 => if f.sub.getLsbD 11 then s.qpeekEventBody c f else s.qpeekSlotBody c f
  | 0x3A => s.ledgerBody c f .lrsv opLrsv
  | 0x3B => s.ledgerBody c f .lcmt opLcmt
  | 0x3C => if f.sub.getLsbD 0 then s.ledgerBody c f .lrelRsv opLrelR else s.ledgerBody c f .lrelGrant opLrelG
  | 0x3E => s.actBody c f
  | 0x3F => s.sysBody c f
  | _ => .ok s

/-- The stalled instruction of core c executes. -/
def State.resume (s : State) (c : CoreId) (w : Word) : State :=
  (s.modCore c fun C => C.setStall none).exec c w fun s => s.bodyOf c w

/-- An instruction stalled for data tries again (R110). -/
def State.dataResume (s : State) (p : PortId) : State :=
  match (s.premove p).bind fun h => h.stall with
  | some (.data w) => s.resume (fileCore p) w
  | some (.buffer _) => s
  | none => s

/-- R72, R110: more of the frame under reception has been written into its slot. -/
def State.premoveStallEnd (s : State) (p : PortId) (data : List Byte) (ext : Half) : State :=
  match (s.port p).pd.rx with
  | none => s
  | some r =>
    if r.slot && r.data.isPrefixOf data && decide (data.length ≤ if hdrExt r.hdr then 26 else 28) then
      (s.modPd p fun d => { d with rx := some { r with data, ext } }).dataResume p
    else s

/-! ### Acceptance (R60-R68) -/

/-- Pending entries of a TX queue pushed before this tick are discarded, from entry i down (R68). -/
def State.discardFrom : Nat → State → PortId → Fin 8 → State
  | 0, s, _, _ => s
  | i + 1, s, p, k =>
    let hit : Bool := match (s.queue p k).ents[i]? with
      | some e => decide (e.st = .pending ∧ e.time ≠ s.now)
      | none => false
    State.discardFrom i (if hit then s.txEnd p k i .discarded 2 none else s) p k

/-- R67, R68: an accepted frame ends the wait for GoodCRC and discards what is pending. -/
def State.rxDiscards (s : State) (p : PortId) : State :=
  let s1 := match (s.port p).pd.tx with
    | some b => if b.await then s.txFinish p .discarded 2 false else s
    | none => s
  let f (s : State) (k : Fin 8) : State := State.discardFrom (s.queue p k).ents.length s p k
  f (f (f s1 1) 3) 5

/-- A bad CRC is counted and latched. -/
def State.crcErr (s : State) (p : PortId) : State :=
  (s.modPd p fun d => { d with nCrc := satInc d.nCrc }).linkEvt p 5

/-- An accepted frame's GoodCRC is owed (R62). -/
def State.oweGoodCrc (s : State) (p : PortId) (x : Sop) (id : BitVec 3) : State :=
  s.modPd p fun d => { d with crcDue := some (x, d.goodCrc x id) }

/-- The frame's MessageID is the stored one of its type (R63). -/
def Phy.isDup (d : Phy) (x : Sop) (id : BitVec 3) : Bool := d.rxVal[x.idx] && decide (d.rxId[x.idx] = id)

/-- A duplicate: GoodCRC, DUP, the count (R63). -/
def State.dupSeen (s : State) (p : PortId) : State :=
  (s.modPd p fun d => { d with nDup := satInc d.nDup }).linkEvt p 6

/-- What acceptance of a frame that is not a duplicate does besides its entry (R63, R65, R67, R68). -/
def State.acceptId (s : State) (p : PortId) (x : Sop) (hdr : Half) : State :=
  (s.rxDiscards p).modPd p fun d => { d with
    rxId := d.rxId.set x.idx (hdrId hdr), rxVal := d.rxVal.set x.idx true
    txId := if isSoftReset hdr then d.txId.set x.idx 0 else d.txId }

/-- The entry of an accepted frame: of an extended message at most 26 bytes are delivered, and TRUNC tells that Data Size of
an unchunked one goes beyond them (R80, R82). -/
def acceptedEntry (r : RxFrame) (f : Frame) : Entry :=
  let e := hdrExt r.hdr
  let d := f.data.take (if e then 26 else 28)
  { st := .received, len := BitVec.ofNat 8 d.length, hdr := r.hdr, ext := if e then f.ext else 0
    flg := BitVec.ofNat 8 (bitAt 7 e + bitAt 5 (e && !f.ext.getLsbD 15 && decide (26 < extSize f.ext)) + r.sop.idx.val)
    data := toVec 28 d, time := r.time }

/-! ### Resolution of the premove (R120, R133, R153-R156) -/

/-- A job that no event's AWAIT binding is used for: a rerun (R133). -/
def Core.pendRerun (C : Core) (j : Job) : Core := { C with jobs := C.jobs ++ [j], nextId := C.nextId + 1 }

/-- R133: the RXMSG of a premove taken back on an accepted frame: the same slot, RERUN = 1, the premove's deadline. -/
def State.rerun (s : State) (p : PortId) (k : Fin 8) (seq : Byte) (slot : Nat) (deadline : Word) : State :=
  if (s.core (fileCore p)).st ≠ .running then s
  else s.modCore (fileCore p) fun C => C.pendRerun
    { cls := 2, slot, queue := k.val, seq, time := s.now, deadline, arg := BitVec.ofNat 32 k.val, rerun := true, id := C.nextId }

/-- A played premove: an ended handler is complete, a running one goes on non-speculatively, an instruction that waited
for a buffer executes (R118, R153-R155). -/
def State.playOn (s : State) (p : PortId) (h : Handler) : State :=
  let c := fileCore p
  let s1 := (s.pmvRecord p h .played).modCore c fun C => { C with
    run := C.run.map fun h => { h with premove := false, ended := false, stall := none, staged := [] } }
  if h.ended then s1.endHandler c (s1.handler c)
  else match h.stall with
    | some (.buffer w) | some (.data w) => s1.resume c w
    | none => s1

/-- R120: the play of a premove whose frame is accepted, or its take-back and rerun. -/
def State.play (s : State) (p : PortId) (k : Fin 8) (seq : Byte) (h : Handler) : State :=
  if s.confirmed p h.job h.staged then
    let s1 := s.release p h.job h.staged
    if (s1.premove p).isSome then s1.playOn p h else s1
  else (s.takeBack p .mismatch).rerun p k seq h.job.slot h.job.deadline

/-- The message event of an accepted frame: the premove resolves, an EARLY event that waits becomes dispatchable, a
premove that faulted reruns, or RXMSG is raised (R133). An EARLY event held for a core that does not run is over: the entry
is offered again after START (R306). -/
def State.resolveAccepted (s : State) (p : PortId) (k : Fin 8) (seq : Byte) (r : RxFrame)
    (again : Option (Nat × Word)) : State :=
  let c := fileCore p
  match s.premove p with
  | some h => s.play p k seq h
  | none => match again with
    | some x => s.rerun p k seq x.1 x.2
    | none =>
      if (s.core c).jobs.any fun j => j.inRx then
        s.modCore c fun C => { C with jobs := C.jobs.map fun j => { j with inRx := false } }
      else (s.modCore c Core.dropEarly).raiseCrit c { cls := 2, arg := BitVec.ofNat 32 k.val, queue := k.val, seq } (some (r.sop, r.hdr))

/-- R60: acceptance of a frame that is not a duplicate. The entry becomes visible and the message event is raised. -/
def State.accept (s : State) (p : PortId) (r : RxFrame) (f : Frame) : State :=
  let k := rxQ r.sop
  let s1 := (s.acceptId p r.sop r.hdr).oweGoodCrc p r.sop (hdrId r.hdr)
  let seq := (s1.queue p k).seq
  let s2 := (s1.modQ p k fun q => q.push (acceptedEntry r f)).modPd p fun d => { d with
    rx := none, evt := setB d.evt 1 true }
  s2.resolveAccepted p k seq r (((s.port p).pd.rx.bind fun r => r.again))

/-- R74: in BIST Test Data an SOP frame gets GoodCRC and no entry; other frames are not accepted. -/
def State.bistFrame (s : State) (p : PortId) (r : RxFrame) : State :=
  let s1 := s.frameLost p .notAccepted
  if r.sop = .sop then
    let s2 := s1.oweGoodCrc p r.sop (hdrId r.hdr)
    if (s.port p).pd.isDup r.sop (hdrId r.hdr) then s2.dupSeen p else s2.acceptId p r.sop r.hdr
  else s1

/-- The first us of a frame's header end, from its EOP (R72, R134). -/
def headerEnd (us : Nat) (f : Frame) : Nat := us - (40 * hdrNdo f.hdr + 45) * 1000 / max 1 f.rate

/-- A frame that ends without an early decode of its own: a GoodCRC is matched (R61, R67), a bad CRC counted. -/
def State.frameAside (s : State) (p : PortId) (f : Frame) : State :=
  let P := s.port p
  if !s.linkUp || !P.tc.attached || P.pd.bistCar || decide (f.rate < 270 ∨ 330 < f.rate) || P.pd.tooSoon (headerEnd s.us f)
  then s
  else if !f.crcGood then s.crcErr p
  else if isGoodCrc f.hdr then s.goodCrcRx p f.sop (hdrId f.hdr) else s

/-- R60, R152: a frame reaches its EOP. -/
def State.frameReceived (s : State) (p : PortId) (f : Frame) : State :=
  match (s.port p).pd.rx with
  | none => s.frameAside p f
  | some r =>
    let P := s.port p
    if f.sop ≠ r.sop ∨ f.hdr ≠ r.hdr ∨ !r.data.isPrefixOf f.data then s
    else if !f.crcGood then (s.frameLost p .badFrame).crcErr p
    else if P.pd.bistTd then s.bistFrame p r
    else if !s.linkUp || !P.tc.attached || P.pd.hrwait || !P.sopEnabled r.sop || !r.slot then s.frameLost p .notAccepted
    else if P.pd.isDup r.sop (hdrId r.hdr) then
      ((s.frameLost p .duplicate).oweGoodCrc p r.sop (hdrId r.hdr)).dupSeen p
    else
      let r1 := { r with data := f.data.take (if hdrExt r.hdr then 26 else 28), ext := f.ext, ended := true }
      ((s.modPd p fun d => { d with rx := some r1 }).dataResume p).accept p r1 f

/-- R306: after a restart the oldest unpopped RX entry not yet offered again is offered as RXMSG. -/
def State.rxReoffer (s : State) (p : PortId) (x : Sop) : State :=
  let still := (s.port p).pd.reoffer.filter fun y => (s.queue p (rxQ y.1)).ents.any fun e => decide (e.seq = y.2)
  match still with
  | [] => s
  | y :: l =>
    if y.1 ≠ x ∨ (s.core (fileCore p)).st ≠ .running then s
    else match (s.queue p (rxQ x)).ents.find? fun e => decide (e.seq = y.2) with
      | none => s
      | some e => (s.modPd p fun d => { d with reoffer := l }).raiseCrit (fileCore p)
          { cls := 2, arg := BitVec.ofNat 32 (rxQ x).val, queue := (rxQ x).val, seq := y.2 } (some (x, e.hdr))

end Sys2Proof.Machine
end

