-- ==== Sys2Proof/Machine/HostBus.lean ====
section
/-! DEFINITION. The host bus (16): the addresses the device answers and what each reaches (R360, R361, R372, R373), a write
transaction (R364-R368), a read of an RC register (R369), and the SDA timeout (R370). -/

namespace Sys2Proof.Machine

/-- The device answers a 7-bit address (R360, R361, R371). -/
def State.answers (s : State) (a : Byte) : Bool :=
  let n := a.toNat
  !s.busOff &&
    if s.hbs.modeNow then decide (n = 0x1C) ||
      (if h : 0x40 ≤ n ∧ n < 0x48 then s.present ⟨n - 0x40, by omega⟩ else false)
    else decide (n = 0x1C) || decide (n = 0x38 + s.hbs.adr.toNat) || (s.hbs.groupNow && decide (n = 0x1D))

/-- An answered address acts as the rescue address (R312, R373). -/
def State.rescue (s : State) (a : Byte) : Bool := decide (a = 0x1C) || decide (s.phase = .halt)

/-- The address acts as the group address. -/
def State.groupAddr (s : State) (a : Byte) : Bool := decide (a = 0x1D) && !s.rescue a

/-- Scope of the rescue address (R373). -/
def rescueScope (x : Nat) : Bool :=
  decide (x < 0x100 ∨ (0x600 ≤ x ∧ x < 0x700) ∨ (0xC00 ≤ x ∧ x < 0xD00) ∨ 0x8000 ≤ x)

/-- The register address a pointer reaches at an answered address; none lies outside its scope (R360, R361, R373). -/
def State.reach (s : State) (a : Byte) (x : Nat) : Option Nat :=
  if s.rescue a then (if rescueScope x then some x else none)
  else if s.hbs.modeNow then
    let p := a.toNat - 0x40
    if x < 0x1000 ∨ 0x4000 ≤ x then some x
    else if x < 0x1400 then some (x + p * 0x400)
    else if 0x3000 ≤ x ∧ x < 0x3200 then some (x + p * 0x200)
    else none
  else some x

/-- The address a data byte of a write reaches: the paged window is outside every write's scope (R374). -/
def State.reachWrite (s : State) (a : Byte) (x : Nat) : Option Nat :=
  (s.reach a x).bind fun y => if 0x5000 ≤ y ∧ y < 0x6000 then none else some y

/-- The byte holds a bit of a class F field whose block runs (R18, R367). -/
def State.frozenByte (s : State) (y : Nat) : Bool :=
  if 0x40 ≤ y ∧ y < 0x60 then decide (s.glb.mbxSt = 3)
  else if h : 0x300 ≤ y ∧ y < 0x390 then
    let c : CoreId := ⟨(y - 0x300) / 16, by omega⟩
    let o := y % 16
    s.corePresent c && s.flg.units[c].armed && decide (o ≠ 3 ∧ o < 8) && (decide (o ≠ 7) || decide (c = arbiterId))
  else if h : 0x1000 ≤ y ∧ y < 0x3000 then
    let p : PortId := ⟨(y - 0x1000) / 0x400, by omega⟩
    let o := (y - 0x1000) % 0x400
    s.present p && decide (o = 0x100 ∨ o = 0x101) && decide ((s.port p).pw.mode ≠ .off)
  else false

/-- The pointer after a byte of a write: inside its 32-byte page (R365). -/
def pageNext (x : Nat) : Nat := x / 32 * 32 + (x + 1) % 32

/-- The interface of an address. -/
def State.hostIf (s : State) (a : Byte) : HostIf :=
  (s.hbs.ifs.find? fun i => decide (i.addr = a.setWidth 7)).getD { addr := a.setWidth 7 }

/-- The interface of an address replaced. -/
def State.setIf (s : State) (i : HostIf) : State :=
  s.modHbs fun h => { h with ifs := (h.ifs.filter fun x => decide (x.addr ≠ i.addr)) ++ [i] }

/-- A byte outside scope is counted (HBS_ERR.SCOPE). -/
def Hbs.scopeErr (h : Hbs) : Hbs := { h with nScope := satInc h.nScope, evt := setB h.evt 3 true }

/-- Data bytes at their acknowledge slots (R367): the bytes acknowledged with their real addresses, the pointer after
them, and the counters. `reach`: what a pointer reaches. `late`: a block that runs now did not run yet at the slots. -/
def State.ackBytes (s : State) (reach : Nat → Option Nat) (late : Bool) : Nat → List Byte → List (Nat × Byte) × Nat × State
  | x, [] => ([], x, s)
  | x, b :: t =>
    match reach x with
    | none => ([], x, s.modHbs Hbs.scopeErr)
    | some y =>
      if s.frozenByte y && !late then ([], x, s.modHbs fun h => { h with nFroz := satInc h.nFroz })
      else
        let r := s.ackBytes reach late (pageNext x) t
        ((y, b) :: r.1, r.2)

/-- Data bytes of a write to the group address (R372): all are acknowledged, only the byte at 0x0031 counts. -/
def State.groupBytes (s : State) : Nat → List Byte → List (Nat × Byte) × Nat × State
  | x, [] => ([], x, s)
  | x, b :: t =>
    if x = 0x31 then
      let r := s.groupBytes (pageNext x) t
      ((x, b) :: r.1, r.2)
    else (s.modHbs Hbs.scopeErr).groupBytes (pageNext x) t

/-- The last value of each address, in the order in which each was first written (R366). -/
def lastOf : List (Nat × Byte) → List (Nat × Byte)
  | [] => []
  | (y, b) :: t =>
    let v := ((t.reverse.find? fun z => decide (z.1 = y)).map fun z => z.2).getD b
    (y, v) :: (lastOf t).filter fun z => decide (z.1 ≠ y)

/-- A byte is applied; one whose block has started to run is discarded and counted (R367). -/
def State.applyByte (s : State) (x : Nat × Byte) : State :=
  if s.frozenByte x.1 then s.modHbs fun h => { h with nFroz := satInc h.nFroz, evt := setB h.evt 1 true }
  else s.putByte .host x.1 x.2

/-- Whether the end of a transaction applies its bytes (R366, R368). -/
def endApplies : BusEnd → Bool
  | .stop | .repeatedStart | .startInAck | .midByte => true
  | .none => false

/-- A host write (R364-R368): pointer, data bytes, and how it ended. -/
def State.hostWrite (s : State) (a : Byte) (ptr : Half) (data : List Byte) (e : BusEnd) (late : Bool) : State :=
  if !s.answers a then s
  else
    let cut := decide (e = .startInAck) && !data.isEmpty
    let s0 := if cut then s.modHbs fun h => { h with nAck := satInc h.nAck, evt := setB h.evt 2 true } else s
    let sent := if cut then data.dropLast else data
    let r := if s.groupAddr a then s0.groupBytes ptr.toNat sent else s0.ackBytes (s.reachWrite a) late ptr.toNat sent
    let s1 := r.2.2.setIf { r.2.2.hostIf a with ptr := BitVec.ofNat 16 r.2.1 }
    if endApplies e then (lastOf r.1).foldl State.applyByte s1 else s1

/-- The byte a read returns at register address y (R14): of a register wider than a byte the lowest is live and captured,
a higher one is that of the holding copy, live before any capture. -/
def State.hostByte (s : State) (i : HostIf) (y : Nat) : Byte :=
  match s.regAt y with
  | none => s.peek y
  | some r =>
    if r.1 = y then s.peek y
    else match i.hold.find? fun x => decide (x.1 = r.1) with
      | some x => x.2.getD (y - r.1) 0
      | none => s.peek y

/-- A read of one byte at an address of the map (R14, R369): the byte driven is kept in the interface; the lowest byte of a
register captures it and clears its RC fields; outside scope 0x00 is driven; the pointer goes on by one, across pages
(R365). The group address answers no read. -/
def State.hostRead (s : State) (a : Byte) (ptr : Half) : State :=
  if !s.answers a || s.groupAddr a then s
  else
    let i := { s.hostIf a with ptr := ptr + 1 }
    match s.reach a ptr.toNat with
    | none => s.setIf { i with out := 0 }
    | some y =>
      let j := { i with out := s.hostByte i y }
      match (s.regAt y).filter fun r => decide (r.1 = y) with
      | none => s.setIf j
      | some r =>
        (s.setIf { j with hold := (j.hold.filter fun x => decide (x.1 ≠ r.1)) ++ [(r.1, leBytes r.2.1 r.2.2)] }).rcClear r.1

/-- R370: SDA has been held for SDATO ms. -/
def State.sdaTimeout (s : State) (a : Byte) : State :=
  if s.answers a then s.modHbs fun h => { h with nSda := satInc h.nSda, evt := setB h.evt 0 true } else s

end Sys2Proof.Machine
end

