-- ==== Sys2Proof/Machine/Tunnel.lean ====
section
/-! DEFINITION. The target's side of the register tunnel (R263, R349). -/

namespace Sys2Proof.Machine

/-- What a pointer of a tunnelled write reaches: the whole map, as at the primary address, or the rescue scope in HALT. -/
def State.tunnelReach (s : State) (x : Nat) : Option Nat :=
  if s.phase = .halt ∧ rescueScope x = false then none else if 0x5000 ≤ x ∧ x < 0x6000 then none else some x

/-- A tunnelled write: bytes applied and the state after (R263, R366, R367). -/
def State.tunnelWrites (s : State) (addr : Nat) (data : List Byte) : Nat × State :=
  let r := s.ackBytes s.tunnelReach false addr data
  (r.1.length, (lastOf r.1).foldl (fun s x =>
    if s.frozenByte x.1 then s.modHbs fun h => { h with nFroz := satInc h.nFroz, evt := setB h.evt 1 true }
    else s.putByte .tunnel x.1 x.2) r.2.2)

/-- A tunnelled read: the bytes of one instant; RC registers whose lowest byte is among them clear (R369). -/
def State.tunnelReads (s : State) (addr n : Nat) : List Byte × State :=
  let at' (i : Nat) := (addr + i) % 65536
  ((List.range n).map fun i => if s.phase = .halt ∧ rescueScope (at' i) = false then 0 else s.peek (at' i),
   (List.range n).foldl (fun t i => match s.regAt (at' i) with
     | some r => if r.1 = at' i then t.rcClear r.1 else t
     | none => t) s)

/-- The reply frame of a request (R252, R263). -/
def Fab.tunnelReplyTo (f : Fab) (x : FFrame) (n status : Nat) (data : List Byte) : FFrame :=
  f.frame 7 x.tag x.src.toNat ([BitVec.ofNat 8 (FFrameNum x 0 1 ||| 0x80), BitVec.ofNat 8 n] ++ leBytes 2 (FFrameNum x 2 2)
    ++ [BitVec.ofNat 8 status, 0] ++ padTo 16 data)

/-- A request for this device carried out: bytes handled, STATUS, data read, and the state after. -/
def State.tunnelDo (s : State) (x : FFrame) : Nat × Nat × List Byte × State :=
  let op := FFrameNum x 0 1
  let len := FFrameNum x 1 1
  let addr := FFrameNum x 2 2
  let tun := fld s.fab.cfg 13 2
  if outside 1 16 len then (0, 2, [], s)
  else if tun = 0 ∨ (op = 2 ∧ tun ≠ 2) then (0, 3, [], s)
  else if op = 1 then
    let r := s.tunnelReads addr len
    (len, 0, r.1, r.2)
  else
    let r := s.tunnelWrites addr ((x.payload.drop 6).take len)
    (r.1, if r.1 = len then 0 else 1, [], r.2)

/-- A broadcast write to UPD_RCHUNK or UPD_CMD (R349): carried out, never answered. -/
def State.tunnelBroadcast (s : State) (x : FFrame) : State :=
  let addr := FFrameNum x 2 2
  let len := FFrameNum x 1 1
  if FFrameNum x 0 1 = 2 ∧ fld s.fab.cfg 13 2 = 2 ∧ ((0x5D0 ≤ addr ∧ addr < 0x5E0) ∨ (0x508 ≤ addr ∧ addr < 0x50C))
      ∧ (outside 1 16 len) = false then
    (s.tunnelWrites addr ((x.payload.drop 6).take len)).2
  else s

/-- R263, R349: a REG_TUNNEL frame received on link l. -/
def State.regTunnel (s : State) (l : FLink) (x : FFrame) : State :=
  let op := FFrameNum x 0 1
  if !s.fab.linkOn l || !s.regsUp then s
  else if frameDst x = 0x3FFF then (if l = .u then s.tunnelBroadcast x else s)
  else if !s.fab.mine x || decide (op ≠ 1 ∧ op ≠ 2) then s
  else
    let back (s : State) (y : FFrame) : State := s.modFab fun f => f.send (f.linkTo y.dst.toNat) y
    let r := s.tunnelDo x
    let z := r.2.2.2.fab.tunnelReplyTo x r.1 r.2.1 r.2.2.1
    let fresh := back (r.2.2.2.modFab fun f => { f with tunLast := some (x.tag, z, s.now) }) z
    match s.fab.tunLast with
    | some (tag, y, t) => if tag = x.tag ∧ (s.now - t).toNat < 1000000 then back s y else fresh
    | none => fresh

end Sys2Proof.Machine
end

