-- ==== Sys2Proof/Machine/Gates.lean ====
section
/-! DEFINITION. Where a command can take effect: the domain it belongs to has power and is out of reset, and its port is
present (R5, R26, R371; log 11). -/

namespace Sys2Proof.Machine

/-- The Type-C layer of port p runs: with V5, in start mode, and during a save (R26, R393). -/
def State.tcOn (s : State) (p : PortId) : Bool :=
  decide (s.phase ≠ .unpowered) && decide (s.phase ≠ .parked) && s.fitted p

/-- What port p presents on a CC pin: nothing where it is absent (R5, R35). -/
def State.presented (s : State) (p : PortId) (pin : CcPin) : Pres := if s.fitted p then (s.port p).tc.shown pin else .openP

/-- The power path of port p, and what goes with it in the PP domain, runs (R26, R391). -/
def State.ppOn (s : State) (p : PortId) : Bool :=
  decide (s.phase ≠ .unpowered) && decide (s.phase ≠ .parked) && decide (s.phase ≠ .startMode) && s.present p

/-- The AO units run outside start mode and the park (R26). -/
def State.aoOn (s : State) : Bool :=
  decide (s.phase ≠ .unpowered) && decide (s.phase ≠ .parked) && decide (s.phase ≠ .startMode)

/-- An event of the Type-C layer of a port. -/
def State.atTc (s : State) (p : PortId) (f : State → State) : State := if s.tcOn p then f s else s
/-- An event of the PP domain of a port. -/
def State.atPp (s : State) (p : PortId) (f : State → State) : State := if s.ppOn p then f s else s
/-- An event of the device in the AO domain. -/
def State.atAo (s : State) (f : State → State) : State := if s.aoOn then f s else s
/-- A command written to a register of a port (R371). -/
def State.atReg (s : State) (p : PortId) (f : State → State) : State := if s.regsUp && s.present p then f s else s
/-- A command written to a register of the device, or an event of a block that runs with the registers (R371). -/
def State.atDev (s : State) (f : State → State) : State := if s.regsUp then f s else s
/-- An event of a core that is present (R5). -/
def State.atCore (s : State) (c : CoreId) (f : State → State) : State := if s.corePresent c then f s else s
/-- A frame of type t arriving on fabric link l, which runs with the registers (R252); one that R251 discards is counted. -/
def State.atFrame (s : State) (l : FLink) (t : Byte) (x : FFrame) (f : State → State) : State :=
  if !s.regsUp then s else if !frameValid x then s.frameDiscard l else if x.typ = t then f s else s

end Sys2Proof.Machine
end

