-- ==== Sys2Proof/Machine/CommitCmds.lean ====
section
/-! DEFINITION. The commit and revert commands of the blocks (R375). -/

namespace Sys2Proof.Machine

/-- TC_COMMIT (R58): Commit staged Pn_TC fields, ending dead-battery Rd. -/
def execTcCommit (p : PortId) (s : State) : Host.Outcome State Fault Refusal :=
  .next (s.atReg p fun s => s.commitBlock (.tc p))
/-- PD_COMMIT (R161): Commit a staged contract record to the held record. -/
def execPdCommit (p : PortId) (s : State) : Host.Outcome State Fault Refusal :=
  .next (s.atReg p fun s => s.commitBlock (.pd p))
/-- PW_COMMIT (R213): Commit staged power-path limits. -/
def execPwCommit (p : PortId) (s : State) : Host.Outcome State Fault Refusal :=
  .next (s.atReg p fun s => s.commitBlock (.pw p))
/-- SP_COMMIT (R239): Commit staged set-point drive fields. -/
def execSpCommit (p : PortId) (s : State) : Host.Outcome State Fault Refusal :=
  .next (s.atReg p fun s => s.commitBlock (.sp p))
/-- MN_COMMIT (R240): Commit staged window-monitor fields. -/
def execMnCommit (p : PortId) (s : State) : Host.Outcome State Fault Refusal :=
  .next (s.atReg p fun s => s.commitBlock (.mn p))
/-- LDG_COMMIT (R265): Commit LDG_CFG. -/
def execLdgCommit (s : State) : Host.Outcome State Fault Refusal :=
  .next (s.atDev fun s => s.commitBlock .ldg)
/-- FAB_COMMIT (R266): Commit fabric configuration and lease timing. -/
def execFabCommit (s : State) : Host.Outcome State Fault Refusal :=
  .next (s.atDev fun s => s.commitBlock .fab)
/-- FED_COMMIT (R287): Commit feed and larder configuration. -/
def execFedCommit (s : State) : Host.Outcome State Fault Refusal :=
  .next (s.atDev fun s => s.commitBlock .fed)
/-- HBS_COMMIT (R362): Commit host-bus configuration, effective after the transaction. -/
def execHbsCommit (s : State) : Host.Outcome State Fault Refusal :=
  .next (s.atDev fun s => s.commitBlock .hbs)
/-- REVERT (R375): Staging copies of a block take their live values. -/
def execRevert (b : Block) (s : State) : Host.Outcome State Fault Refusal :=
  .next (s.atDev fun s => s.revertBlock b)

end Sys2Proof.Machine
end

