-- ==== Sys2Proof/Machine/ContractCmds.lean ====
section
/-! DEFINITION. The contract commands (07): swaps, guards, fast role swap and the Hard Reset sequence. -/

namespace Sys2Proof.Machine

/-- MOVING_TIMEOUT (R162): MOVING stays set 400 or 750 ms; TRANSTO is set. -/
def execMovingTimeout (p : PortId) (s : State) : Host.Outcome State Fault Refusal :=
  .next (s.atPp p fun s => s.movingTimeout p)
/-- PPS_GUARD_EXPIRY (R168): 13.5 s without a PPS Request; hardware sends Hard Reset. -/
def execPpsGuardExpiry (p : PortId) (s : State) : Host.Outcome State Fault Refusal :=
  .next (s.atPp p fun s => s.guardExpiry p (s.port p).ppsGuard)
/-- EPR_GUARD_EXPIRY (R170): 875 ms without a partner SOP message in EPR mode; hardware sends Hard Reset. -/
def execEprGuardExpiry (p : PortId) (s : State) : Host.Outcome State Fault Refusal :=
  .next (s.atPp p fun s => s.guardExpiry p (s.port p).eprGuard)
/-- PRS_BEGIN (R174): Begin a power-role swap, clearing the held record and suspending detach. -/
def execPrsBegin (p : PortId) (s : State) : Host.Outcome State Fault Refusal :=
  .next (s.atReg p fun s => s.prsBegin p)
/-- TERM (R174): Swap the terminations and PROLE in one tick. -/
def execTerm (p : PortId) (s : State) : Host.Outcome State Fault Refusal :=
  .next (s.atReg p fun s => s.term p (s.port p).pw.vbPin)
/-- SWAP_END (R174): End a swap; detach rules of the new state apply. -/
def execSwapEnd (p : PortId) (s : State) : Host.Outcome State Fault Refusal :=
  .next (s.atReg p fun s => s.swapEnd p)
/-- ERRREC (R174): Command the port into ErrorRecovery. -/
def execErrrec (p : PortId) (s : State) : Host.Outcome State Fault Refusal :=
  .next (s.atReg p fun s => s.errrecCmd p)
/-- SWAP_BACKSTOP_EXPIRY (R174): SWAP set for 1,500 ms; ErrorRecovery and SWAPTO. -/
def execSwapBackstopExpiry (p : PortId) (s : State) : Host.Outcome State Fault Refusal :=
  .next (s.atPp p fun s => s.swapBackstop p)
/-- SAFE0 (R175): VB falls below 0.8 V during a swap and SAFE0 is set. -/
def execSafe0 (p : PortId) (vb : Nat) (s : State) : Host.Outcome State Fault Refusal :=
  .next (s.atPp p fun s => s.safe0 p vb)
/-- FRS_SIGNAL (R180): CC below 0.5 V for 50 us is recognised as the FR_Swap signal. -/
def execFrsSignal (p : PortId) (s : State) : Host.Outcome State Fault Refusal :=
  .next (s.atPp p fun s => s.frsSignal p)
/-- FAST_SOURCING (R206): VB below 5.5 V on an armed port starts fast sourcing within 100 us. -/
def execFastSourcing (p : PortId) (vb : Nat) (s : State) : Host.Outcome State Fault Refusal :=
  .next (s.atPp p fun s => s.fastSourcing p vb)
/-- FAST_SOURCING_HOLDOFF_END (R206): The 10 ms limit-loop hold-off of fast sourcing ends. -/
def execFastSourcingHoldoffEnd (p : PortId) (s : State) : Host.Outcome State Fault Refusal :=
  .next (s.atPp p fun s => s.fastHoldEnd p)
/-- HR_PS_HARD_RESET (R181): tPSHardReset elapses; the source turns off and VCONN drops. -/
def execHrPsHardReset (p : PortId) (s : State) : Host.Outcome State Fault Refusal :=
  .next (s.atPp p fun s => s.hrPs p)
/-- HR_SAFE0 (R181): VB reaches vSafe0V in a Hard Reset and attach-time roles are restored. -/
def execHrSafe0 (p : PortId) (vb : Nat) (s : State) : Host.Outcome State Fault Refusal :=
  .next (s.atPp p fun s => s.hrSafe0 p vb)
/-- HRGO_SOURCE (R181): tSrcRecover elapses and HRGO lets the source recover. -/
def execHrgoSource (p : PortId) (s : State) : Host.Outcome State Fault Refusal :=
  .next (s.atPp p fun s => s.hrgoSource p)
/-- HR_TURN_ON_TIMEOUT (R181): VB not in vSafe5V tSrcTurnOn after HRGO; ErrorRecovery. -/
def execHrTurnOnTimeout (p : PortId) (s : State) : Host.Outcome State Fault Refusal :=
  .next (s.atPp p fun s => s.hrTurnTimeout p)
/-- HRGO_SINK (R181): VB returns to 4.0 V for an attach-time sink and HRGO is set. -/
def execHrgoSink (p : PortId) (vb : Nat) (s : State) : Host.Outcome State Fault Refusal :=
  .next (s.atPp p fun s => s.hrgoSink p vb)
/-- HR_SINK_TIMEOUT (R181): 2,000 ms pass without VB return and the sequence ends without HRGO. -/
def execHrSinkTimeout (p : PortId) (vb : Nat) (s : State) : Host.Outcome State Fault Refusal :=
  .next (s.atPp p fun s => s.hrSinkEnd p vb)

end Sys2Proof.Machine
end

