-- ==== Sys2Proof/Machine/FabricCmds.lean ====
section
/-! DEFINITION. The ledger and fabric commands (10). -/

namespace Sys2Proof.Machine

/-- LEDGER_CUT (R247): The overdraw cut deadline passes and ports are cut by priority. -/
def execLedgerCut (s : State) : Host.Outcome State Fault Refusal :=
  .next (s.atAo fun s => s.ledgerCut)
/-- LINK_UP (R248): A fabric link comes up after 100 us of valid code. -/
def execLinkUp (l : FLink) (s : State) : Host.Outcome State Fault Refusal :=
  .next (s.atDev fun s => s.linkComesUp l)
/-- LINK_DOWN (R248): A fabric link goes down after 10 us without transitions. -/
def execLinkDown (l : FLink) (s : State) : Host.Outcome State Fault Refusal :=
  .next (s.atDev fun s => s.linkGoesDown l)
/-- FRAME_FORWARD (R250): A fabric frame for another device is routed and sent in hardware. -/
def execFrameForward (l : FLink) (f : FFrame) (s : State) : Host.Outcome State Fault Refusal :=
  .next (s.atFrame l f.typ f fun s => s.frameForward l f)
/-- FABRIC_FRAME_DISCARD (R251): A fabric frame with a bad CRC, an invalid Manchester symbol, a bad TYPE or
non-zero reserved bits is discarded and counted in FAB_ERR. -/
def execFabricFrameDiscard (l : FLink) (s : State) : Host.Outcome State Fault Refusal :=
  .next (s.atDev fun s => s.frameDiscard l)
/-- TIME (R254): A TIME frame on U corrects fabric time and may set the address. -/
def execTime (f : FFrame) (s : State) : Host.Outcome State Fault Refusal :=
  .next (s.atFrame .u 5 f fun s => s.timeRx f)
/-- TIME_SEND (R254): Every 1,000 us a TIME frame is sent on each up down link. -/
def execTimeSend (s : State) : Host.Outcome State Fault Refusal :=
  .next (s.atDev fun s => s.timeSend)
/-- FTLOCK_LOST (R254): Eight TIME frames are missed and FTLOCK clears. -/
def execFtlockLost (s : State) : Host.Outcome State Fault Refusal :=
  .next (s.atDev fun s => s.ftlockLost)
/-- LEASE_RENEW (R256): A parent answers a child's RENEW in hardware with an ACK. -/
def execLeaseRenew (k : Fin 2) (f : FFrame) (s : State) : Host.Outcome State Fault Refusal :=
  .next (s.atFrame (dLink k) 3 f fun s => s.leaseRenew k f)
/-- RENEW_SEND (R256): A device sends LEASE_RENEW on schedule or when U comes up. -/
def execRenewSend (s : State) : Host.Outcome State Fault Refusal :=
  .next (s.atDev fun s => s.renewSend)
/-- RENEW_TIMEOUT (R256): A RENEW gets no ACK within TMO and RENEWFAIL counts. -/
def execRenewTimeout (s : State) : Host.Outcome State Fault Refusal :=
  .next (s.atDev fun s => s.renewTimeout)
/-- ACK (R256): A RENEW or RETURN ACK is accepted, updating X_in and expiry. -/
def execAck (f : FFrame) (s : State) : Host.Outcome State Fault Refusal :=
  .next (s.atFrame .u 8 f fun s => s.ackRx f)
/-- LEASE_RETURN (R262): A parent lowers a child's extra on LEASE_RETURN and answers ACK. -/
def execLeaseReturn (k : Fin 2) (f : FFrame) (s : State) : Host.Outcome State Fault Refusal :=
  .next (s.atFrame (dLink k) 4 f fun s => s.leaseReturn k f)
/-- LEASE_REQ (R253): A lease request is queued for the arbiter and raises FABRX. -/
def execLeaseReq (l : FLink) (f : FFrame) (s : State) : Host.Outcome State Fault Refusal :=
  .next (s.atFrame l 1 f fun s => s.fabQueue l f)
/-- LEASE_GRANT (R253): A lease grant is queued for the arbiter and raises FABRX. -/
def execLeaseGrant (l : FLink) (f : FFrame) (s : State) : Host.Outcome State Fault Refusal :=
  .next (s.atFrame l 2 f fun s => s.fabQueue l f)
/-- NAK (R253): A NAK is queued for the arbiter and raises FABRX. -/
def execNak (l : FLink) (f : FFrame) (s : State) : Host.Outcome State Fault Refusal :=
  .next (s.atFrame l 9 f fun s => s.fabQueue l f)
/-- UPD_ACT (R351): A broadcast activation frame is forwarded and schedules an activation. -/
def execUpdAct (l : FLink) (f : FFrame) (s : State) : Host.Outcome State Fault Refusal :=
  .next (s.atFrame l 6 f fun s => s.updActRx l f)
/-- REG_TUNNEL (R263): A tunnel request is carried out at the target and answered. -/
def execRegTunnel (l : FLink) (f : FFrame) (s : State) : Host.Outcome State Fault Refusal :=
  .next (s.atFrame l 7 f fun s => s.regTunnel l f)
/-- TUNNEL_REPLY (R263): The root receives a tunnel reply and ends FAB_TCMD. -/
def execTunnelReply (f : FFrame) (s : State) : Host.Outcome State Fault Refusal :=
  .next (s.atFrame .d0 7 f fun s => (s.tunnelReply f).relayReply f)
/-- TUNNEL_SEND (R263): Command 0x54 sends a REG_TUNNEL request from the root. -/
def execTunnelSend (s : State) : Host.Outcome State Fault Refusal :=
  .next (s.atDev fun s => s.tunnelSend)
/-- TUNNEL_TIMEOUT (R263): No tunnel reply within 10 ms; CST reports TIMEOUT. -/
def execTunnelTimeout (s : State) : Host.Outcome State Fault Refusal :=
  .next (s.atDev fun s => s.tunnelTimeout)
/-- SHED_POINT (R257): The shed point passes; the lease term falls to FLOOR. -/
def execShedPoint (s : State) : Host.Outcome State Fault Refusal :=
  .next (s.atAo fun s => s.shedPoint)
/-- LEASE_EXPIRY (R257): The device's lease expires and X_in becomes 0. -/
def execLeaseExpiry (s : State) : Host.Outcome State Fault Refusal :=
  .next (s.atAo fun s => s.leaseExpiry)
/-- CHILD_LEASE_EXPIRY (R257): A child's extra expires and X_c becomes 0. -/
def execChildLeaseExpiry (k : Fin 2) (s : State) : Host.Outcome State Fault Refusal :=
  .next (s.atAo fun s => s.childExpiry k)
/-- TRANSACTION_TIMEOUT (R261): An open transaction entry times out and is rolled back. -/
def execTransactionTimeout (e : Fin 8) (s : State) : Host.Outcome State Fault Refusal :=
  .next (s.atAo fun s => s.txTimeout e)
/-- RSV_TOP (R267): Open a top transaction entry, raising TR. -/
def execRsvTop (s : State) : Host.Outcome State Fault Refusal :=
  .next (s.atDev fun s => s.leaseRsv false)
/-- RSV_PASS (R267): Open a pass entry against the room on a link. -/
def execRsvPass (s : State) : Host.Outcome State Fault Refusal :=
  .next (s.atDev fun s => s.leaseRsv true)
/-- COMMIT (R267): Commit a transaction entry, raising the child's and own extras. -/
def execCommit (s : State) : Host.Outcome State Fault Refusal :=
  .next (s.atDev fun s => s.leaseCommit)
/-- ROLLBACK (R267): Close a transaction entry with nothing committed. -/
def execRollback (s : State) : Host.Outcome State Fault Refusal :=
  .next (s.atDev fun s => s.leaseRollback)
/-- OWNGRANT (R267): Raise X_in by a granted amount. -/
def execOwngrant (s : State) : Host.Outcome State Fault Refusal :=
  .next (s.atDev fun s => s.ownGrant)
/-- RETURN (R262): Lower X_in and send LEASE_RETURN. -/
def execReturnI (s : State) : Host.Outcome State Fault Refusal :=
  .next (s.atDev fun s => s.leaseGiveBack)
/-- FTSET (R268): Set the root's fabric time forward. -/
def execFtset (v : DWord) (s : State) : Host.Outcome State Fault Refusal :=
  .next (s.atDev fun s => s.ftset v)

end Sys2Proof.Machine
end

