-- ==== Sys2Proof/Machine/FeedCmds.lean ====
section
/-! DEFINITION. The feed, early-warning and larder commands (11). -/

namespace Sys2Proof.Machine

/-- FEED_REVERSE_OFF (R270): A feed's FET turns off on reverse voltage. -/
def execFeedReverseOff (k : Feed) (s : State) : Host.Outcome State Fault Refusal :=
  .next (s.atAo fun s => s.feedReverse k)
/-- FEED_RESUME (R270): A feed resumes forward regulation after 20 us of forward drop. -/
def execFeedResume (k : Feed) (s : State) : Host.Outcome State Fault Refusal :=
  .next (s.atAo fun s => s.feedResume k)
/-- FEED_GOOD (R272): A feed becomes GOOD after 10 ms above threshold and FEEDCAP rises. -/
def execFeedGood (r : FeedStand) (s : State) : Host.Outcome State Fault Refusal :=
  .next (s.atAo fun s => s.feedGood r.feed r.fin)
/-- FEED_WARN_START (R273): A feed meets its early-warning condition; EW may begin. -/
def execFeedWarnStart (r : FeedSag) (s : State) : Host.Outcome State Fault Refusal :=
  .next (s.atAo fun s => s.feedWarn r.feed r.fin r.before)
/-- FEED_WARN_END (R273): A feed's condition ends after EWHOLD; EW may end. -/
def execFeedWarnEnd (r : FeedCalm) (s : State) : Host.Outcome State Fault Refusal :=
  .next (s.atAo fun s => s.feedWarnEnd r.feed r.fin r.fell)
/-- CMEAS_PASSAGE (R276): VHOLD rises from 3 V to 6 V and CMEAS is set. -/
def execCmeasPassage (us : Nat) (s : State) : Host.Outcome State Fault Refusal :=
  .next (s.atAo fun s => s.cmeasPassage us)
/-- LOWENERGY_CHANGE (R276): The usable VHOLD energy E crosses 1.2 mJ as VHOLD charges or falls, setting or
clearing LOWENERGY and raising ENERGYLOW or ENERGYOK. In the park VHOLD ends the discharge (R279). -/
def execLowenergyChange (vhold : Nat) (s : State) : Host.Outcome State Fault Refusal :=
  .next (if s.phase = .parked then s.parkVhold vhold else s.atAo fun s => s.lowenergyChange vhold)
/-- SAVE_TRIGGER (R278): VHV or V5 sags and the larder save starts. -/
def execSaveTrigger (k : SaveCause) (s : State) : Host.Outcome State Fault Refusal :=
  .next (s.saveTrigger k)
/-- SAVE (R278): Command a planned larder save. -/
def execSave (s : State) : Host.Outcome State Fault Refusal :=
  .next (s.atDev fun s => s.lcmdWrite 0x5A)
/-- SAVE_WRITE_DONE (R279): The larder write completes; gates open and ports discharge. -/
def execSaveWriteDone (dur vhold : Nat) (s : State) : Host.Outcome State Fault Refusal :=
  .next (s.saveDone dur vhold)
/-- SAVE_ABANDON (R280): VHOLD falls below 5.5 V before the write ends; the save is abandoned. -/
def execSaveAbandon (s : State) : Host.Outcome State Fault Refusal :=
  .next (s.saveAbandon)
/-- WARM_START (R282): Supplies return for 10 ms and the device leaves park by a warm start. -/
def execWarmStart (w : WakeSample) (s : State) : Host.Outcome State Fault Refusal :=
  .next (s.warmStart w)
/-- PARK_POWER_LOSS (R282): VHOLD falls below 4.5 V while parked and the AO domain loses power. -/
def execParkPowerLoss (s : State) : Host.Outcome State Fault Refusal :=
  .next (s.parkPowerLoss)
/-- SAVE_ARM (R389): VHV above VSAVE plus RESHYST for 10 ms arms the VHV save trigger. -/
def execSaveArm (s : State) : Host.Outcome State Fault Refusal :=
  .next (s.atAo fun s => s.saveArm)

end Sys2Proof.Machine
end

