-- ==== Sys2Proof/Machine/FlagRecCmds.lean ====
section
/-! DEFINITION. The flag-unit and recovery commands (12, 13). -/

namespace Sys2Proof.Machine

/-- PROXY_CHECKIN (R293): A debug-port proxy check-in is counted for a flag slot. -/
def execProxyCheckin (c : CoreId) (n : Fin 16) (s : State) : Host.Outcome State Fault Refusal :=
  .next (s.atAo fun s => s.proxyIn c n)
/-- FLAG_LATE (R292): A period ends with an enabled slot not done; the flag falls. -/
def execFlagLate (c : CoreId) (s : State) : Host.Outcome State Fault Refusal :=
  .next (s.atAo fun s => s.flagLate c)
/-- FLAG_CLOCK_CHECK (R295): A cross-monitor check of a unit's clock; four misses make the flag fall. -/
def execFlagClockCheck (c : CoreId) (missed : Bool) (s : State) : Host.Outcome State Fault Refusal :=
  .next (s.atAo fun s => s.flagClock c missed)
/-- FLAG_FORCE (R298): Command 0xF1 forces a flag fall with cause TEST. -/
def execFlagForce (s : State) : Host.Outcome State Fault Refusal :=
  .next (s.atDev fun s => s.flagForce)
/-- FLAG_PULSE_END (R300): A FLAG pulse request ends; the ball falls when none remain. -/
def execFlagPulseEnd (r : Fin 10) (s : State) : Host.Outcome State Fault Refusal :=
  .next (s.atAo fun s => s.flagPulseEnd r)
/-- RESTART_CORE (R306): Command a file-core restart. -/
def execRestartCore (w : Who) (s : State) : Host.Outcome State Fault Refusal :=
  .next (s.restartCoreCmd w)
/-- REINIT_PORT (R307): Command a port into ErrorRecovery and restart its file core. -/
def execReinitPort (w : Who) (s : State) : Host.Outcome State Fault Refusal :=
  .next (s.reinitPortCmd w)
/-- RESTART_ARB (R308): Command an arbiter restart. -/
def execRestartArb (w : Who) (s : State) : Host.Outcome State Fault Refusal :=
  .next (s.restartArbCmd w)
/-- RELEASE_CORE (R310): Release a file core held stopped. -/
def execReleaseCore (w : Who) (s : State) : Host.Outcome State Fault Refusal :=
  .next (s.releaseCoreCmd w)
/-- DEVICE_RESET (R314): Command a device reset. -/
def execDeviceReset (w : Who) (s : State) : Host.Outcome State Fault Refusal :=
  .next (s.deviceResetCmd w)
/-- POWER_CYCLE (R312): Command rung 4: generators fire and FLAG is pulsed. -/
def execPowerCycle (w : Who) (s : State) : Host.Outcome State Fault Refusal :=
  .next (s.powerCycleCmd w)
/-- CORE_RESTART_BEGIN (R306): A stopped file core begins its restart after 0.5 ms or on command. -/
def execCoreRestartBegin (p : PortId) (s : State) : Host.Outcome State Fault Refusal :=
  .next (s.atAo fun s => s.coreRestartBegin p)
/-- CORE_RESTART_LOADED (R306): The file image copy is checked and installed; START runs or rung 3 is taken. -/
def execCoreRestartLoaded (p : PortId) (crcOk : Bool) (s : State) : Host.Outcome State Fault Refusal :=
  .next (s.atAo fun s => s.fileLoaded p crcOk)
/-- RESTART_BOUND_EXPIRY (R309): A restarting core misses the end of START within its bound; a failure. -/
def execRestartBoundExpiry (c : CoreId) (s : State) : Host.Outcome State Fault Refusal :=
  .next (s.atAo fun s => s.boundExpiry c)
/-- ARBITER_RESTART_LOADED (R308): The boot ROM has read and digest-checked the arbiter image; START runs. -/
def execArbiterRestartLoaded (bad0 bad1 : List FlashSec) (s : State) : Host.Outcome State Fault Refusal :=
  .next (s.atAo fun s => s.arbLoaded bad0 bad1)
/-- HALT_ENTRY (R312): 200 ms after the rung 4 pulse without a power-on reset the device enters HALT. -/
def execHaltEntry (s : State) : Host.Outcome State Fault Refusal :=
  .next (s.atAo fun s => s.haltEntry)
/-- RST_N_PULSE (R418): A low pulse on RST_N causes a device reset from its rising edge. -/
def execRstNPulse (us : Nat) (s : State) : Host.Outcome State Fault Refusal :=
  .next (s.rstPulse us)

end Sys2Proof.Machine
end

