-- ==== Sys2Proof/Machine/HandlerEvents.lean ====
section
/-! DEFINITION. The events of a core outside its instructions: dispatch, timers, coalescing intervals, re-offers, broken
promises and the pace sentinel (05). -/

namespace Sys2Proof.Machine

/-! ### Timers and re-offers -/

/-- R107, R127: timer n of core c has expired, and TMIN has passed since its previous event. -/
def State.timerExpiry (s : State) (c : CoreId) (n : Fin 8) : State :=
  let C := s.core c
  let t := C.timers[n]
  let cls := 0x10 + n.val
  let tmin := (C.image.map fun im => im.tmin cls).getD 0
  let due := match t.expiry with
    | some d => decide (d ≤ s.us)
    | none => false
  let spaced := match t.last with
    | some l => decide (l + tmin ≤ s.us)
    | none => true
  if due && spaced then
    let s1 := s.modCore c fun C => { C with timers := C.timers.set n { expiry := none, last := some s.us } }
    let r : Raised := { cls, arg := BitVec.ofNat 32 n.val }
    if (C.image.map fun im => im.critical cls).getD false then s1.raiseCrit c r none else (s1.raiseNc c r).2
  else s

/-- R125: a refused event of a class is offered again. An SVC event admitted this way sends its response (R348). -/
def State.reofferEvent (s : State) (c : CoreId) (cls : Nat) : State :=
  match (s.core c).reoffer.find? fun r => decide (r.cls = cls) with
  | none => s
  | some r =>
    let r1 := (s.modCore c fun C => { C with reoffer := C.reoffer.erase r }).raiseNc c r
    if r1.1 = 0 then (if cls = 0x27 then r1.2.svcAnswer else r1.2) else r1.2

/-! ### Broken promises (R145) -/

/-- The job's absolute deadline has passed and it was not counted. An EARLY event whose frame is under reception does not
count (R133). -/
def Job.broken (j : Job) (now : Word) : Bool := !j.counted && !j.inRx && decide (until' now j.deadline < 0)

/-- The record of a broken promise. -/
def Core.breakJob (C : Core) (j : Job) : Core :=
  { C with cr := { C.cr with
      evt := setB C.cr.evt 2 true, brkcnt := satInc C.cr.brkcnt
      lastbrk := BitVec.ofNat 32 (bitAt 16 j.nc + j.slot * 2 ^ 8 + j.cls)
      lbDeadline := j.deadline, lbComplete := 0xFFFFFFFF, lbId := some j.id } }

/-- R145: the running job and the pending ones whose deadlines have passed are counted, each once. A premove counts when
it is resolved (R156). -/
def State.brokenPromises (s : State) (c : CoreId) : State :=
  s.modCore c fun C =>
    let now := s.now
    let C1 := match C.run with
      | some h => if h.job.broken now && !h.premove then
          { C.breakJob h.job with run := some { h with job := { h.job with counted := true } } } else C
      | none => C
    let C2 := C1.jobs.foldl (fun C j => if j.broken now then C.breakJob j else C) C1
    { C2 with jobs := C2.jobs.map fun j => if j.broken now then { j with counted := true } else j }

/-! ### Pace sentinel (R143, R144) -/

/-- The alarm of core c is raised (true) or cleared. -/
def State.paceChange (s : State) (c : CoreId) (rate : Half) (up : Bool) : State :=
  let s1 := s.modCore c fun C => { C with
    paceAlarm := up, paceGood := 0, cr := { C.cr with evt := setB C.cr.evt (if up then 0 else 1) true } }
  (s1.raiseCoal c 12 (if up then 1 else 0)).faultFree c (leBytes 2 rate.toNat)

/-- R144: one sample of core c, in whole Msteps/s. -/
def State.paceSample (s : State) (c : CoreId) (rate : Half) : State :=
  let C := s.core c
  let good := if 260 ≤ rate.toNat then C.paceGood + 1 else 0
  let s1 := s.modCore c fun C => { C with
    paceGood := if C.paceAlarm then good else 0
    cr := { C.cr with rate, minrate := if rate.toNat < C.cr.minrate.toNat then rate else C.cr.minrate } }
  if !C.paceAlarm && decide (rate.toNat < 250) then s1.paceChange c rate true
  else if C.paceAlarm && decide (100 ≤ good) then s1.paceChange c rate false
  else s1

/-! ### The commands -/

/-- HANDLER_DISPATCH (R132): A free core takes the next pending event and starts its handler or premove. -/
def execHandlerDispatch (c : CoreId) (s : State) : Host.Outcome State Fault Refusal :=
  .next (s.atCore c fun s => s.dispatch c)
/-- PREMOVE_STALL_END (R110): A stalled QPOP or QPEEK resumes when its data objects arrive or reception ends. -/
def execPremoveStallEnd (p : PortId) (data : List Byte) (ext : Half) (s : State) : Host.Outcome State Fault Refusal :=
  .next (s.atPp p fun s => s.premoveStallEnd p data ext)
/-- CORE_TIMER_EXPIRY (R107): A core timer expires and raises its timer event, paced by TMIN. -/
def execCoreTimerExpiry (c : CoreId) (n : Fin 8) (s : State) : Host.Outcome State Fault Refusal :=
  .next (s.atCore c fun s => s.timerExpiry c n)
/-- COALESCE_INTERVAL_END (R126): A coalesced class interval ends and one event covering latched occurrences is
raised. -/
def execCoalesceIntervalEnd (c : CoreId) (cls : Fin 64) (s : State) : Host.Outcome State Fault Refusal :=
  .next (s.atCore c fun s => s.coalEnd c cls.val)
/-- EVENT_REOFFER (R125): A refused non-critical event is offered again after 1,000 us. -/
def execEventReoffer (c : CoreId) (cls : Fin 64) (s : State) : Host.Outcome State Fault Refusal :=
  .next (s.atCore c fun s => s.reofferEvent c cls.val)
/-- BROKEN_PROMISE (R145): A job's absolute deadline passes before it ends and is counted once. -/
def execBrokenPromise (c : CoreId) (s : State) : Host.Outcome State Fault Refusal :=
  .next (s.atCore c fun s => s.brokenPromises c)
/-- PACE_SAMPLE (R144): A 10 us pace-sentinel sample raises or clears the pace alarm. -/
def execPaceSample (c : CoreId) (rate : Half) (s : State) : Host.Outcome State Fault Refusal :=
  .next (s.atCore c fun s => s.paceSample c rate)

end Sys2Proof.Machine
end

