-- ==== Sys2Proof/Machine/HostCmds.lean ====
section
/-! DEFINITION. The host-bus and mailbox commands (16). -/

namespace Sys2Proof.Machine

/-- REGISTER_WRITE (R366): Acknowledged host bytes are applied at STOP or repeated START to registers with no row
of their own. -/
def execRegisterWrite (a : Byte) (ptr : Half) (data : List Byte) (e : BusEnd) (late : Bool) (s : State) : Host.Outcome State Fault Refusal :=
  .next (s.hostWrite a ptr data e late)
/-- RC_READ (R369): Reading an RC register's lowest byte returns and clears it. -/
def execRcRead (a : Byte) (ptr : Half) (s : State) : Host.Outcome State Fault Refusal :=
  .next (s.hostRead a ptr)
/-- SDA_TIMEOUT (R370): SDA held low for SDATO ms; the interface returns to idle. -/
def execSdaTimeout (a : Byte) (s : State) : Host.Outcome State Fault Refusal :=
  .next (s.sdaTimeout a)
/-- GROUP_COMMIT (R377): Commit every block selected in GLB_GCSEL in order. -/
def execGroupCommit (s : State) : Host.Outcome State Fault Refusal :=
  .next (s.atDev fun s => s.groupCommit)
/-- MAILBOX_ISSUE (R378): Applying SEQ issues a mailbox command or returns the kept result. -/
def execMailboxIssue (seq : Byte) (s : State) : Host.Outcome State Fault Refusal :=
  .next (s.atDev fun s => s.mbxIssue seq)
/-- PORTS_OFF (R381): Hardware mailbox command turning named ports off. -/
def execPortsOff (seq pmask : Byte) (s : State) : Host.Outcome State Fault Refusal :=
  .next (s.atDev fun s => s.mbxWhole 0x80 pmask 0 seq)
/-- COMMIT_PORTS (R381): Hardware mailbox command committing selected port sub-blocks. -/
def execCommitPorts (seq pmask arg : Byte) (s : State) : Host.Outcome State Fault Refusal :=
  .next (s.atDev fun s => s.mbxWhole 0x81 pmask arg seq)
/-- ECLEAR (R381): Hardware mailbox command clearing energy counters of named ports. -/
def execEclear (seq pmask : Byte) (s : State) : Host.Outcome State Fault Refusal :=
  .next (s.atDev fun s => s.mbxWhole 0x82 pmask 0 seq)
/-- REVERT_PORTS (R381): Hardware mailbox command reverting selected port sub-blocks. -/
def execRevertPorts (seq pmask arg : Byte) (s : State) : Host.Outcome State Fault Refusal :=
  .next (s.atDev fun s => s.mbxWhole 0x83 pmask arg seq)

end Sys2Proof.Machine
end

