-- ==== Sys2Proof/Machine/MeasureCmds.lean ====
section
/-! DEFINITION. The measurement and monitor commands (09). -/

namespace Sys2Proof.Machine

/-- ADC_FRAME (R224): A 20 us ADC frame updates measurements, energy and power-good. -/
def execAdcFrame (ports : List PortSample) (f1 f2 : FeedSample) (r : RailSample) (s : State) : Host.Outcome State Fault Refusal :=
  .next (s.atAo fun s => s.adcFrame ports f1 f2 r)
/-- AVERAGE_UPDATE (R227): Each millisecond the averages take the means of 50 frames. -/
def execAverageUpdate (s : State) : Host.Outcome State Fault Refusal :=
  .next (s.atAo fun s => s.averageUpdate)
/-- DERATE_EVAL (R229): Each millisecond thermistor factors and derated ceilings are recomputed. -/
def execDerateEval (ntc : List (List (Nat × Nat))) (s : State) : Host.Outcome State Fault Refusal :=
  .next (s.atAo fun s => s.derateEval ntc)
/-- MONITOR_TICK (R231): Comparators sample, sieves update, and an armed sieve output trips. -/
def execMonitorTick (p : PortId) (m : MonSample) (st : Bool) (s : State) : Host.Outcome State Fault Refusal :=
  .next (s.atPp p fun s => s.monitorTick p m st)
/-- MONITOR_PERIOD_START (R236): A monitoring period begins; latches copied and auto-cleared. -/
def execMonitorPeriodStart (p : PortId) (s : State) : Host.Outcome State Fault Refusal :=
  .next (s.atPp p fun s => s.monitorPeriod p)
/-- STEST (R237): Command 0x5E starts a comparator self-test. -/
def execStest (p : PortId) (s : State) : Host.Outcome State Fault Refusal :=
  .next (s.atReg p fun s => s.stest p)
/-- SELF_TEST_END (R237): The 20-tick self-test ends and STDONE is set. -/
def execSelfTestEnd (p : PortId) (s : State) : Host.Outcome State Fault Refusal :=
  .next (s.atPp p fun s => s.selfTestEnd p)
/-- ECMD_CLEAR (R226): Command 0xE0 clears a port's energy counters and residues. -/
def execEcmdClear (p : PortId) (s : State) : Host.Outcome State Fault Refusal :=
  .next (s.atReg p fun s => s.ecmdClear p)
/-- THERM_CFG_WRITE (R241): A checked write of a thermistor derating curve and assignment. -/
def execThermCfgWrite (k : Fin 4) (v : Word) (s : State) : Host.Outcome State Fault Refusal :=
  .next (s.atDev fun s => s.thermCfg k v)
/-- THERM_NTC_WRITE (R241): A checked write of a thermistor characteristic. -/
def execThermNtcWrite (k : Fin 4) (v : Word) (s : State) : Host.Outcome State Fault Refusal :=
  .next (s.atDev fun s => s.thermNtc k v)

end Sys2Proof.Machine
end

