-- ==== Sys2Proof/Machine/OtpCmds.lean ====
section
/-! DEFINITION. The OTP and position commands (13, 14). -/

namespace Sys2Proof.Machine

/-- READN (R332): Read an OTP word at normal margin. -/
def execReadn (s : State) : Host.Outcome State Fault Refusal :=
  .next (s.atDev fun s => s.otpRead .readn 0x52)
/-- READS (R332): Read an OTP word at strict margin. -/
def execReads (s : State) : Host.Outcome State Fault Refusal :=
  .next (s.atDev fun s => s.otpRead .reads 0x53)
/-- PROGRAM (R335): Blow bits of an OTP word. -/
def execProgram (s : State) : Host.Outcome State Fault Refusal :=
  .next (s.atDev fun s => s.otpBlow false)
/-- SEAL (R338): Check and blow a region's lock fuse. -/
def execSealRegion (s : State) : Host.Outcome State Fault Refusal :=
  .next (s.atDev fun s => s.otpBlow true)
/-- OTP_COMMAND_END (R336): An OTP controller command completes, verifies or faults. -/
def execOtpCommandEnd (refOk : Bool) (bad : Word) (s : State) : Host.Outcome State Fault Refusal :=
  .next (s.atDev fun s => s.otpEnd refOk bad)
/-- OTP_OVR_WRITE (R334): Apply or remove an OTP region override. -/
def execOtpOvrWrite (v : Half) (s : State) : Host.Outcome State Fault Refusal :=
  .next (s.atDev fun s => s.modOtp fun o => o.ovrWrite v)
/-- OTP_STICKY_WRITE (R337): Set sticky locks of OTP regions. -/
def execOtpStickyWrite (v : Half) (s : State) : Host.Outcome State Fault Refusal :=
  .next (s.atDev fun s => s.modOtp fun o => o.stickyWrite v)
/-- OTP_UNLK_WRITE (R335): Arm the next PROGRAM or SEAL once. -/
def execOtpUnlkWrite (v : Half) (s : State) : Host.Outcome State Fault Refusal :=
  .next (s.atDev fun s => s.modOtp fun o => o.unlkWrite v)
/-- TAKE (R316): Latch the position of the whole device. -/
def execTake (s : State) : Host.Outcome State Fault Refusal :=
  .next (s.posTake)
/-- RELEASE (R316): Release the position. -/
def execRelease (s : State) : Host.Outcome State Fault Refusal :=
  .next (s.posRelease)
/-- POSITION_READY (R316): The position is assembled and READY is set. -/
def execPositionReady (s : State) : Host.Outcome State Fault Refusal :=
  .next (s.posReady)

end Sys2Proof.Machine
end

