-- ==== Sys2Proof/Machine/PhyCmds.lean ====
section
/-! DEFINITION. The PHY commands (03): frames, signalling, transmissions, and the host's queue commands. -/

namespace Sys2Proof.Machine

/-- FRAME_RECEIVED (R60): A PD frame ends and is accepted, duplicated or rejected, resolving any premove. -/
def execFrameReceived (p : PortId) (f : Frame) (s : State) : Host.Outcome State Fault Refusal :=
  .next (s.atPp p fun s => s.frameReceived p f)
/-- EARLY_DECODE (R72): A frame's header is decoded and the early-decode event is raised. -/
def execEarlyDecode (p : PortId) (x : Sop) (hdr : Half) (rate : Nat) (s : State) : Host.Outcome State Fault Refusal :=
  .next (s.atPp p fun s => s.earlyDecode p x hdr rate)
/-- INVALID_SYMBOL (R423): An invalid symbol or new SOP* ends the frame under reception unaccepted. -/
def execInvalidSymbol (p : PortId) (s : State) : Host.Outcome State Fault Refusal :=
  .next (s.atPp p fun s => s.badFrame p)
/-- LINE_IDLE_TIMEOUT (R152): No BMC transition for 12 us before EOP ends the frame and resolves its premove. -/
def execLineIdleTimeout (p : PortId) (s : State) : Host.Outcome State Fault Refusal :=
  .next (s.atPp p fun s => s.badFrame p)
/-- GOODCRC_TRANSMIT (R62): The PHY sends GoodCRC for an accepted frame after the interframe gap. -/
def execGoodcrcTransmit (p : PortId) (s : State) : Host.Outcome State Fault Refusal :=
  .next (s.atPp p fun s => s.goodCrcTx p)
/-- GOODCRC_RECEIVE (R67): A matching GoodCRC ends a TX entry as sent. -/
def execGoodcrcReceive (p : PortId) (x : Sop) (id : BitVec 3) (s : State) : Host.Outcome State Fault Refusal :=
  .next (s.atPp p fun s => s.goodCrcRx p x id)
/-- TX_START (R66): The PHY starts the oldest pending TX entry once the bus gap has passed. -/
def execTxStart (p : PortId) (s : State) : Host.Outcome State Fault Refusal :=
  .next (s.atPp p fun s => s.txStart p)
/-- TX_FRAME_END (R67): A transmitted frame reaches its EOP and the tReceive wait begins. -/
def execTxFrameEnd (p : PortId) (s : State) : Host.Outcome State Fault Refusal :=
  .next (s.atPp p fun s => s.txFrameEnd p)
/-- TRECEIVE_EXPIRY (R67): tReceive expires without GoodCRC; retry or fail NO_GOODCRC. -/
def execTreceiveExpiry (p : PortId) (s : State) : Host.Outcome State Fault Refusal :=
  .next (s.atPp p fun s => s.treceive p)
/-- AMS_HOLD_EXPIRY (R70): The tSinkTx hold of a source AMS entry ends and the entry is sent. -/
def execAmsHoldExpiry (p : PortId) (s : State) : Host.Outcome State Fault Refusal :=
  .next (s.atPp p fun s => s.amsHold p)
/-- SINK_TX_OK_ELAPSED (R71): The partner's Rp has read 3.0 A for 15 ms and a held sink AMS entry is released. -/
def execSinkTxOkElapsed (p : PortId) (s : State) : Host.Outcome State Fault Refusal :=
  .next (s.atPp p fun s => s.sinkTxOk p)
/-- HARD_RESET_RECEIVED (R73): Hard Reset signalling is received; TX fails, PHY enters Hard Reset wait, HR sequence
starts. -/
def execHardResetReceived (p : PortId) (s : State) : Host.Outcome State Fault Refusal :=
  .next (s.atPp p fun s => s.hrReceived p)
/-- HARD_RESET_DURING_RESET (R28): The PP detector sees Hard Reset while LINK is held and turns the gates off. -/
def execHardResetDuringReset (p : PortId) (s : State) : Host.Outcome State Fault Refusal :=
  .next (s.atPp p fun s => s.hrInReset p)
/-- CABLE_RESET_RECEIVED (R73): Cable Reset signalling from the partner is received. -/
def execCableResetReceived (p : PortId) (s : State) : Host.Outcome State Fault Refusal :=
  .next (s.atPp p fun s => s.crReceived p)
/-- SEND_HARD_RESET (R73): Command the PHY to send Hard Reset. -/
def execSendHardReset (p : PortId) (s : State) : Host.Outcome State Fault Refusal :=
  .next (s.atReg p fun s => s.sendHr p)
/-- HARD_RESET_TRANSMIT (R73): The commanded Hard Reset is sent once any reception in progress ends. -/
def execHardResetTransmit (p : PortId) (s : State) : Host.Outcome State Fault Refusal :=
  .next (s.atPp p fun s => s.hrTransmit p)
/-- SEND_CABLE_RESET (R73): Command the PHY to send Cable Reset as VCONN source. -/
def execSendCableReset (p : PortId) (s : State) : Host.Outcome State Fault Refusal :=
  .next (s.atReg p fun s => s.sendCr p)
/-- CABLE_RESET_TRANSMIT (R73): The commanded Cable Reset is sent once the bus is idle. -/
def execCableResetTransmit (p : PortId) (s : State) : Host.Outcome State Fault Refusal :=
  .next (s.atPp p fun s => s.crTransmit p)
/-- BIST_CARRIER (R74): Command BIST carrier mode for tBISTContMode. -/
def execBistCarrier (p : PortId) (s : State) : Host.Outcome State Fault Refusal :=
  .next (s.atReg p fun s => s.bistCarrier p)
/-- BIST_CARRIER_END (R74): The 45 ms BIST carrier ends and BISTEND is raised. -/
def execBistCarrierEnd (p : PortId) (s : State) : Host.Outcome State Fault Refusal :=
  .next (s.atPp p fun s => s.bistCarrierEnd p)
/-- BIST_TEST_DATA (R74): Command BIST Test Data mode until Hard Reset or detach. -/
def execBistTestData (p : PortId) (s : State) : Host.Outcome State Fault Refusal :=
  .next (s.atReg p fun s => s.bistTestData p)
/-- AMS_END (R70): End the port's own AMS and return Rp to SinkTxOK. -/
def execAmsEnd (p : PortId) (s : State) : Host.Outcome State Fault Refusal :=
  .next (s.atReg p fun s => s.amsEnd p)
/-- HR_DONE (R181): End the PHY's Hard Reset wait after HRGO. -/
def execHrDone (p : PortId) (s : State) : Host.Outcome State Fault Refusal :=
  .next (s.atReg p fun s => s.hrDoneCmd p)
/-- PUSH (R84): Host pushes the HOST-CMD push buffer as a new entry. -/
def execPush (p : PortId) (k : Fin 8) (s : State) : Host.Outcome State Fault Refusal :=
  .next (s.atReg p fun s => s.qPush p k)
/-- POP (R84): Host pops the PORT-EVT head only if EXPSEQ matches. -/
def execPop (p : PortId) (k : Fin 8) (s : State) : Host.Outcome State Fault Refusal :=
  .next (s.atReg p fun s => s.qPop p k)
/-- CLROVF (R77): Clear this queue's overflow flag. -/
def execClrovf (p : PortId) (k : Fin 8) (s : State) : Host.Outcome State Fault Refusal :=
  .next (s.atReg p fun s => s.qClrOvf p k)
/-- RX_REOFFER (R306): After a restart an unpopped RX entry is offered again as RXMSG, 990 us apart. -/
def execRxReoffer (p : PortId) (x : Sop) (s : State) : Host.Outcome State Fault Refusal :=
  .next (s.atPp p fun s => s.rxReoffer p x)

end Sys2Proof.Machine
end

