-- ==== Sys2Proof/Machine/PowerCmds.lean ====
section
/-! DEFINITION. The power-path and set-point commands (08, 09). -/

namespace Sys2Proof.Machine

/-- PEN_WRITE (R200): A PEN write holds gates off or, toggled after 500 ms, clears Lid. -/
def execPenWrite (p : PortId) (w : Who) (v : Bool) (s : State) : Host.Outcome State Fault Refusal :=
  .next (s.atReg p fun s => s.penWrite p w v)
/-- RSNS_WRITE (R21): A range- and LIMIT_ORDER-checked write of the sense-resistor value. -/
def execRsnsWrite (p : PortId) (v : Byte) (s : State) : Host.Outcome State Fault Refusal :=
  .next (s.atReg p fun s => s.rsnsWrite p v)
/-- TURN_ON_CHECK_DONE (R190): The 1 ms pass-short check of a turn-on passes and GB is driven on. -/
def execTurnOnCheckDone (p : PortId) (s : State) : Host.Outcome State Fault Refusal :=
  .next (s.atPp p fun s => s.turnOnCheckDone p)
/-- NOCONV (R190): V_ISN does not reach 4,000 mV within 5 ms; the turn-on is abandoned. -/
def execNoconv (p : PortId) (s : State) : Host.Outcome State Fault Refusal :=
  .next (s.atPp p fun s => s.noconv p)
/-- HOLDOFF_END (R187): A turn-off generator's 100 us hold-off ends and a deferred turn-on proceeds. -/
def execHoldoffEnd (p : PortId) (s : State) : Host.Outcome State Fault Refusal :=
  .next (s.atPp p fun s => s.holdoffEnd p)
/-- GATE_B_RISEN (R190): VGS_B reaches 9 V and GA is released to the limit loop. -/
def execGateBRisen (p : PortId) (s : State) : Host.Outcome State Fault Refusal :=
  .next (s.atPp p fun s => s.gateBRisen p)
/-- INRUSH_END (R190): FET A is fully on with the loop idle; PHASE becomes running. -/
def execInrushEnd (p : PortId) (s : State) : Host.Outcome State Fault Refusal :=
  .next (s.atPp p fun s => s.inrushEnd p)
/-- LIMIT_LOOP_ENGAGE (R194): Sensed current reaches I_eff; LIMACT sets and the fault timer starts. -/
def execLimitLoopEngage (l : LoopSample) (s : State) : Host.Outcome State Fault Refusal :=
  .next (s.atPp l.port fun s => s.limitEngage l.port l.ma l.vds)
/-- LIMIT_LOOP_RELEASE (R199): Current below 0.95 I_eff for 20 us clears LIMACT; a deferred UVP may trip. -/
def execLimitLoopRelease (l : LoopSample) (s : State) : Host.Outcome State Fault Refusal :=
  .next (s.atPp l.port fun s => s.limitRelease l.port l.ma l.vds)
/-- FAULT_TIMER_EXPIRY (R194): The fault timer reaches FTIM; trip ILIM_TIMER or SIMMER_TIMER. -/
def execFaultTimerExpiry (p : PortId) (s : State) : Host.Outcome State Fault Refusal :=
  .next (s.atPp p fun s => s.faultTimer p)
/-- HARDSHORT (R196): The continuous comparator sees the hard-short level and trips within 300 ns. -/
def execHardshort (p : PortId) (s : State) : Host.Outcome State Fault Refusal :=
  .next (s.atPp p fun s => s.trip p 1)
/-- GWR_VGS (R202): At TRISE a gate is still below 6 V; trip. -/
def execGwrVgs (p : PortId) (s : State) : Host.Outcome State Fault Refusal :=
  .next (s.atPp p fun s => s.gwrVgs p)
/-- GWR_VDS (R202): VDS stays above 250 mV for 200 us with the gate on; trip. -/
def execGwrVds (p : PortId) (s : State) : Host.Outcome State Fault Refusal :=
  .next (s.atPp p fun s => s.gwrVds p)
/-- PUMPUV (R198): A fully-on gate stays below 6 V for 50 us; trip. -/
def execPumpuv (p : PortId) (s : State) : Host.Outcome State Fault Refusal :=
  .next (s.atPp p fun s => s.pumpuv p)
/-- PASSSHORT (R203): The pass-short check sees VBUS or current through an off pair for 1 ms; trip. -/
def execPassshort (p : PortId) (s : State) : Host.Outcome State Fault Refusal :=
  .next (s.atPp p fun s => s.passshort p)
/-- IDEAL_DIODE_REVERSE_OFF (R204): Reverse voltage in ideal-diode mode turns both gates off. -/
def execIdealDiodeReverseOff (p : PortId) (s : State) : Host.Outcome State Fault Refusal :=
  .next (s.atPp p fun s => s.idealReverse p)
/-- IDEAL_DIODE_RESUME (R205): Forward drop back for 20 us; ideal-diode operation resumes. -/
def execIdealDiodeResume (p : PortId) (s : State) : Host.Outcome State Fault Refusal :=
  .next (s.atPp p fun s => s.idealResume p)
/-- V5_GATE_DROP (R188): V5 below 4.3 V for 2 us fires the generators of all ports. -/
def execV5GateDrop (s : State) : Host.Outcome State Fault Refusal :=
  .next (s.atAo fun s => s.v5Drop)
/-- IBASE_HOLD_EXPIRY (R192): 1,000 ms after HELDI fell, I_base takes the lower value. -/
def execIbaseHoldExpiry (p : PortId) (s : State) : Host.Outcome State Fault Refusal :=
  .next (s.atPp p fun s => s.ibaseExpiry p)
/-- DSCDONE (R207): VB falls below 0.8 V and a hardware-started discharge ends. -/
def execDscdone (p : PortId) (vb : Nat) (s : State) : Host.Outcome State Fault Refusal :=
  .next (if s.phase = .parked then s.parkVb p vb else s.atPp p fun s => s.dscDone p vb)
/-- DSCFAULT (R207): A discharge does not reach 0.8 V within tVBUSOFF; trip and DSC released. -/
def execDscfault (p : PortId) (s : State) : Host.Outcome State Fault Refusal :=
  .next (s.atPp p fun s => s.dscFault p)
/-- SLEW_END (R219): A VSET ramp reaches its target and SLEWEND is set. -/
def execSlewEnd (p : PortId) (s : State) : Host.Outcome State Fault Refusal :=
  .next (s.atPp p fun s => s.slewEnd p)
/-- TRIM_EVAL (R221): A 200 us trim-loop evaluation adjusts the correction. -/
def execTrimEval (p : PortId) (s : State) : Host.Outcome State Fault Refusal :=
  .next (s.atPp p fun s => s.trimEval p)

end Sys2Proof.Machine
end

