-- ==== Sys2Proof/Machine/StartCmds.lean ====
section
/-! DEFINITION. Power, start mode, boot and clock commands (17). -/

namespace Sys2Proof.Machine

/-- OTP_SENSE_DONE (R330): The OTP reset sense ends and the shadows are filled. -/
def execOtpSenseDone (s : State) : Host.Outcome State Fault Refusal :=
  .next (s.otpSenseDone)
/-- ARBITER_IMAGE_VERIFIED (R356): The boot ROM has chosen and verified the arbiter image; arbiter START begins. -/
def execArbiterImageVerified (r : FlashRead) (s : State) : Host.Outcome State Fault Refusal :=
  .next (s.arbImage r)
/-- FILE_IMAGE_CERTIFIED (R139): The loader accepts or refuses the file image and file cores START. -/
def execFileImageCertified (r : FlashRead) (s : State) : Host.Outcome State Fault Refusal :=
  .next (s.fileImage r)
/-- PORTS_LIVE (R314): LINK is released and the ports go live after a reset. -/
def execPortsLive (s : State) : Host.Outcome State Fault Refusal :=
  .next (s.portsLive)
/-- POWER_ON_RESET (R392): V5 rises through 4.5 V and the power-on boot runs. -/
def execPowerOnReset (b : Board) (s : State) : Host.Outcome State Fault Refusal :=
  .next (s.powerOn b)
/-- START_MODE_ENTRY (R393): VHV or a VB reaches 4.0 V without V5 and start mode begins. -/
def execStartModeEntry (src : StartSource) (s : State) : Host.Outcome State Fault Refusal :=
  .next (s.startModeEntry src)
/-- START_MODE_EXIT (R394): V5 rises through 4.5 V in start mode, keeping CC state across the reset. -/
def execStartModeExit (b : Board) (ms : Nat) (s : State) : Host.Outcome State Fault Refusal :=
  .next (s.startModeExit b ms)
/-- START_MODE_LOSS (R394): The start-mode source (VHV or a port's VB) fails before V5 rises, so the AO domain
loses power and nothing is kept. -/
def execStartModeLoss (s : State) : Host.Outcome State Fault Refusal :=
  .next (s.startModeLoss)
/-- VIO_LOSS (R388): VIO falls below 1.5 V; VIO balls go high-impedance. -/
def execVioLoss (s : State) : Host.Outcome State Fault Refusal :=
  .next (s.vioLoss)
/-- VIO_RETURN (R388): VIO returns to 1.65 V and the waiting boot may continue. -/
def execVioReturn (s : State) : Host.Outcome State Fault Refusal :=
  .next (s.vioReturn)
/-- XTAL_SWITCH (R390): The crystal is confirmed and the main timebase moves to it. -/
def execXtalSwitch (s : State) : Host.Outcome State Fault Refusal :=
  .next (s.xtalSwitch)
/-- XTAL_FAIL (R390): The crystal stops or drifts and the main timebase returns to the oscillator. -/
def execXtalFail (s : State) : Host.Outcome State Fault Refusal :=
  .next (s.xtalFail)

end Sys2Proof.Machine
end

