-- ==== Sys2Proof/Machine/TypecCmds.lean ====
section
/-! DEFINITION. The Type-C commands (02): pins, debounces, timers, wet checks and VCONN. -/

namespace Sys2Proof.Machine

/-- CC_TERMINATION_CHANGE (R36): A CC pin's classified termination changes, driving Type-C transitions. -/
def execCcTerminationChange (p : PortId) (pin : CcPin) (mv : Nat) (s : State) : Host.Outcome State Fault Refusal :=
  .next (s.atTc p fun s => s.ccChange p pin mv)
/-- CC_OVER_VOLTAGE (R52): A CC pin rises above 6 V; isolation opens and the port enters ErrorRecovery. -/
def execCcOverVoltage (p : PortId) (pin : CcPin) (s : State) : Host.Outcome State Fault Refusal :=
  .next (s.atTc p fun s => s.ccOv p pin)
/-- CC_ISOLATION_CLOSE (R52): A CC pin has stayed below 5.5 V for 10 ms and its isolation switch closes. -/
def execCcIsolationClose (p : PortId) (pin : CcPin) (s : State) : Host.Outcome State Fault Refusal :=
  .next (s.atTc p fun s => s.ccIsoClose p pin)
/-- TCC_DEBOUNCE_EXPIRY (R45): tCCDebounce ends and the port attaches, wet-checks or enters an accessory state. -/
def execTccDebounceExpiry (p : PortId) (vb : Nat) (s : State) : Host.Outcome State Fault Refusal :=
  .next (s.atTc p fun s => s.ccDebounce p vb)
/-- TPD_DEBOUNCE_EXPIRY (R45): A termination has been absent for tPDDebounce and the port returns by role. -/
def execTpdDebounceExpiry (p : PortId) (s : State) : Host.Outcome State Fault Refusal :=
  .next (s.atTc p fun s => s.pdDebounce p)
/-- TTRY_CC_DEBOUNCE_EXPIRY (R45): tTryCCDebounce ends in a Try or TryWait state and the port attaches. -/
def execTtryCcDebounceExpiry (p : PortId) (s : State) : Host.Outcome State Fault Refusal :=
  .next (s.atTc p fun s => s.tryDebounce p)
/-- TDRP_TOGGLE (R45): A DRP toggle phase elapses and the port swaps Rd and Rp. -/
def execTdrpToggle (p : PortId) (s : State) : Host.Outcome State Fault Refusal :=
  .next (s.atTc p fun s => s.drpToggle p)
/-- TDRP_TRY_EXPIRY (R45): tDRPTry elapses in a Try or TryWait state. -/
def execTdrpTryExpiry (p : PortId) (s : State) : Host.Outcome State Fault Refusal :=
  .next (s.atTc p fun s => s.drpTry p)
/-- TTRY_TIMEOUT (R45): tTryTimeout elapses in Try.SRC and the port goes to TryWait.SNK. -/
def execTtryTimeout (p : PortId) (s : State) : Host.Outcome State Fault Refusal :=
  .next (s.atTc p fun s => s.tryTimeout p)
/-- SRC_DISCONNECT (R47): No Rd on the active CC for tSRCDisconnect; the source detaches. -/
def execSrcDisconnect (p : PortId) (s : State) : Host.Outcome State Fault Refusal :=
  .next (s.atTc p fun s => s.srcDisconnect p)
/-- SNK_VBUS_LOST (R45): VB falls below 3.67 V in Attached.SNK and the sink detaches. -/
def execSnkVbusLost (p : PortId) (vb : Nat) (s : State) : Host.Outcome State Fault Refusal :=
  .next (s.atTc p fun s => s.snkVbLost p vb)
/-- VBUS_ON_TIMEOUT (R45): VB is not in vSafe5V tVBUSON after source attach; ErrorRecovery. -/
def execVbusOnTimeout (p : PortId) (vb : Nat) (s : State) : Host.Outcome State Fault Refusal :=
  .next (s.atTc p fun s => s.vbusOn p vb)
/-- SRC_ATTACH_VB_LOW (R45): VB falls below 0.8 V while AttachWait.SRC waits, and the waiting attach row is taken. -/
def execSrcAttachVbLow (p : PortId) (vb : Nat) (s : State) : Host.Outcome State Fault Refusal :=
  .next (s.atTc p fun s => s.srcVbLow p vb)
/-- TERROR_RECOVERY_EXPIRY (R45): ErrorRecovery ends and terminations are presented again. -/
def execTerrorRecoveryExpiry (p : PortId) (s : State) : Host.Outcome State Fault Refusal :=
  .next (s.atTc p fun s => s.errRecTimer p)
/-- SINK_VBUS_DETECT (R45): VB rises to 4.0 V on a port in AttachWait.SNK or TryWait.SNK whose Rp has already been
debounced, and the sink attach row is taken. -/
def execSinkVbusDetect (p : PortId) (vb : Nat) (s : State) : Host.Outcome State Fault Refusal :=
  .next (s.atTc p fun s => s.snkVbus p vb)
/-- WET_CHECK_END (R55): A wet check completes with a dry, wet or no verdict. -/
def execWetCheckEnd (p : PortId) (r : WetReading) (s : State) : Host.Outcome State Fault Refusal :=
  .next (s.atTc p fun s => s.wetCheckEnd p r)
/-- WET_CHECK_SBU_OV (R53): An SBU pin above 6 V ends a wet check at once as wet. -/
def execWetCheckSbuOv (p : PortId) (s : State) : Host.Outcome State Fault Refusal :=
  .next (s.atTc p fun s => s.wetSbuOv p)
/-- WET_RECHECK (R56): The Wet recheck interval elapses and a new check runs. -/
def execWetRecheck (p : PortId) (s : State) : Host.Outcome State Fault Refusal :=
  .next (s.atTc p fun s => s.wetRecheck p)
/-- WET_CHECK_NOW (R54): Command 0x5A starts a wet check on demand. -/
def execWetCheckNow (p : PortId) (s : State) : Host.Outcome State Fault Refusal :=
  .next (s.atReg p fun s => s.wetNow p)
/-- WET_OVERRIDE (R57): Command 0xD7 arms an override for the next wet verdict. -/
def execWetOverride (p : PortId) (s : State) : Host.Outcome State Fault Refusal :=
  .next (s.atReg p fun s => s.wetOverride p)
/-- VCONN_OC_TRIP (R50): VCONN current limit for 5 ms opens the switch. -/
def execVconnOcTrip (p : PortId) (s : State) : Host.Outcome State Fault Refusal :=
  .next (s.atPp p fun s => s.vconnOpen p 6)
/-- VCONN_REVERSE (R50): Reverse voltage on the VCONN pin opens the switch. -/
def execVconnReverse (p : PortId) (s : State) : Host.Outcome State Fault Refusal :=
  .next (s.atPp p fun s => s.vconnOpen p 7)
/-- VCONN_INPUT_UV (R50): A VCONN group input below 4.5 V for 100 us opens the group's switches. -/
def execVconnInputUv (g : Fin 2) (s : State) : Host.Outcome State Fault Refusal :=
  .next (s.atAo fun s => s.vconnUv g)

end Sys2Proof.Machine
end

