-- ==== Sys2Proof/Machine/UpdateCmds.lean ====
section
/-! DEFINITION. The update and service-port commands (15). -/

namespace Sys2Proof.Machine

/-- UPD_BEGIN (R345): Check the staged header and start receiving the body. -/
def execUpdBegin (s : State) : Host.Outcome State Fault Refusal :=
  .next (s.updBegin)
/-- UPD_END (R345): Check BODYHASH and copy the image into its target slot. -/
def execUpdEnd (s : State) : Host.Outcome State Fault Refusal :=
  .next (s.updEnd)
/-- UPD_ABORT (R345): Abandon the transfer and erase staging. -/
def execUpdAbort (s : State) : Host.Outcome State Fault Refusal :=
  .next (s.updAbort)
/-- UPD_ERASE (R345): Erase the relay staging area. -/
def execUpdErase (s : State) : Host.Outcome State Fault Refusal :=
  .next (s.updErase)
/-- SCHEDULE (R351): Schedule an activation at a fabric time. -/
def execSchedule (s : State) : Host.Outcome State Fault Refusal :=
  .next (s.schedule)
/-- CANCEL (R351): Remove a scheduled activation. -/
def execCancel (s : State) : Host.Outcome State Fault Refusal :=
  .next (s.cancel)
/-- UPD_ROLLBACK (R355): End a trial by fall-back. -/
def execUpdRollback (s : State) : Host.Outcome State Fault Refusal :=
  .next (s.updRollback)
/-- RELAY (R350): Root relays its staging to devices over the fabric. -/
def execRelay (s : State) : Host.Outcome State Fault Refusal :=
  .next (s.relay)
/-- RELAY_FRAME_SEND (R350): The relay sends its next tunnel frame after 50 us or the 100 ms BEGIN wait. -/
def execRelayFrameSend (s : State) : Host.Outcome State Fault Refusal :=
  .next (s.atDev fun s => s.relaySend)
/-- CONFIRM (R354): Confirm the trial set. -/
def execConfirm (s : State) : Host.Outcome State Fault Refusal :=
  .next (s.confirmWrite 0xC0)
/-- HOST_CHUNK (R345): A host chunk applied through UPD_CHUNK is written to staging. -/
def execHostChunk (off : Word) (data : List Byte) (s : State) : Host.Outcome State Fault Refusal :=
  .next (s.hostChunk off data)
/-- CHUNK_WRITE_DONE (R345): The flash write of an applied chunk completes, up to 40 us after it began, and staging
again accepts the next chunk. -/
def execChunkWriteDone (s : State) : Host.Outcome State Fault Refusal :=
  .next (s.chunkWriteDone)
/-- INSTALL_DONE (R345): The END copy and sector verify complete; the image is pending. -/
def execInstallDone (e : InstallEnd) (s : State) : Host.Outcome State Fault Refusal :=
  .next (s.installDone e.ok e.pal)
/-- STAGING_ERASED (R345): Background staging erase completes and STATE returns to idle. -/
def execStagingErased (s : State) : Host.Outcome State Fault Refusal :=
  .next (s.stagingErased)
/-- ACTIVATION_START (R352): Fabric time reaches ACTTIME and the activation checks run. -/
def execActivationStart (s : State) : Host.Outcome State Fault Refusal :=
  .next (s.actCheck)
/-- ACTIVATION_RECHECK (R352): A 10 ms recheck of activation conditions, cancelling after 1,000 ms. -/
def execActivationRecheck (s : State) : Host.Outcome State Fault Refusal :=
  .next (s.actCheck)
/-- QUIET_PORT_RESTART (R353): A passed-over port becomes quiet and its core is restarted. -/
def execQuietPortRestart (p : PortId) (s : State) : Host.Outcome State Fault Refusal :=
  .next (s.quietRestart p)
/-- TRIAL_END (R355): TRIALEND is reached without confirmation; fall-back. -/
def execTrialEnd (s : State) : Host.Outcome State Fault Refusal :=
  .next (s.trialEnds)
/-- SVC_DETECT (R347): SVC_DET high for 10 ms activates the service port. -/
def execSvcDetect (s : State) : Host.Outcome State Fault Refusal :=
  .next (s.svcDetect true)
/-- SVC_LOST (R347): SVC_DET low for 10 ms deactivates the service port. -/
def execSvcLost (s : State) : Host.Outcome State Fault Refusal :=
  .next (s.svcDetect false)
/-- SVC_PACKET_GAP (R348): A gap over 2 ms discards a partial service packet. A packet is one command here, taken
whole (log 42): State holds no partial packet to discard. -/
def execSvcPacketGap (s : State) : Host.Outcome State Fault Refusal :=
  .next s
/-- SVC_PACKET_DISCARD (R348): A service-port packet with a bad CRC is discarded with no response. A
packet is one command here, taken whole (log 42): State holds no partial packet to discard. -/
def execSvcPacketDiscard (s : State) : Host.Outcome State Fault Refusal :=
  .next s
/-- SVC_HELLO (R348): Service packet returning identity and versions. -/
def execSvcHello (k : SvcPacket) (s : State) : Host.Outcome State Fault Refusal :=
  .next (s.svcHello k)
/-- SVC_WRITE (R348): Service packet writing a chunk into staging. -/
def execSvcWrite (k : SvcPacket) (s : State) : Host.Outcome State Fault Refusal :=
  .next (s.svcWrite k)
/-- SVC_BEGIN (R348): Service packet issuing BEGIN. -/
def execSvcBegin (k : SvcPacket) (s : State) : Host.Outcome State Fault Refusal :=
  .next (s.svcBegin k)
/-- SVC_END (R348): Service packet issuing END. -/
def execSvcEnd (k : SvcPacket) (s : State) : Host.Outcome State Fault Refusal :=
  .next (s.svcEnd k)
/-- SVC_STATUS (R348): Service packet returning transfer and update status. -/
def execSvcStatus (k : SvcPacket) (s : State) : Host.Outcome State Fault Refusal :=
  .next (s.svcStatus k)
/-- SVC_SCHEDULE (R348): Service packet scheduling an activation. -/
def execSvcSchedule (k : SvcPacket) (s : State) : Host.Outcome State Fault Refusal :=
  .next (s.svcSchedule k)
/-- SVC_CONFIRM (R348): Service packet confirming the trial. -/
def execSvcConfirm (k : SvcPacket) (s : State) : Host.Outcome State Fault Refusal :=
  .next (s.svcConfirm k)
/-- SVC_ROLLBACK (R348): Service packet requesting fall-back. -/
def execSvcRollback (k : SvcPacket) (s : State) : Host.Outcome State Fault Refusal :=
  .next (s.svcRollback k)
/-- SVC_ABORT (R348): Service packet aborting the transfer. -/
def execSvcAbort (k : SvcPacket) (s : State) : Host.Outcome State Fault Refusal :=
  .next (s.svcAbort k)
/-- SVC_BAUD (R348): Service packet changing the baud divisor after the response. -/
def execSvcBaud (k : SvcPacket) (s : State) : Host.Outcome State Fault Refusal :=
  .next (s.svcBaud k)

end Sys2Proof.Machine
end

