-- ==== Sys2Proof/Machine/Dispatch.lean ====
section
/-! DEFINITION. The dispatcher: one arm per command of the table, each one call of its meaning. -/

namespace Sys2Proof.Machine

/-- The effect of a command on everything but the queue. -/
def exec (i : Instr) (s : State) : Host.Outcome State Fault Refusal :=
  match i with
  | .add c f => Sys2Proof.Machine.execAdd c f s
  | .sub c f => Sys2Proof.Machine.execSub c f s
  | .and c f => Sys2Proof.Machine.execAnd c f s
  | .or c f => Sys2Proof.Machine.execOr c f s
  | .xor c f => Sys2Proof.Machine.execXor c f s
  | .shl c f => Sys2Proof.Machine.execShl c f s
  | .shr c f => Sys2Proof.Machine.execShr c f s
  | .sar c f => Sys2Proof.Machine.execSar c f s
  | .slt c f => Sys2Proof.Machine.execSlt c f s
  | .sltu c f => Sys2Proof.Machine.execSltu c f s
  | .min c f => Sys2Proof.Machine.execMin c f s
  | .max c f => Sys2Proof.Machine.execMax c f s
  | .minu c f => Sys2Proof.Machine.execMinu c f s
  | .maxu c f => Sys2Proof.Machine.execMaxu c f s
  | .addsu c f => Sys2Proof.Machine.execAddsu c f s
  | .subsu c f => Sys2Proof.Machine.execSubsu c f s
  | .mul c f => Sys2Proof.Machine.execMul c f s
  | .mulh c f => Sys2Proof.Machine.execMulh c f s
  | .mulhu c f => Sys2Proof.Machine.execMulhu c f s
  | .div c f => Sys2Proof.Machine.execDiv c f s
  | .divu c f => Sys2Proof.Machine.execDivu c f s
  | .rem c f => Sys2Proof.Machine.execRem c f s
  | .remu c f => Sys2Proof.Machine.execRemu c f s
  | .addi c f => Sys2Proof.Machine.execAddi c f s
  | .andi c f => Sys2Proof.Machine.execAndi c f s
  | .ori c f => Sys2Proof.Machine.execOri c f s
  | .xori c f => Sys2Proof.Machine.execXori c f s
  | .shli c f => Sys2Proof.Machine.execShli c f s
  | .shri c f => Sys2Proof.Machine.execShri c f s
  | .sari c f => Sys2Proof.Machine.execSari c f s
  | .lui c f => Sys2Proof.Machine.execLui c f s
  | .slti c f => Sys2Proof.Machine.execSlti c f s
  | .sltiu c f => Sys2Proof.Machine.execSltiu c f s
  | .muli c f => Sys2Proof.Machine.execMuli c f s
  | .ldw c f => Sys2Proof.Machine.execLdw c f s
  | .ldh c f => Sys2Proof.Machine.execLdh c f s
  | .ldhs c f => Sys2Proof.Machine.execLdhs c f s
  | .ldb c f => Sys2Proof.Machine.execLdb c f s
  | .ldbs c f => Sys2Proof.Machine.execLdbs c f s
  | .stw c f => Sys2Proof.Machine.execStw c f s
  | .sth c f => Sys2Proof.Machine.execSth c f s
  | .stb c f => Sys2Proof.Machine.execStb c f s
  | .ext c f => Sys2Proof.Machine.execExt c f s
  | .exts c f => Sys2Proof.Machine.execExts c f s
  | .ins c f => Sys2Proof.Machine.execIns c f s
  | .br c f => Sys2Proof.Machine.execBr c f s
  | .loop c f => Sys2Proof.Machine.execLoop c f s
  | .call c f => Sys2Proof.Machine.execCall c f s
  | .ret c f => Sys2Proof.Machine.execRet c f s
  | .endI c f => Sys2Proof.Machine.execEndI c f s
  | .await c f => Sys2Proof.Machine.execAwait c f s
  | .tsetRelative c f => Sys2Proof.Machine.execTsetRelative c f s
  | .tsetAbsolute c f => Sys2Proof.Machine.execTsetAbsolute c f s
  | .tclr c f => Sys2Proof.Machine.execTclr c f s
  | .tevt c f => Sys2Proof.Machine.execTevt c f s
  | .qpush c f => Sys2Proof.Machine.execQpush c f s
  | .qpop c f => Sys2Proof.Machine.execQpop c f s
  | .qpeekEvent c f => Sys2Proof.Machine.execQpeekEvent c f s
  | .qpeekSlot c f => Sys2Proof.Machine.execQpeekSlot c f s
  | .lrsv c f => Sys2Proof.Machine.execLrsv c f s
  | .lcmt c f => Sys2Proof.Machine.execLcmt c f s
  | .lrelGrant c f => Sys2Proof.Machine.execLrelGrant c f s
  | .lrelReservation c f => Sys2Proof.Machine.execLrelReservation c f s
  | .lrdGrant c f => Sys2Proof.Machine.execLrdGrant c f s
  | .lrdReservation c f => Sys2Proof.Machine.execLrdReservation c f s
  | .lrdCeiling c f => Sys2Proof.Machine.execLrdCeiling c f s
  | .lrdAvailable c f => Sys2Proof.Machine.execLrdAvailable c f s
  | .lrdGrantSum c f => Sys2Proof.Machine.execLrdGrantSum c f s
  | .lrdHeadroom c f => Sys2Proof.Machine.execLrdHeadroom c f s
  | .actVset c f => Sys2Proof.Machine.execActVset c f s
  | .actIlim c f => Sys2Proof.Machine.execActIlim c f s
  | .actConv c f => Sys2Proof.Machine.execActConv c f s
  | .actGateOff c f => Sys2Proof.Machine.execActGateOff c f s
  | .actGateSourceOn c f => Sys2Proof.Machine.execActGateSourceOn c f s
  | .actGateIdealDiode c f => Sys2Proof.Machine.execActGateIdealDiode c f s
  | .actDsc c f => Sys2Proof.Machine.execActDsc c f s
  | .actVconn c f => Sys2Proof.Machine.execActVconn c f s
  | .chk c f => Sys2Proof.Machine.execChk c f s
  | .log c f => Sys2Proof.Machine.execLog c f s
  | .fsend c f => Sys2Proof.Machine.execFsend c f s
  | .frecv c f => Sys2Proof.Machine.execFrecv c f s
  | .handlerDispatch c => Sys2Proof.Machine.execHandlerDispatch c s
  | .premoveStallEnd p data ext => Sys2Proof.Machine.execPremoveStallEnd p data ext s
  | .coreTimerExpiry c n => Sys2Proof.Machine.execCoreTimerExpiry c n s
  | .coalesceIntervalEnd c cls => Sys2Proof.Machine.execCoalesceIntervalEnd c cls s
  | .eventReoffer c cls => Sys2Proof.Machine.execEventReoffer c cls s
  | .brokenPromise c => Sys2Proof.Machine.execBrokenPromise c s
  | .paceSample c rate => Sys2Proof.Machine.execPaceSample c rate s
  | .frameReceived p f => Sys2Proof.Machine.execFrameReceived p f s
  | .earlyDecode p x hdr rate => Sys2Proof.Machine.execEarlyDecode p x hdr rate s
  | .invalidSymbol p => Sys2Proof.Machine.execInvalidSymbol p s
  | .lineIdleTimeout p => Sys2Proof.Machine.execLineIdleTimeout p s
  | .goodcrcTransmit p => Sys2Proof.Machine.execGoodcrcTransmit p s
  | .goodcrcReceive p x id => Sys2Proof.Machine.execGoodcrcReceive p x id s
  | .txStart p => Sys2Proof.Machine.execTxStart p s
  | .txFrameEnd p => Sys2Proof.Machine.execTxFrameEnd p s
  | .treceiveExpiry p => Sys2Proof.Machine.execTreceiveExpiry p s
  | .amsHoldExpiry p => Sys2Proof.Machine.execAmsHoldExpiry p s
  | .sinkTxOkElapsed p => Sys2Proof.Machine.execSinkTxOkElapsed p s
  | .hardResetReceived p => Sys2Proof.Machine.execHardResetReceived p s
  | .hardResetDuringReset p => Sys2Proof.Machine.execHardResetDuringReset p s
  | .cableResetReceived p => Sys2Proof.Machine.execCableResetReceived p s
  | .sendHardReset p => Sys2Proof.Machine.execSendHardReset p s
  | .hardResetTransmit p => Sys2Proof.Machine.execHardResetTransmit p s
  | .sendCableReset p => Sys2Proof.Machine.execSendCableReset p s
  | .cableResetTransmit p => Sys2Proof.Machine.execCableResetTransmit p s
  | .bistCarrier p => Sys2Proof.Machine.execBistCarrier p s
  | .bistCarrierEnd p => Sys2Proof.Machine.execBistCarrierEnd p s
  | .bistTestData p => Sys2Proof.Machine.execBistTestData p s
  | .amsEnd p => Sys2Proof.Machine.execAmsEnd p s
  | .hrDone p => Sys2Proof.Machine.execHrDone p s
  | .push p k => Sys2Proof.Machine.execPush p k s
  | .pop p k => Sys2Proof.Machine.execPop p k s
  | .clrovf p k => Sys2Proof.Machine.execClrovf p k s
  | .rxReoffer p x => Sys2Proof.Machine.execRxReoffer p x s
  | .ccTerminationChange p pin t => Sys2Proof.Machine.execCcTerminationChange p pin t s
  | .ccOverVoltage p pin => Sys2Proof.Machine.execCcOverVoltage p pin s
  | .ccIsolationClose p pin => Sys2Proof.Machine.execCcIsolationClose p pin s
  | .tccDebounceExpiry p vb => Sys2Proof.Machine.execTccDebounceExpiry p vb s
  | .tpdDebounceExpiry p => Sys2Proof.Machine.execTpdDebounceExpiry p s
  | .ttryCcDebounceExpiry p => Sys2Proof.Machine.execTtryCcDebounceExpiry p s
  | .tdrpToggle p => Sys2Proof.Machine.execTdrpToggle p s
  | .tdrpTryExpiry p => Sys2Proof.Machine.execTdrpTryExpiry p s
  | .ttryTimeout p => Sys2Proof.Machine.execTtryTimeout p s
  | .srcDisconnect p => Sys2Proof.Machine.execSrcDisconnect p s
  | .snkVbusLost p vb => Sys2Proof.Machine.execSnkVbusLost p vb s
  | .vbusOnTimeout p vb => Sys2Proof.Machine.execVbusOnTimeout p vb s
  | .srcAttachVbLow p vb => Sys2Proof.Machine.execSrcAttachVbLow p vb s
  | .terrorRecoveryExpiry p => Sys2Proof.Machine.execTerrorRecoveryExpiry p s
  | .wetCheckEnd p r => Sys2Proof.Machine.execWetCheckEnd p r s
  | .wetCheckSbuOv p => Sys2Proof.Machine.execWetCheckSbuOv p s
  | .wetRecheck p => Sys2Proof.Machine.execWetRecheck p s
  | .wetCheckNow p => Sys2Proof.Machine.execWetCheckNow p s
  | .wetOverride p => Sys2Proof.Machine.execWetOverride p s
  | .vconnOcTrip p => Sys2Proof.Machine.execVconnOcTrip p s
  | .vconnReverse p => Sys2Proof.Machine.execVconnReverse p s
  | .vconnInputUv g => Sys2Proof.Machine.execVconnInputUv g s
  | .tcCommit p => Sys2Proof.Machine.execTcCommit p s
  | .pdCommit p => Sys2Proof.Machine.execPdCommit p s
  | .pwCommit p => Sys2Proof.Machine.execPwCommit p s
  | .spCommit p => Sys2Proof.Machine.execSpCommit p s
  | .mnCommit p => Sys2Proof.Machine.execMnCommit p s
  | .ldgCommit => Sys2Proof.Machine.execLdgCommit s
  | .fabCommit => Sys2Proof.Machine.execFabCommit s
  | .fedCommit => Sys2Proof.Machine.execFedCommit s
  | .hbsCommit => Sys2Proof.Machine.execHbsCommit s
  | .revert b => Sys2Proof.Machine.execRevert b s
  | .movingTimeout p => Sys2Proof.Machine.execMovingTimeout p s
  | .ppsGuardExpiry p => Sys2Proof.Machine.execPpsGuardExpiry p s
  | .eprGuardExpiry p => Sys2Proof.Machine.execEprGuardExpiry p s
  | .prsBegin p => Sys2Proof.Machine.execPrsBegin p s
  | .term p => Sys2Proof.Machine.execTerm p s
  | .swapEnd p => Sys2Proof.Machine.execSwapEnd p s
  | .errrec p => Sys2Proof.Machine.execErrrec p s
  | .swapBackstopExpiry p => Sys2Proof.Machine.execSwapBackstopExpiry p s
  | .safe0 p vb => Sys2Proof.Machine.execSafe0 p vb s
  | .frsSignal p => Sys2Proof.Machine.execFrsSignal p s
  | .fastSourcing p vb => Sys2Proof.Machine.execFastSourcing p vb s
  | .fastSourcingHoldoffEnd p => Sys2Proof.Machine.execFastSourcingHoldoffEnd p s
  | .hrPsHardReset p => Sys2Proof.Machine.execHrPsHardReset p s
  | .hrSafe0 p vb => Sys2Proof.Machine.execHrSafe0 p vb s
  | .hrgoSource p => Sys2Proof.Machine.execHrgoSource p s
  | .hrTurnOnTimeout p => Sys2Proof.Machine.execHrTurnOnTimeout p s
  | .hrgoSink p vb => Sys2Proof.Machine.execHrgoSink p vb s
  | .hrSinkTimeout p vb => Sys2Proof.Machine.execHrSinkTimeout p vb s
  | .penWrite p w v => Sys2Proof.Machine.execPenWrite p w v s
  | .rsnsWrite p v => Sys2Proof.Machine.execRsnsWrite p v s
  | .turnOnCheckDone p => Sys2Proof.Machine.execTurnOnCheckDone p s
  | .noconv p => Sys2Proof.Machine.execNoconv p s
  | .holdoffEnd p => Sys2Proof.Machine.execHoldoffEnd p s
  | .gateBRisen p => Sys2Proof.Machine.execGateBRisen p s
  | .inrushEnd p => Sys2Proof.Machine.execInrushEnd p s
  | .limitLoopEngage l => Sys2Proof.Machine.execLimitLoopEngage l s
  | .limitLoopRelease l => Sys2Proof.Machine.execLimitLoopRelease l s
  | .faultTimerExpiry p => Sys2Proof.Machine.execFaultTimerExpiry p s
  | .hardshort p => Sys2Proof.Machine.execHardshort p s
  | .gwrVgs p => Sys2Proof.Machine.execGwrVgs p s
  | .gwrVds p => Sys2Proof.Machine.execGwrVds p s
  | .pumpuv p => Sys2Proof.Machine.execPumpuv p s
  | .passshort p => Sys2Proof.Machine.execPassshort p s
  | .idealDiodeReverseOff p => Sys2Proof.Machine.execIdealDiodeReverseOff p s
  | .idealDiodeResume p => Sys2Proof.Machine.execIdealDiodeResume p s
  | .v5GateDrop => Sys2Proof.Machine.execV5GateDrop s
  | .ibaseHoldExpiry p => Sys2Proof.Machine.execIbaseHoldExpiry p s
  | .dscdone p vb => Sys2Proof.Machine.execDscdone p vb s
  | .dscfault p => Sys2Proof.Machine.execDscfault p s
  | .slewEnd p => Sys2Proof.Machine.execSlewEnd p s
  | .trimEval p => Sys2Proof.Machine.execTrimEval p s
  | .adcFrame ports f1 f2 r => Sys2Proof.Machine.execAdcFrame ports f1 f2 r s
  | .averageUpdate => Sys2Proof.Machine.execAverageUpdate s
  | .derateEval ntc => Sys2Proof.Machine.execDerateEval ntc s
  | .monitorTick p m st => Sys2Proof.Machine.execMonitorTick p m st s
  | .monitorPeriodStart p => Sys2Proof.Machine.execMonitorPeriodStart p s
  | .stest p => Sys2Proof.Machine.execStest p s
  | .selfTestEnd p => Sys2Proof.Machine.execSelfTestEnd p s
  | .ecmdClear p => Sys2Proof.Machine.execEcmdClear p s
  | .thermCfgWrite k v => Sys2Proof.Machine.execThermCfgWrite k v s
  | .thermNtcWrite k v => Sys2Proof.Machine.execThermNtcWrite k v s
  | .ledgerCut => Sys2Proof.Machine.execLedgerCut s
  | .linkUp l => Sys2Proof.Machine.execLinkUp l s
  | .linkDown l => Sys2Proof.Machine.execLinkDown l s
  | .frameForward l f => Sys2Proof.Machine.execFrameForward l f s
  | .time f => Sys2Proof.Machine.execTime f s
  | .timeSend => Sys2Proof.Machine.execTimeSend s
  | .ftlockLost => Sys2Proof.Machine.execFtlockLost s
  | .leaseRenew k f => Sys2Proof.Machine.execLeaseRenew k f s
  | .renewSend => Sys2Proof.Machine.execRenewSend s
  | .renewTimeout => Sys2Proof.Machine.execRenewTimeout s
  | .ack f => Sys2Proof.Machine.execAck f s
  | .leaseReturn k f => Sys2Proof.Machine.execLeaseReturn k f s
  | .leaseReq l f => Sys2Proof.Machine.execLeaseReq l f s
  | .leaseGrant l f => Sys2Proof.Machine.execLeaseGrant l f s
  | .nak l f => Sys2Proof.Machine.execNak l f s
  | .updAct l f => Sys2Proof.Machine.execUpdAct l f s
  | .regTunnel l f => Sys2Proof.Machine.execRegTunnel l f s
  | .tunnelReply f => Sys2Proof.Machine.execTunnelReply f s
  | .tunnelSend => Sys2Proof.Machine.execTunnelSend s
  | .tunnelTimeout => Sys2Proof.Machine.execTunnelTimeout s
  | .shedPoint => Sys2Proof.Machine.execShedPoint s
  | .leaseExpiry => Sys2Proof.Machine.execLeaseExpiry s
  | .childLeaseExpiry k => Sys2Proof.Machine.execChildLeaseExpiry k s
  | .transactionTimeout e => Sys2Proof.Machine.execTransactionTimeout e s
  | .rsvTop => Sys2Proof.Machine.execRsvTop s
  | .rsvPass => Sys2Proof.Machine.execRsvPass s
  | .commit => Sys2Proof.Machine.execCommit s
  | .rollback => Sys2Proof.Machine.execRollback s
  | .owngrant => Sys2Proof.Machine.execOwngrant s
  | .returnI => Sys2Proof.Machine.execReturnI s
  | .ftset v => Sys2Proof.Machine.execFtset v s
  | .feedReverseOff k => Sys2Proof.Machine.execFeedReverseOff k s
  | .feedResume k => Sys2Proof.Machine.execFeedResume k s
  | .feedGood r => Sys2Proof.Machine.execFeedGood r s
  | .feedWarnStart r => Sys2Proof.Machine.execFeedWarnStart r s
  | .feedWarnEnd r => Sys2Proof.Machine.execFeedWarnEnd r s
  | .cmeasPassage us => Sys2Proof.Machine.execCmeasPassage us s
  | .saveTrigger k => Sys2Proof.Machine.execSaveTrigger k s
  | .save => Sys2Proof.Machine.execSave s
  | .saveWriteDone dur vhold => Sys2Proof.Machine.execSaveWriteDone dur vhold s
  | .saveAbandon => Sys2Proof.Machine.execSaveAbandon s
  | .warmStart w => Sys2Proof.Machine.execWarmStart w s
  | .parkPowerLoss => Sys2Proof.Machine.execParkPowerLoss s
  | .saveArm => Sys2Proof.Machine.execSaveArm s
  | .proxyCheckin c n => Sys2Proof.Machine.execProxyCheckin c n s
  | .flagLate c => Sys2Proof.Machine.execFlagLate c s
  | .flagClockCheck c missed => Sys2Proof.Machine.execFlagClockCheck c missed s
  | .flagForce => Sys2Proof.Machine.execFlagForce s
  | .flagPulseEnd r => Sys2Proof.Machine.execFlagPulseEnd r s
  | .restartCore w => Sys2Proof.Machine.execRestartCore w s
  | .reinitPort w => Sys2Proof.Machine.execReinitPort w s
  | .restartArb w => Sys2Proof.Machine.execRestartArb w s
  | .releaseCore w => Sys2Proof.Machine.execReleaseCore w s
  | .deviceReset w => Sys2Proof.Machine.execDeviceReset w s
  | .powerCycle w => Sys2Proof.Machine.execPowerCycle w s
  | .coreRestartBegin p => Sys2Proof.Machine.execCoreRestartBegin p s
  | .coreRestartLoaded p crcOk => Sys2Proof.Machine.execCoreRestartLoaded p crcOk s
  | .restartBoundExpiry c => Sys2Proof.Machine.execRestartBoundExpiry c s
  | .arbiterRestartLoaded bad0 bad1 => Sys2Proof.Machine.execArbiterRestartLoaded bad0 bad1 s
  | .haltEntry => Sys2Proof.Machine.execHaltEntry s
  | .rstNPulse us => Sys2Proof.Machine.execRstNPulse us s
  | .otpSenseDone => Sys2Proof.Machine.execOtpSenseDone s
  | .arbiterImageVerified r => Sys2Proof.Machine.execArbiterImageVerified r s
  | .fileImageCertified r => Sys2Proof.Machine.execFileImageCertified r s
  | .portsLive => Sys2Proof.Machine.execPortsLive s
  | .take => Sys2Proof.Machine.execTake s
  | .release => Sys2Proof.Machine.execRelease s
  | .positionReady => Sys2Proof.Machine.execPositionReady s
  | .readn => Sys2Proof.Machine.execReadn s
  | .reads => Sys2Proof.Machine.execReads s
  | .program => Sys2Proof.Machine.execProgram s
  | .sealRegion => Sys2Proof.Machine.execSealRegion s
  | .otpCommandEnd refOk bad => Sys2Proof.Machine.execOtpCommandEnd refOk bad s
  | .otpOvrWrite v => Sys2Proof.Machine.execOtpOvrWrite v s
  | .otpStickyWrite v => Sys2Proof.Machine.execOtpStickyWrite v s
  | .otpUnlkWrite v => Sys2Proof.Machine.execOtpUnlkWrite v s
  | .updBegin => Sys2Proof.Machine.execUpdBegin s
  | .updEnd => Sys2Proof.Machine.execUpdEnd s
  | .updAbort => Sys2Proof.Machine.execUpdAbort s
  | .updErase => Sys2Proof.Machine.execUpdErase s
  | .schedule => Sys2Proof.Machine.execSchedule s
  | .cancel => Sys2Proof.Machine.execCancel s
  | .updRollback => Sys2Proof.Machine.execUpdRollback s
  | .relay => Sys2Proof.Machine.execRelay s
  | .relayFrameSend => Sys2Proof.Machine.execRelayFrameSend s
  | .confirm => Sys2Proof.Machine.execConfirm s
  | .hostChunk off data => Sys2Proof.Machine.execHostChunk off data s
  | .installDone e => Sys2Proof.Machine.execInstallDone e s
  | .stagingErased => Sys2Proof.Machine.execStagingErased s
  | .activationStart => Sys2Proof.Machine.execActivationStart s
  | .activationRecheck => Sys2Proof.Machine.execActivationRecheck s
  | .quietPortRestart p => Sys2Proof.Machine.execQuietPortRestart p s
  | .trialEnd => Sys2Proof.Machine.execTrialEnd s
  | .svcDetect => Sys2Proof.Machine.execSvcDetect s
  | .svcLost => Sys2Proof.Machine.execSvcLost s
  | .svcPacketGap => Sys2Proof.Machine.execSvcPacketGap s
  | .svcHello k => Sys2Proof.Machine.execSvcHello k s
  | .svcWrite k => Sys2Proof.Machine.execSvcWrite k s
  | .svcBegin k => Sys2Proof.Machine.execSvcBegin k s
  | .svcEnd k => Sys2Proof.Machine.execSvcEnd k s
  | .svcStatus k => Sys2Proof.Machine.execSvcStatus k s
  | .svcSchedule k => Sys2Proof.Machine.execSvcSchedule k s
  | .svcConfirm k => Sys2Proof.Machine.execSvcConfirm k s
  | .svcRollback k => Sys2Proof.Machine.execSvcRollback k s
  | .svcAbort k => Sys2Proof.Machine.execSvcAbort k s
  | .svcBaud k => Sys2Proof.Machine.execSvcBaud k s
  | .registerWrite a ptr data e late => Sys2Proof.Machine.execRegisterWrite a ptr data e late s
  | .rcRead a ptr => Sys2Proof.Machine.execRcRead a ptr s
  | .sdaTimeout a => Sys2Proof.Machine.execSdaTimeout a s
  | .groupCommit => Sys2Proof.Machine.execGroupCommit s
  | .mailboxIssue seq => Sys2Proof.Machine.execMailboxIssue seq s
  | .portsOff seq pmask => Sys2Proof.Machine.execPortsOff seq pmask s
  | .commitPorts seq pmask arg => Sys2Proof.Machine.execCommitPorts seq pmask arg s
  | .eclear seq pmask => Sys2Proof.Machine.execEclear seq pmask s
  | .revertPorts seq pmask arg => Sys2Proof.Machine.execRevertPorts seq pmask arg s
  | .powerOnReset b => Sys2Proof.Machine.execPowerOnReset b s
  | .startModeEntry src => Sys2Proof.Machine.execStartModeEntry src s
  | .startModeExit b ms => Sys2Proof.Machine.execStartModeExit b ms s
  | .vioLoss => Sys2Proof.Machine.execVioLoss s
  | .vioReturn => Sys2Proof.Machine.execVioReturn s
  | .xtalSwitch => Sys2Proof.Machine.execXtalSwitch s
  | .xtalFail => Sys2Proof.Machine.execXtalFail s
  | .sinkVbusDetect p vb => Sys2Proof.Machine.execSinkVbusDetect p vb s
  | .fabricFrameDiscard l => Sys2Proof.Machine.execFabricFrameDiscard l s
  | .svcPacketDiscard => Sys2Proof.Machine.execSvcPacketDiscard s
  | .chunkWriteDone => Sys2Proof.Machine.execChunkWriteDone s
  | .lowenergyChange vhold => Sys2Proof.Machine.execLowenergyChange vhold s
  | .startModeLoss => Sys2Proof.Machine.execStartModeLoss s

end Sys2Proof.Machine
end

