-- ==== Sys2Proof/Machine/Tick.lean ====
section
/-! DEFINITION. One us of the main timebase with no command (log 2): the clocks, and the effects that follow from time alone
and that State holds whole. -/

namespace Sys2Proof.Machine

/-- Fabric time in one us: half rate while it is ahead of the parent's (R254). -/
def Fab.timeTick (f : Fab) : Fab :=
  if f.ahead = 0 then { f with ftime := f.ftime + 1, half := false }
  else { f with ftime := if f.half then f.ftime + 1 else f.ftime, half := !f.half, ahead := f.ahead - 1 }

/-- The slow timebase in one us: a cycle of 1/32,768 s (R24; log 2). The first cycle after the OTP sense shows it valid. -/
def Tmb.slowTick (t : Tmb) (sensed : Bool) : Tmb :=
  let a := t.slowAcc + 32768
  if 1000000 ≤ a then { t with slow := t.slow + 1, slowAcc := a - 1000000, slowok := t.slowok || sensed }
  else { t with slowAcc := a }

/-- The end of a us: the proxy check-ins that waited for the core's own (R292), and power-good that a sample of the us completes,
where no trip has undone it (R210). -/
def State.usEnd (s : State) : State := s.proxiesDue.forPresent State.pgGive

/-- One us of a port: its ramp (R219), and the 500 ms after a trip (R200). -/
def Port.tick (P : Port) (now : Word) : Port :=
  { P with
    sp := P.sp.rampTick
    pw := if P.pw.lid && decide (500000 ≤ (now - P.pw.lidAt).toNat) then { P.pw with lidOk := true } else P.pw }

/-- EW follows its condition in every us; a save freezes the ledger with it (R273, R274, R279). -/
def State.earlyWarning (s : State) : State := if s.inSave then s else s.ewUpdate

/-- One us: what the samples of the old one complete; the position, latched as the state stands before the new one (R318);
then time, ports, links, what the ledger takes first in a us (R245), and the log. An
unpowered block has no clock; in start mode and parked only the slow timebase runs (R43, R282). -/
def State.tick (s : State) : State :=
  if s.phase = .unpowered then s
  else if s.phase = .startMode then { s with tmb := s.tmb.slowTick false }
  else if s.phase = .parked then
    let t := s.tmb.slowTick false
    { s with tmb := t, fed := { s.fed with park := s.fed.park.map fun n => n + (t.slow - s.tmb.slow).toNat } }
  else
    let s0 := s.usEnd.posTick
    let s1 : State := { s0 with
      us := s0.us + 1
      tmb := s0.tmb.slowTick s0.otp.sensed
      ports := s0.ports.map fun P => P.tick (s0.now + 1)
      fab := (((s0.fab.timeTick).txTick 0).txTick 1).txTick 2 }
    ((s1.forPresent State.slewEnd).leaseDue.earlyWarning).energyUpdate.actNext.drainLog

end Sys2Proof.Machine
end

