-- ==== Sys2Proof/WellFormed.lean ====
section
/-! DEFINITION. Well-formed commands: the operands a command can carry. A Paltein row carries a legal word of its row for
its core (R93, R94); a frame, a packet or a set of samples has the size the spec gives it. -/

namespace Sys2Proof

open Sys2Proof.Machine

/-- A received frame has as many data bytes as its header announces (R69, R72): two bytes of an extended message's objects
are its extended header, and up to three bytes pad it; an unchunked one carries Data Size bytes (R82). -/
def frameOk (f : Frame) : Bool :=
  decide (0 < f.rate) &&
    if hdrExt f.hdr then
      decide (hdrNdo f.hdr = (f.data.length + 5) / 4 ∨ 26 < f.data.length) &&
        (if f.ext.getLsbD 15 then decide (f.data.length ≤ 26) else decide (f.data.length = extSize f.ext))
    else decide (f.data.length = 4 * hdrNdo f.hdr)

/-- A fabric frame carries 22 payload bytes (R251). -/
def fabricOk (f : FFrame) : Bool := decide (f.payload.length = 22)

/-- A service packet carries up to 1,028 payload bytes (R348). -/
def packetOk (k : SvcPacket) : Bool := decide (k.payload.length ≤ 1028)

/-- A Paltein row carries a word that the loader would accept on its core (R94, R106, R108, R112, R114, R116). -/
def wordOk (c : CoreId) (w : Word) : Bool := !wordBad w && !scopeBad (decide (c = arbiterId)) w

/-- The operands of a command that is no Paltein row. -/
def operandsOk : Instr → Bool
  | .premoveStallEnd _ data _ => decide (data.length ≤ 28)
  | .coalesceIntervalEnd _ cls => coalesced cls.val
  | .eventReoffer _ cls => reoffered cls.val
  | .frameReceived _ f => frameOk f
  | .earlyDecode _ _ _ rate => decide (0 < rate)
  | .wetCheckEnd _ r => decide (r.trial.length = 4 ∧ r.z1.length = 4 ∧ r.z16.length = 4)
  | .adcFrame ports _ _ _ => decide (ports.length = 8)
  | .derateEval ntc => decide (ntc.length = 4) && ntc.all fun l => decide (l.length = 25)
  | .frameForward _ f => fabricOk f
  | .time f => fabricOk f
  | .leaseRenew _ f => fabricOk f
  | .ack f => fabricOk f
  | .leaseReturn _ f => fabricOk f
  | .leaseReq _ f => fabricOk f
  | .leaseGrant _ f => fabricOk f
  | .nak _ f => fabricOk f
  | .updAct _ f => fabricOk f
  | .regTunnel _ f => fabricOk f
  | .tunnelReply f => fabricOk f
  | .hostChunk _ data => decide (data.length ≤ 28)
  | .svcHello k => packetOk k
  | .svcWrite k => packetOk k
  | .svcBegin k => packetOk k
  | .svcEnd k => packetOk k
  | .svcStatus k => packetOk k
  | .svcSchedule k => packetOk k
  | .svcConfirm k => packetOk k
  | .svcRollback k => packetOk k
  | .svcAbort k => packetOk k
  | .svcBaud k => packetOk k
  | .add _ _ | .sub _ _ | .and _ _ | .or _ _ | .xor _ _ | .shl _ _ | .shr _ _ | .sar _ _ | .slt _ _ | .sltu _ _
  | .min _ _ | .max _ _ | .minu _ _ | .maxu _ _ | .addsu _ _ | .subsu _ _ | .mul _ _ | .mulh _ _ | .mulhu _ _
  | .div _ _ | .divu _ _ | .rem _ _ | .remu _ _ | .addi _ _ | .andi _ _ | .ori _ _ | .xori _ _ | .shli _ _
  | .shri _ _ | .sari _ _ | .lui _ _ | .slti _ _ | .sltiu _ _ | .muli _ _ | .ldw _ _ | .ldh _ _ | .ldhs _ _
  | .ldb _ _ | .ldbs _ _ | .stw _ _ | .sth _ _ | .stb _ _ | .ext _ _ | .exts _ _ | .ins _ _ | .br _ _ | .loop _ _
  | .call _ _ | .ret _ _ | .endI _ _ | .await _ _ | .tsetRelative _ _ | .tsetAbsolute _ _ | .tclr _ _ | .tevt _ _
  | .qpush _ _ | .qpop _ _ | .qpeekEvent _ _ | .qpeekSlot _ _ | .lrsv _ _ | .lcmt _ _ | .lrelGrant _ _
  | .lrelReservation _ _ | .lrdGrant _ _ | .lrdReservation _ _ | .lrdCeiling _ _ | .lrdAvailable _ _
  | .lrdGrantSum _ _ | .lrdHeadroom _ _ | .actVset _ _ | .actIlim _ _ | .actConv _ _ | .actGateOff _ _
  | .actGateSourceOn _ _ | .actGateIdealDiode _ _ | .actDsc _ _ | .actVconn _ _ | .chk _ _ | .log _ _ | .fsend _ _
  | .frecv _ _ | .handlerDispatch _ | .coreTimerExpiry _ _ | .brokenPromise _ | .paceSample _ _ | .invalidSymbol _
  | .lineIdleTimeout _ | .goodcrcTransmit _ | .goodcrcReceive _ _ _ | .txStart _ | .txFrameEnd _
  | .treceiveExpiry _ | .amsHoldExpiry _ | .sinkTxOkElapsed _ | .hardResetReceived _ | .hardResetDuringReset _
  | .cableResetReceived _ | .sendHardReset _ | .hardResetTransmit _ | .sendCableReset _ | .cableResetTransmit _
  | .bistCarrier _ | .bistCarrierEnd _ | .bistTestData _ | .amsEnd _ | .hrDone _ | .push _ _ | .pop _ _
  | .clrovf _ _ | .rxReoffer _ _ | .ccTerminationChange _ _ _ | .ccOverVoltage _ _ | .ccIsolationClose _ _
  | .tccDebounceExpiry _ _ | .tpdDebounceExpiry _ | .ttryCcDebounceExpiry _ | .tdrpToggle _ | .tdrpTryExpiry _
  | .ttryTimeout _ | .srcDisconnect _ | .snkVbusLost _ _ | .vbusOnTimeout _ _ | .srcAttachVbLow _ _
  | .terrorRecoveryExpiry _ | .wetCheckSbuOv _ | .wetRecheck _ | .wetCheckNow _ | .wetOverride _ | .vconnOcTrip _
  | .vconnReverse _ | .vconnInputUv _ | .tcCommit _ | .pdCommit _ | .pwCommit _ | .spCommit _ | .mnCommit _
  | .ldgCommit | .fabCommit | .fedCommit | .hbsCommit | .revert _ | .movingTimeout _ | .ppsGuardExpiry _
  | .eprGuardExpiry _ | .prsBegin _ | .term _ | .swapEnd _ | .errrec _ | .swapBackstopExpiry _ | .safe0 _ _
  | .frsSignal _ | .fastSourcing _ _ | .fastSourcingHoldoffEnd _ | .hrPsHardReset _ | .hrSafe0 _ _ | .hrgoSource _
  | .hrTurnOnTimeout _ | .hrgoSink _ _ | .hrSinkTimeout _ _ | .penWrite _ _ _ | .rsnsWrite _ _ | .turnOnCheckDone _
  | .noconv _ | .holdoffEnd _ | .gateBRisen _ | .inrushEnd _ | .limitLoopEngage _ | .limitLoopRelease _
  | .faultTimerExpiry _ | .hardshort _ | .gwrVgs _ | .gwrVds _ | .pumpuv _ | .passshort _ | .idealDiodeReverseOff _
  | .idealDiodeResume _ | .v5GateDrop | .ibaseHoldExpiry _ | .dscdone _ _ | .dscfault _ | .slewEnd _ | .trimEval _
  | .averageUpdate | .monitorTick _ _ _ | .monitorPeriodStart _ | .stest _ | .selfTestEnd _ | .ecmdClear _ | .thermCfgWrite _ _
  | .thermNtcWrite _ _ | .ledgerCut | .linkUp _ | .linkDown _ | .timeSend | .ftlockLost | .renewSend
  | .renewTimeout | .tunnelSend | .tunnelTimeout | .shedPoint | .leaseExpiry | .childLeaseExpiry _
  | .transactionTimeout _ | .rsvTop | .rsvPass | .commit | .rollback | .owngrant | .returnI | .ftset _
  | .feedReverseOff _ | .feedResume _ | .feedGood _ | .feedWarnStart _ | .feedWarnEnd _ | .cmeasPassage _
  | .saveTrigger _ | .save | .saveWriteDone _ _ | .saveAbandon | .warmStart _ | .parkPowerLoss | .saveArm
  | .proxyCheckin _ _ | .flagLate _ | .flagClockCheck _ _ | .flagForce | .flagPulseEnd _ | .restartCore _
  | .reinitPort _ | .restartArb _ | .releaseCore _ | .deviceReset _ | .powerCycle _ | .coreRestartBegin _
  | .coreRestartLoaded _ _ | .restartBoundExpiry _ | .arbiterRestartLoaded _ _ | .haltEntry | .rstNPulse _
  | .otpSenseDone | .arbiterImageVerified _ | .fileImageCertified _ | .portsLive | .take | .release
  | .positionReady | .readn | .reads | .program | .sealRegion | .otpCommandEnd _ _ | .otpOvrWrite _
  | .otpStickyWrite _ | .otpUnlkWrite _ | .updBegin | .updEnd | .updAbort | .updErase | .schedule | .cancel
  | .updRollback | .relay | .relayFrameSend | .confirm | .installDone _ | .stagingErased | .activationStart
  | .activationRecheck | .quietPortRestart _ | .trialEnd | .svcDetect | .svcLost | .svcPacketGap
  | .registerWrite _ _ _ _ _ | .rcRead _ _ | .sdaTimeout _ | .groupCommit | .mailboxIssue _ | .portsOff _ _
  | .commitPorts _ _ _ | .eclear _ _ | .revertPorts _ _ _ | .powerOnReset _ | .startModeEntry _
  | .startModeExit _ _ | .vioLoss | .vioReturn | .xtalSwitch | .xtalFail | .sinkVbusDetect _ _
  | .fabricFrameDiscard _ | .svcPacketDiscard | .chunkWriteDone | .lowenergyChange _ | .startModeLoss => true

/-- A well-formed command. -/
def Instr.wf (i : Instr) : Bool :=
  match encodeWord i with
  | some (c, w) => wordOk c w && formOk i
  | none => operandsOk i

end Sys2Proof
end

