-- ==== Sys2Proof/Safety.lean ====
section
/-! DEFINITION. The terms claims are made in: what a safe run is, what a command answers, what it leaves alone, and when a
Paltein instruction executes. -/

namespace Sys2Proof.Machine

/-! ### Safe runs -/

/-- A step answers a next state. -/
def Runs (s : State) : Prop := ∃ t, step s = .next t

/-- Every sparse memory of the state is in its canonical form (log 5). -/
def State.memOk (s : State) : Prop :=
  (∀ c, Mem.wf 0 (s.core c).code = true ∧ Mem.wf 0 (s.core c).data = true) ∧ Mem.wf 0 s.sram = true ∧
    Mem.wf 0xFF s.upd.staging = true

/-- A bit of an OTP copy is blown in state s: word w, normal or spare triple, copy k. -/
def State.blown (s : State) (w : Fin 288) (spare : Bool) (k : Fin 3) (bit : Nat) : Bool :=
  (if spare then s.otp.cells[w].s else s.otp.cells[w].n)[k].getLsbD bit

/-- No blown OTP bit of s is clear in t. -/
def otpKept (s t : State) : Prop := ∀ w spare k bit, s.blown w spare k bit = true → t.blown w spare k bit = true

/-! ### Answers and frames -/

/-- Command i completes in state s, and Q holds of the state it leaves. -/
def Answers (i : Instr) (s : State) (Q : State → Prop) : Prop := ∃ t, exec i s = .next t ∧ Q t

/-- Only port p differs. -/
def onlyPort (p : PortId) (s t : State) : Prop := t = { s with ports := s.ports.set p (t.port p) }

/-- Only port p and its file core differ. -/
def onlyPortCore (p : PortId) (s t : State) : Prop :=
  t = { s with ports := s.ports.set p (t.port p), cores := s.cores.set (fileCore p) (t.core (fileCore p)) }

/-- Only core c differs. -/
def onlyCore (c : CoreId) (s t : State) : Prop := t = { s with cores := s.cores.set c (t.core c) }

/-- Every port but p stands. -/
def otherPorts (p : PortId) (s t : State) : Prop := ∀ q, q ≠ p → t.port q = s.port q

/-! ### When a Paltein instruction executes -/

/-- What the arrival at the next word in sequence does to the open loops of core c. -/
def State.seqEnd (s : State) (c : CoreId) : LoopEnd :=
  endLoops (s.core c).ret.length ((s.core c).pc.toNat + 1) (s.core c).loops

/-- Core c is at word w inside its handler h: not ended, not stalled, not halted by the debug port, the pc inside the loaded
code, the fetch without an uncorrectable error, and the word legal. -/
def At (s : State) (c : CoreId) (h : Handler) (w : Word) : Prop :=
  (s.core c).run = some h ∧ h.ended = false ∧ h.stall = none ∧ (s.core c).pc.toNat < (s.core c).codeEnd ∧
    s.halted c = false ∧ s.fetchBad c = false ∧ s.illegal c w = false

/-- ... and the step bound covers the word and the iterations that end after it (R123). -/
def Ready (s : State) (c : CoreId) (h : Handler) (w : Word) : Prop :=
  At s c h w ∧ h.steps + wordCost w false + (s.seqEnd c).cost ≤ h.bound

/-- Core C after its handler h has gone on: pc, loops, counters and steps. -/
def Core.onward (C : Core) (h : Handler) (e : LoopEnd) (steps : Nat) : Core :=
  let D := ({ C with pc := BitVec.ofNat 18 e.pc, loops := e.loops } : Core).setGs e.writes
  { D with run := some { h with steps := h.steps + steps } }

/-- State s1 after word w, begun in state s by handler h of core c, has gone on in sequence. -/
def State.after (s1 s : State) (c : CoreId) (h : Handler) (w : Word) : State :=
  s1.modCore c fun C => C.onward h (s.seqEnd c) (wordCost w false + (s.seqEnd c).cost)

/-- State s after word w on core c has written v to g[d] and gone on in sequence. -/
def State.wrote (s : State) (c : CoreId) (h : Handler) (w : Word) (d : BitVec 4) (v : Word) : State :=
  (s.putG c d v).after s c h w

/-- Core c of state s1 is still in handler h of state s, with its return stack and loops. -/
def Keeps (s s1 : State) (c : CoreId) (h : Handler) : Prop :=
  (s1.core c).run = some h ∧ (s1.core c).ret = (s.core c).ret ∧ (s1.core c).loops = (s.core c).loops

/-- Command i, word w of handler h on core c, leaves a state with Q, writes v to g[d] and goes on in sequence. -/
def Completes (i : Instr) (s : State) (c : CoreId) (h : Handler) (w : Word) (d : BitVec 4) (v : Word) (Q : State → Prop) :
    Prop := ∃ s1, exec i s = .next ((s1.putG c d v).after s c h w) ∧ Q s1

/-- Handler h of core c has been aborted for fault code k, with none of the effects of the faulting instruction: the stacks are
empty, the FAULT event is pending in slot n with the deadline and the band of h, and registers, memory and state outside the
core are as they were (R122, R124, R125, R132). -/
def FaultTaken (s : State) (c : CoreId) (h : Handler) (k n : Nat) (t : State) : Prop :=
  onlyCore c s t ∧ (t.core c).run = none ∧
    (∃ j, (t.core c).jobs = (s.core c).jobs ++ [j] ∧ j.cls = 13 ∧ j.slot = n ∧ j.arg = BitVec.ofNat 32 k ∧
      j.deadline = h.job.deadline ∧ j.nc = h.job.nc ∧ j.time = s.now ∧ j.rerun = false) ∧
    (t.core c).g = (s.core c).g ∧ (t.core c).ret = [] ∧ (t.core c).loops = [] ∧
    (t.core c).data = (s.core c).data ∧
    (t.core c).cr.fpc = (s.core c).pc.setWidth 32 ∧ (t.core c).cr.fault.toNat / 2 ^ 16 = k

/-- Handler h of core c runs outside a premove, is no FAULT handler, and the core has a FAULT slot n (R124); classes and
slots are numbers below 64 (R125, R128). -/
def MayFault (s : State) (c : CoreId) (h : Handler) (n : Nat) : Prop :=
  h.premove = false ∧ h.job.cls ≠ 13 ∧ h.job.cls < 64 ∧ h.job.slot < 64 ∧ (s.core c).slotFor 13 none = some n

end Sys2Proof.Machine
end

