-- ==== Sys2Proof/Certificates/Slice0/Obligations.lean ====
section
/-! DEFINITION. The statements for the provers. -/

open Sys2Proof Sys2Proof.Machine

/-! ### The queue of commands -/

/-- A step takes the command at the front of the queue and runs it with the queue's rest. -/
def Obligations.StepRunsFront : Prop :=
  ∀ (s : State) (c : Instr) (rest : List Instr), s.pending = c :: rest → step s = exec c { s with pending := rest }

/-- With no command waiting, a step is one us: the main timebase counts, fabric time counts or stands, and no grant, no
reservation, no OTP cell, nothing of an update but the log ring, and no port's contract but MOVING changes; a PGN-th good sample
of the us before gives power-good (R210); outside an activation
that restarts cores and without proxy check-ins that wait (the tick is the model's choice, log 2). -/
def Obligations.IdleStepIsOneMicrosecond : Prop :=
  ∀ s : State, s.pending = [] → s.phase ≠ .unpowered → s.phase ≠ .startMode → s.phase ≠ .parked →
    s.flg.proxies = [] → s.upd.step ≠ .files →
    ∃ t, step s = .next t ∧ t.us = s.us + 1 ∧ t.pending = [] ∧ t.phase = s.phase ∧ t.ldg.grant = s.ldg.grant ∧
      t.ldg.rsvF = s.ldg.rsvF ∧ t.ldg.rsvA = s.ldg.rsvA ∧ t.otp = s.otp ∧ t.upd = { s.upd with ring := t.upd.ring } ∧
      (t.fab.ftime = s.fab.ftime ∨ t.fab.ftime = s.fab.ftime + 1) ∧
      ∀ p, (t.port p).ct = { (s.port p).ct with moving := (t.port p).ct.moving, movCnt := (t.port p).ct.movCnt } ∧
        ((s.port p).pw.pgDue = false → (t.port p).ct = (s.port p).ct) ∧
        (s.present p = true → (s.port p).pw.pgDue = true → (s.port p).pw.pgn ≤ (s.port p).pw.pgCnt → (t.port p).pw.pg = true)

/-! ### Paltein words -/

/-- Decoding the word of a well-formed Paltein command gives the command back; the three GATE rows share one word, which
decodes to the first. -/
def Obligations.PalteinRoundTrip : Prop :=
  ∀ (i : Instr) (c : CoreId) (w : Word), encodeWord i = some (c, w) → i.wf = true →
    decodeWord c w = some (match i with
      | .actGateSourceOn c f | .actGateIdealDiode c f => .actGateOff c f
      | j => j)

/-! ### Paltein instructions that write a register -/

/-- The register-form rows of R97 with their operations on g[a] and g[b]; a division by 0 gives 0, its remainder the
dividend (R98). -/
def Sys2Proof.registerRows : List ((CoreId → FormA → Instr) × Nat × (Word → Word → Word)) :=
  [(.add, 0x01, fun a b => BitVec.ofNat 32 (a.toNat + b.toNat)),
   (.sub, 0x02, fun a b => BitVec.ofInt 32 ((a.toNat : Int) - b.toNat)),
   (.and, 0x03, fun a b => a &&& b), (.or, 0x04, fun a b => a ||| b), (.xor, 0x05, fun a b => a ^^^ b),
   (.shl, 0x06, fun a b => a <<< (b.toNat % 32)), (.shr, 0x07, fun a b => a >>> (b.toNat % 32)),
   (.sar, 0x08, fun a b => a.sshiftRight (b.toNat % 32)),
   (.slt, 0x09, fun a b => if a.toInt < b.toInt then 1 else 0), (.sltu, 0x0A, fun a b => if a.toNat < b.toNat then 1 else 0),
   (.min, 0x0B, fun a b => if a.toInt < b.toInt then a else b), (.max, 0x0C, fun a b => if a.toInt < b.toInt then b else a),
   (.minu, 0x0D, fun a b => BitVec.ofNat 32 (Nat.min a.toNat b.toNat)),
   (.maxu, 0x0E, fun a b => BitVec.ofNat 32 (Nat.max a.toNat b.toNat)),
   (.addsu, 0x0F, fun a b => BitVec.ofNat 32 (Nat.min (a.toNat + b.toNat) 0xFFFFFFFF)),
   (.subsu, 0x10, fun a b => BitVec.ofNat 32 (a.toNat - b.toNat)),
   (.mul, 0x11, fun a b => BitVec.ofNat 32 (a.toNat * b.toNat)),
   (.mulh, 0x12, fun a b => BitVec.ofInt 32 (a.toInt * b.toInt / 2 ^ 32)),
   (.mulhu, 0x13, fun a b => BitVec.ofNat 32 (a.toNat * b.toNat / 2 ^ 32)),
   (.div, 0x14, fun a b => BitVec.ofInt 32 (if b.toNat = 0 then 0 else Int.tdiv a.toInt b.toInt)),
   (.divu, 0x15, fun a b => BitVec.ofNat 32 (if b.toNat = 0 then 0 else a.toNat / b.toNat)),
   (.rem, 0x16, fun a b => BitVec.ofInt 32 (if b.toNat = 0 then a.toInt else Int.tmod a.toInt b.toInt)),
   (.remu, 0x17, fun a b => BitVec.ofNat 32 (if b.toNat = 0 then a.toNat else a.toNat % b.toNat))]

/-- A register-form row writes its operation's result to g[d], counts its steps, goes on in sequence and changes nothing
else; a write to g0 is discarded. -/
def Obligations.RegisterRowsWriteD : Prop :=
  ∀ row ∈ registerRows, ∀ (c : CoreId) (f : FormA) (s : State) (h : Handler), Ready s c h (encA row.2.1 f) →
    exec (row.1 c f) s = .next (s.wrote c h (encA row.2.1 f) f.d (row.2.2 (s.gr c f.a) (s.gr c f.b)))

/-- The immediate rows of R97 with their operations on g[a] and imm18 (R95). -/
def Sys2Proof.immediateRows : List ((CoreId → FormI → Instr) × Nat × (Word → BitVec 18 → Word)) :=
  [(.addi, 0x18, fun a i => a + i.signExtend 32), (.andi, 0x19, fun a i => a &&& i.setWidth 32),
   (.ori, 0x1A, fun a i => a ||| i.setWidth 32), (.xori, 0x1B, fun a i => a ^^^ i.setWidth 32),
   (.shli, 0x1C, fun a i => a <<< i.toNat), (.shri, 0x1D, fun a i => a >>> i.toNat),
   (.sari, 0x1E, fun a i => a.sshiftRight i.toNat), (.lui, 0x1F, fun _ i => BitVec.ofNat 32 (i.toNat * 2 ^ 14)),
   (.slti, 0x20, fun a i => if a.toInt < i.toInt then 1 else 0),
   (.sltiu, 0x21, fun a i => if a.toNat < i.toNat then 1 else 0), (.muli, 0x22, fun a i => a * i.signExtend 32)]

/-- An immediate row writes its operation's result to g[d] and goes on; a legal word's shift amount is below 32 (R95). -/
def Obligations.ImmediateRowsWriteD : Prop :=
  ∀ row ∈ immediateRows, ∀ (c : CoreId) (f : FormI) (s : State) (h : Handler), Ready s c h (encI row.2.1 f) →
    exec (row.1 c f) s = .next (s.wrote c h (encI row.2.1 f) f.d (row.2.2 (s.gr c f.a) f.imm))

/-- EXT takes a[pos + width - 1 : pos] zero-extended, EXTS sign-extended; INS replaces that field of d with the low bits of
a and leaves the others (R100); TEVT gives the handler's event time (R107). -/
def Obligations.FieldRowsWriteD : Prop :=
  ∀ (c : CoreId) (f : FormA) (s : State) (h : Handler),
    let a := s.gr c f.a
    let d := s.gr c f.d
    let pos := f.sub.toNat / 32 % 32
    let width := f.sub.toNat % 32 + 1
    (Ready s c h (encA 0x2B f) → ∃ v, exec (.ext c f) s = .next (s.wrote c h (encA 0x2B f) f.d v) ∧
      ∀ i, v.getLsbD i = (decide (i < width) && a.getLsbD (pos + i))) ∧
    (Ready s c h (encA 0x2C f) → ∃ v, exec (.exts c f) s = .next (s.wrote c h (encA 0x2C f) f.d v) ∧
      ∀ i, i < 32 → v.getLsbD i = a.getLsbD (pos + Nat.min i (width - 1))) ∧
    (Ready s c h (encA 0x2D f) → ∃ v, exec (.ins c f) s = .next (s.wrote c h (encA 0x2D f) f.d v) ∧
      ∀ i, i < 32 → v.getLsbD i = if pos ≤ i ∧ i < pos + width then a.getLsbD (i - pos) else d.getLsbD i) ∧
    (Ready s c h (encA 0x36 f) → exec (.tevt c f) s = .next (s.wrote c h (encA 0x36 f) f.d h.job.time))

/-! ### Loads and stores -/

/-- The five loads with their widths and what makes the register value of the number read. -/
def Sys2Proof.loadRows : List ((CoreId → FormI → Instr) × Nat × Nat × (Nat → Word)) :=
  [(.ldw, 0x23, 4, fun v => BitVec.ofNat 32 v), (.ldh, 0x24, 2, fun v => BitVec.ofNat 32 v),
   (.ldhs, 0x25, 2, fun v => BitVec.ofInt 32 (BitVec.ofNat 16 v).toInt), (.ldb, 0x26, 1, fun v => BitVec.ofNat 32 v),
   (.ldbs, 0x27, 1, fun v => BitVec.ofInt 32 (BitVec.ofNat 8 v).toInt)]

/-- A load of an aligned, mapped address without a memory error writes the little-endian number of its bytes to g[d].
Outside the register window, and in a premove anywhere, nothing else changes (R89, R99, R118); a load of a register
outside a premove has the read's effects (R91). The model's choices: logs 39, 44. -/
def Obligations.LoadsReadData : Prop :=
  ∀ row ∈ loadRows, ∀ (c : CoreId) (f : FormI) (s : State) (h : Handler), Ready s c h (encI row.2.1 f) →
    s.readFault c row.2.2.1 (s.addr c f) row.2.2.1 = 0 →
    ((region (isArb c) (s.addr c f) ≠ .regs ∨ h.premove = true) →
      exec (row.1 c f) s = .next (s.wrote c h (encI row.2.1 f) f.d
        (row.2.2.2 (ofLe ((List.range row.2.2.1).map fun i => s.dataByte c (s.addr c f + i)))))) ∧
    (region (isArb c) (s.addr c f) = .regs → h.premove = false →
      let r := s.coreLoad (s.addr c f - 0x100000) row.2.2.1
      Keeps s r.2 c h → Completes (row.1 c f) s c h (encI row.2.1 f) f.d (row.2.2.2 (ofLe r.1)) fun t => t = r.2)

/-- The three stores with their widths. -/
def Sys2Proof.storeRows : List ((CoreId → FormI → Instr) × Nat × Nat) := [(.stw, 0x28, 4), (.sth, 0x29, 2), (.stb, 0x2A, 1)]

/-- A store that faults on nothing, outside a premove or into premove scratch, stores the low bytes of g[d] at g[a] +
imm and goes on; it writes no register (R99, R117). Where it stores to a register, the core must still run the
handler. The model's choice: log 39. The model's choice: log 39. The model's choice: log 39. The model's choice: log
39. -/
def Obligations.StoresStoreBytes : Prop :=
  ∀ row ∈ storeRows, ∀ (c : CoreId) (f : FormI) (s : State) (h : Handler), Ready s c h (encI row.2.1 f) →
    (h.premove = false ∨ region (isArb c) (s.addr c f) = .scratch) →
    storeFault c (s.core c).codeEnd row.2.2 (s.addr c f) row.2.2 = 0 →
    let t := s.storeBytes c (s.addr c f) ((List.range row.2.2).map fun i => byteOf (s.gr c f.d).toNat i)
    (region (isArb c) (s.addr c f) ≠ .regs ∨ Keeps s t c h) →
    exec (row.1 c f) s = .next (t.after s c h (encI row.2.1 f))

/-- Bytes stored to data RAM or shared SRAM read back, every other byte of the data space outside the register window reads
as before, only the two memories change, and both keep their canonical form (R89, R90). -/
def Obligations.StoredBytesReadBack : Prop :=
  ∀ (s : State) (c : CoreId) (a al : Nat) (b : List Byte), b ≠ [] → s.memOk →
    (∀ h, (s.core c).run = some h → h.staged = []) → storeFault c (s.core c).codeEnd al a b.length = 0 →
    region (isArb c) a ≠ .regs →
    let t := s.storeBytes c a b
    (∀ x, region (isArb c) x ≠ .regs →
      t.dataByte c x = if a ≤ x ∧ x < a + b.length then b.getD (x - a) 0 else s.dataByte c x) ∧
    t = { s with cores := s.cores.set c { s.core c with data := (t.core c).data }, sram := t.sram } ∧ t.memOk

/-- A misaligned load or store faults MISALIGNED and has no effect but the start of the FAULT handler (R99, R122, R124). -/
def Obligations.MisalignedAccessesFault : Prop :=
  ∀ (c : CoreId) (f : FormI) (s : State) (h : Handler) (n : Nat), MayFault s c h n →
    (∀ row ∈ loadRows, Ready s c h (encI row.2.1 f) → s.addr c f % row.2.2.1 ≠ 0 →
      Answers (row.1 c f) s (FaultTaken s c h 2 n)) ∧
    (∀ row ∈ storeRows, Ready s c h (encI row.2.1 f) → s.addr c f % row.2.2 ≠ 0 →
      Answers (row.1 c f) s (FaultTaken s c h 2 n))

/-! ### Control -/

/-- The condition of a branch (R101). -/
def Sys2Proof.branchHolds (cond : Nat) (a b : Word) : Prop :=
  cond = 0 ∨ (cond = 1 ∧ a = b) ∨ (cond = 2 ∧ a ≠ b) ∨ (cond = 3 ∧ a.toInt < b.toInt) ∨ (cond = 4 ∧ b.toInt ≤ a.toInt) ∨
    (cond = 5 ∧ a.toNat < b.toNat) ∨ (cond = 6 ∧ b.toNat ≤ a.toNat) ∨ (cond = 7 ∧ a &&& b ≠ 0) ∨ (cond = 8 ∧ a &&& b = 0)

/-- BR goes to its own address plus the offset when its condition holds, leaving every loop whose body it exits, and to the
next word when it does not (R101, R102). -/
def Obligations.BranchesGoWhereTheySay : Prop :=
  ∀ (c : CoreId) (f : FormB) (s : State) (h : Handler), At s c h (encB 0x2E f) →
    let C := s.core c
    (¬ branchHolds f.cond.toNat (s.gr c f.a) (s.gr c f.b) → h.steps + 1 + (s.seqEnd c).cost ≤ h.bound →
      exec (.br c f) s = .next (s.after s c h (encB 0x2E f))) ∧
    (branchHolds f.cond.toNat (s.gr c f.a) (s.gr c f.b) → h.steps + 2 ≤ h.bound →
      exec (.br c f) s = .next (s.modCore c fun _ => { C with
        pc := BitVec.ofNat 18 (C.pc.toNat + f.off.toNat), run := some { h with steps := h.steps + 2 }
        loops := C.loops.dropWhile fun l => decide (l.depth = C.ret.length ∧ l.last.toNat < C.pc.toNat + f.off.toNat) }))

/-- LOOP with a count of 0 skips its body; else the loop opens with its counter at the count, min of g[ctr] and the maximum
(R102). An iteration that ends goes back with the counter one less, and the last one leaves the counter 0. -/
def Obligations.LoopsRunTheirCount : Prop :=
  (∀ (c : CoreId) (f : FormL) (s : State) (h : Handler), At s c h (encL 0x2F f) →
    let C := s.core c
    let n := min (s.gr c f.ctr).toNat f.max.toNat
    let skip := endLoops C.ret.length (C.pc.toNat + 1 + f.len.toNat) C.loops
    (n = 0 → h.steps + 3 + skip.cost ≤ h.bound →
      exec (.loop c f) s = .next (s.modCore c fun C => C.onward h skip (3 + skip.cost))) ∧
    (n ≠ 0 → C.loops.length < 32 → h.steps + 1 ≤ h.bound →
      exec (.loop c f) s = .next (s.modCore c fun _ => ({ C with
        pc := BitVec.ofNat 18 (C.pc.toNat + 1), run := some { h with steps := h.steps + 1 }
        loops := { first := BitVec.ofNat 18 (C.pc.toNat + 1), last := BitVec.ofNat 18 (C.pc.toNat + f.len.toNat), left := n
                   ctr := f.ctr, depth := C.ret.length } :: C.loops } : Core).setG f.ctr (BitVec.ofNat 32 n)))) ∧
  (∀ (depth t : Nat) (l : LoopFrame) (r : List LoopFrame), l.depth = depth → t = l.last.toNat + 1 →
    (1 < l.left → endLoops depth t (l :: r) =
      { pc := l.first.toNat, loops := { l with left := l.left - 1 } :: r, writes := [(l.ctr, BitVec.ofNat 32 (l.left - 1))]
        cost := 2 }) ∧
    (l.left ≤ 1 → (endLoops depth t (l :: r)).writes.head? = some (l.ctr, 0) ∧
      (endLoops depth t (l :: r)).pc = (endLoops depth t r).pc))

/-- CALL pushes the next word's address and goes to imm18; RET pops it and closes the loops of the returning function; a
CALL with the return stack full and a RET with it empty fault STACK (R104, R122). -/
def Obligations.CallsAndReturns : Prop :=
  ∀ (c : CoreId) (s : State) (h : Handler),
    let C := s.core c
    (∀ f, At s c h (encI 0x30 f) → h.steps + 3 ≤ h.bound → f.imm.toNat < C.codeEnd → C.ret.length < 8 →
      exec (.call c f) s = .next (s.modCore c fun _ => { C with
        pc := f.imm, ret := (C.pc + 1) :: C.ret, run := some { h with steps := h.steps + 3 } })) ∧
    (∀ f n, At s c h (encI 0x30 f) → h.steps + 3 ≤ h.bound → f.imm.toNat < C.codeEnd → 8 ≤ C.ret.length → MayFault s c h n →
      Answers (.call c f) s (FaultTaken s c h 5 n)) ∧
    (∀ f t r, At s c h (encA 0x31 f) → C.ret = t :: r →
      let closed := C.loops.dropWhile fun l => decide (l.depth = C.ret.length)
      let e := endLoops r.length t.toNat closed
      h.steps + 3 + e.cost ≤ h.bound →
      exec (.ret c f) s = .next (s.modCore c fun _ => ({ C with ret := r, loops := closed } : Core).onward h e (3 + e.cost))) ∧
    (∀ f n, At s c h (encA 0x31 f) → C.ret = [] → h.steps + 3 ≤ h.bound → MayFault s c h n →
      Answers (.ret c f) s (FaultTaken s c h 5 n))

/-- END frees the core; AWAIT does too and binds its slot to its class, replacing an unused binding. In a premove both wait
for the frame's resolution, the binding staged (R105, R106, R117). -/
def Obligations.HandlersEnd : Prop :=
  ∀ (c : CoreId) (s : State) (h : Handler), (s.core c).st ≠ .loading →
    let C := s.core c
    let handlerOver (C : Core) : Core := { C with
      run := none, loops := [], ret := []
      cr := if C.cr.lbId = some h.job.id then { C.cr with lbComplete := s.now, lbId := none } else C.cr }
    (∀ f, At s c h (encA 0x32 f) → h.steps + 1 ≤ h.bound →
      exec (.endI c f) s = .next (s.modCore c fun C =>
        if h.premove then { C with run := some { h with steps := h.steps + 1, ended := true } } else handlerOver C)) ∧
    (∀ f, At s c h (encQ 0x33 f) → h.steps + 3 ≤ h.bound → h.premove = false →
      exec (.await c f) s = .next (s.modCore c fun C => { handlerOver C with
        awaits := (f.sub.toNat / 64, f.n.toNat) :: C.awaits.filter fun x => decide (x.1 ≠ f.sub.toNat / 64) })) ∧
    (∀ f, At s c h (encQ 0x33 f) → h.steps + 3 ≤ h.bound → h.premove = true → h.eff < 32 → h.sto ≤ 64 →
      Answers (.await c f) s fun t => t = { s with cores := s.cores.set c (t.core c), pmv := t.pmv } ∧
        t.core c = { C with run := some { h with
          steps := h.steps + 3, ended := true, staged := h.staged ++ [.await (f.sub.toNat / 64) f.n.toNat] } })

/-- A word illegal on its core, a fetch from a word with an uncorrectable error, and an instruction whose steps exceed
the handler's bound, fault without effect (R94, R122, R123, R124). The model's choices: logs 44, 70. -/
def Obligations.IllegalAndOverstepFault : Prop :=
  ∀ (i : Instr) (c : CoreId) (w : Word) (s : State) (h : Handler) (n : Nat), encodeWord i = some (c, w) →
    (s.core c).run = some h → h.ended = false → h.stall = none → (s.core c).pc.toNat < (s.core c).codeEnd →
    s.halted c = false → MayFault s c h n →
    (s.fetchBad c = true → Answers i s (FaultTaken s c h 7 n)) ∧
    (s.fetchBad c = false → s.illegal c w = true → Answers i s (FaultTaken s c h 1 n)) ∧
    (s.fetchBad c = false → s.illegal c w = false → h.bound < h.steps + wordCost w false → Answers i s (FaultTaken s c h 6 n))

/-! ### Timers and queues -/

/-- TSET arms timer n: relative, to g[a] us after the event time, or to the next us where that has passed; absolute, to the us
in which TMB_NOW next equals g[a], or to the next us where it passed within the last 2^31 us. TCLR disarms the timer and
withdraws its event (R107). In a premove each is staged and the timer stands (R117). -/
def Obligations.TimersAreArmed : Prop :=
  ∀ (c : CoreId) (f : FormQ) (s : State) (h : Handler),
    let n : Fin 8 := ⟨f.n.toNat % 8, by omega⟩
    let run (i : Instr) (w : Word) (x : Staged) (g : Core → Core) : Prop := Ready s c h w →
      (h.premove = false → exec i s = .next ((s.modCore c g).after s c h w)) ∧
      (h.premove = true → h.eff < 32 → h.sto ≤ 64 → (s.seqEnd c).writes = [] →
        Answers i s fun t => t = { s with cores := s.cores.set c (t.core c), pmv := t.pmv } ∧
          (t.core c).timers = (s.core c).timers ∧ (t.core c).jobs = (s.core c).jobs ∧
          ((t.core c).run.map fun h => h.staged) = some (h.staged ++ [x]))
    let arm (e : Nat) (C : Core) : Core := { C with timers := C.timers.set n { C.timers[n] with expiry := some e } }
    let rel := s.us - (s.now - h.job.time).toNat + (s.gr c f.a).toNat
    let gone := (s.now - s.gr c f.a).toNat
    let no (r : Raised) : Bool := decide (r.cls ≠ 0x10 + n.val)
    run (.tsetRelative c f) (encQ 0x34 (selBit f 0 false)) (.tset n false rel)
      (arm (if rel < s.us then s.us + 1 else rel)) ∧
    run (.tsetAbsolute c f) (encQ 0x34 (selBit f 0 true)) (.tset n true (s.gr c f.a).toNat)
      (arm (if gone = 0 then s.us else if gone < 2 ^ 31 then s.us + 1 else s.us + (2 ^ 32 - gone))) ∧
    run (.tclr c f) (encQ 0x35 f) (.tclr n) fun C => { C with
      timers := C.timers.set n { C.timers[n] with expiry := none }
      jobs := C.jobs.filter fun j => decide (j.cls ≠ 0x10 + n.val), reoffer := C.reoffer.filter no, held := C.held.filter no }

/-- QPUSH by a file core of the 40 bytes at g[a]: FULL leaves the queue and latches the overflow; a TX queue of an
attached port with the type enabled gets the entry PENDING with the next SEQ; PORT-EVT gets it PENDING; an RX queue
and HOST-CMD are NOT_ALLOWED (R77-R79, R108, R109). The model's choice: log 121. The model's choice: log 121. The
model's choice: log 121. The model's choice: log 121. -/
def Obligations.QpushAppendsAnEntry : Prop :=
  ∀ (p : PortId) (f : FormQ) (s : State) (h : Handler) (k : Fin 8),
    let c := fileCore p
    let w := encQ 0x37 f
    let a := (s.gr c f.a).toNat
    let b := (List.range 40).map fun i => s.dataByte c (a + i)
    let x := Entry.ofBytes b
    let q := s.queue p k
    let ends (st : Nat) (Q : State → Prop) := Completes (.qpush c f) s c h w f.d (BitVec.ofNat 32 st) Q
    Ready s c h w → h.premove = false → f.n.toNat = k.val → s.readFault c 4 a 40 = 0 → region false a ≠ .regs →
    s.present p = true →
    ((k = 1 ∨ k = 3 ∨ k = 5) → q.ents.length < 8 → (s.port p).tc.attached = true → (s.port p).sopEnabled (qSop k) = true →
      ends 0 fun t => onlyPort p s t ∧ ∃ e, (t.queue p k).ents = q.ents ++ [e] ∧ e.st = .pending ∧ e.rsn = 0 ∧ e.seq = q.seq ∧
        e.time = s.now ∧ e.len = x.len ∧ e.hdr = x.hdr ∧ e.ext = x.ext ∧ e.data = x.data ∧ (t.queue p k).seq = q.seq + 1) ∧
    (k = 7 → q.ents.length < 8 → (s.port p).pd.qsctl.getLsbD 0 = false →
      ends 0 fun t => onlyPort p s t ∧ (t.queue p k).ents = q.ents ++ [{ x with st := .pending, rsn := 0, time := s.now, seq := q.seq }]) ∧
    ((k = 1 ∨ k = 3 ∨ k = 5 ∨ k = 7) → 8 ≤ q.ents.length →
      ends 2 fun t => t = s.modPd p fun d => { d with ovf := setB d.ovf k.val true }) ∧
    ((k = 0 ∨ k = 2 ∨ k = 4 ∨ k = 6) → ends 6 fun t => t = s)

/-- QPOP by a file core of an RX queue or HOST-CMD copies the head's 40 bytes to g[a] and removes it; EMPTY on an empty
queue, NOT_ALLOWED on a TX queue and PORT-EVT (R108, R110). -/
def Obligations.QpopTakesTheHead : Prop :=
  ∀ (p : PortId) (f : FormQ) (s : State) (h : Handler) (k : Fin 8),
    let c := fileCore p
    let w := encQ 0x38 f
    let a := (s.gr c f.a).toNat
    let ends (st : Nat) (Q : State → Prop) := Completes (.qpop c f) s c h w f.d (BitVec.ofNat 32 st) Q
    Ready s c h w → h.premove = false → f.n.toNat = k.val → storeFault c (s.core c).codeEnd 4 a 40 = 0 → region false a ≠ .regs →
    s.present p = true →
    (∀ e r, (k = 0 ∨ k = 2 ∨ k = 4 ∨ k = 6) → (s.queue p k).ents = e :: r →
      ends 0 fun t => ∃ t0, t = t0.storeBytes c a e.bytes ∧ onlyPort p s t0 ∧ (t0.queue p k).ents = r ∧
        (∀ j, j ≠ k → t0.queue p j = s.queue p j)) ∧
    ((k = 0 ∨ k = 2 ∨ k = 4 ∨ k = 6) → (s.queue p k).ents = [] → ends 3 fun t => t = s) ∧
    ((k = 1 ∨ k = 3 ∨ k = 5 ∨ k = 7) → ends 6 fun t => t = s)

/-- QPEEK copies an entry and leaves the queue: with EVT the entry whose event started the handler, else the slot the word
names after the head; EMPTY where there is none, NOT_ALLOWED for an EVT read of another queue (R110). -/
def Obligations.QpeekCopiesAnEntry : Prop :=
  ∀ (p : PortId) (f : FormQ) (s : State) (h : Handler) (k : Fin 8),
    let c := fileCore p
    let a := (s.gr c f.a).toNat
    let q := s.queue p k
    let w := encQ 0x39 (selBit f 11 true)
    let w' := encQ 0x39 (selBit f 11 false)
    let n := f.sub.toNat % 8
    h.premove = false → f.n.toNat = k.val → storeFault c (s.core c).codeEnd 4 a 40 = 0 → region false a ≠ .regs →
    s.present p = true →
    (Ready s c h w →
      (∀ e, h.job.queue = k.val → (q.ents.find? fun e => decide (e.seq = h.job.seq)) = some e →
        Completes (.qpeekEvent c f) s c h w f.d 0 fun t => t = s.storeBytes c a e.bytes) ∧
      (h.job.queue = k.val → (∀ e ∈ q.ents, e.seq ≠ h.job.seq) → Completes (.qpeekEvent c f) s c h w f.d 3 fun t => t = s) ∧
      (h.job.queue ≠ k.val → Completes (.qpeekEvent c f) s c h w f.d 6 fun t => t = s)) ∧
    (Ready s c h w' →
      (∀ e, q.ents[n]? = some e → Completes (.qpeekSlot c f) s c h w' f.d 0 fun t => t = s.storeBytes c a e.bytes) ∧
      (q.ents.length ≤ n → Completes (.qpeekSlot c f) s c h w' f.d 3 fun t => t = s))

/-! ### Ledger, actuators, SYS -/

/-- The quantities of LRD, in mW, outside a premove (R113). -/
def Sys2Proof.lrdRows : List ((CoreId → FormQ → Instr) × Nat × (State → PortId → Nat)) :=
  [(.lrdGrant, 0, fun s p => s.ldg.grant[p]), (.lrdReservation, 1, fun s p => s.ldg.rsv p), (.lrdCeiling, 2, fun s p => s.ceil p),
   (.lrdAvailable, 3, fun s _ => s.pAvail), (.lrdGrantSum, 4, fun s _ => s.ldg.gsum), (.lrdHeadroom, 5, fun s _ => s.headroom)]

/-- Ledger operations on a present port p: LRSV reserves where the ceiling and the headroom allow it; LCMT turns a
reservation into a grant; LREL gives back a grant, or a reservation; a refused one changes nothing. LRD writes the
quantity its row names to g[d], 0xFFFF_FFFF for a port that is absent or may not be named, and changes nothing else;
in a premove the headroom counts every tentative reservation (R112, R113, R157, R244). The model's choice: log 84. The
model's choice: log 84. The model's choice: log 84. The model's choice: log 84. -/
def Obligations.LedgerOperations : Prop :=
  (∀ (c : CoreId) (f : FormQ) (s : State) (h : Handler) (p : PortId), h.premove = false →
    ledgerPort c f.n.toNat 0 = some p → s.present p = true →
    let amt := (s.gr c f.a).toNat
    let g := s.ldg.grant[p]
    let r := s.ldg.rsv p
    let sums (t : State) (g' r' : Nat) : Prop := t.ldg.grant[p] = g' ∧ t.ldg.rsv p = r' ∧
      (∀ q : PortId, q ≠ p → t.ldg.grant[q] = s.ldg.grant[q] ∧ t.ldg.rsv q = s.ldg.rsv q)
    let stays (t : State) : Prop := t = { s with ldg := t.ldg }
    (Ready s c h (encQ 0x3A f) →
      let ends (st : Nat) := Completes (.lrsv c f) s c h (encQ 0x3A f) f.d (BitVec.ofNat 32 st)
      (s.ceil p < g + r + amt → ends 0x11 fun t => t = s) ∧
      (g + r + amt ≤ s.ceil p → 0 < amt → s.pAvail < s.used + amt → ends 0x10 fun t => t = s) ∧
      (g + r + amt ≤ s.ceil p → (amt = 0 ∨ s.used + amt ≤ s.pAvail) → ends 0 fun t => stays t ∧ sums t g (r + amt))) ∧
    (Ready s c h (encQ 0x3B f) →
      let ends (st : Nat) := Completes (.lcmt c f) s c h (encQ 0x3B f) f.d (BitVec.ofNat 32 st)
      (r < amt → ends 0x12 fun t => t = s) ∧
      (amt ≤ r → ends 0 fun t => stays t ∧ sums t (g + amt) (r - amt))) ∧
    (Ready s c h (encQ 0x3C (selBit f 0 false)) →
      let ends (st : Nat) := Completes (.lrelGrant c f) s c h (encQ 0x3C (selBit f 0 false)) f.d (BitVec.ofNat 32 st)
      (amt ≠ 0xFFFFFFFF → g < amt → ends 0x14 fun t => t = s) ∧
      ((amt = 0xFFFFFFFF ∨ amt ≤ g) → ends 0 fun t => sums t (g - amt) r ∧ t.cores = s.cores ∧ otherPorts p s t ∧
        t.port p = { s.port p with tc := { (s.port p).tc with rp := (t.port p).tc.rp } } ∧
        (t.port p).tc.rp ≤ (s.port p).tc.rp)) ∧
    (Ready s c h (encQ 0x3C (selBit f 0 true)) →
      let ends (st : Nat) := Completes (.lrelReservation c f) s c h (encQ 0x3C (selBit f 0 true)) f.d (BitVec.ofNat 32 st)
      (amt ≠ 0xFFFFFFFF → r < amt → ends 0x14 fun t => t = s) ∧
      ((amt = 0xFFFFFFFF ∨ amt ≤ r) → ends 0 fun t => stays t ∧ sums t g (r - amt)))) ∧
  ∀ row ∈ lrdRows, ∀ (c : CoreId) (f : FormQ) (s : State) (h : Handler),
    let w := encQ 0x3D (selSub f 0 4 row.2.1)
    Ready s c h w →
    (∀ p, ledgerPort c f.n.toNat (s.gr c f.a) = some p → s.present p = true → (h.premove = false ∨ row.2.1 ≠ 5) →
      exec (row.1 c f) s = .next (s.wrote c h w f.d (BitVec.ofNat 32 (row.2.2 s p)))) ∧
    (∀ p, ledgerPort c f.n.toNat (s.gr c f.a) = some p → s.present p = true → h.premove = true → row.2.1 = 5 →
      exec (row.1 c f) s = .next (s.wrote c h w f.d (BitVec.ofNat 32 (s.pAvail - (s.used + s.tentSum))))) ∧
    ((ledgerPort c f.n.toNat (s.gr c f.a) = none ∨ ∃ p, ledgerPort c f.n.toNat (s.gr c f.a) = some p ∧ s.present p = false) →
      exec (row.1 c f) s = .next (s.wrote c h w f.d 0xFFFFFFFF))

/-- The arbiter may write only GATE = 0b00 and DSC = 1 to a port's actuators; every other arbiter write returns
NOT_PERMITTED and changes nothing (R115). The model's choices: logs 43, 45. -/
def Obligations.ArbiterActuatorWrites : Prop :=
  ∀ (i : Instr) (f : FormQ) (s : State) (h : Handler) (j : Nat), j < 6 →
    (i = .actVset arbiterId f ∧ j = 0 ∨ i = .actIlim arbiterId f ∧ j = 1 ∨ i = .actConv arbiterId f ∧ j = 2 ∨
      i = .actGateOff arbiterId f ∧ j = 3 ∨ i = .actGateSourceOn arbiterId f ∧ j = 3 ∨ i = .actGateIdealDiode arbiterId f ∧ j = 3 ∨
      i = .actDsc arbiterId f ∧ j = 4 ∨ i = .actVconn arbiterId f ∧ j = 5) →
    let w := encQ 0x3E (selAct f j)
    let v := s.gr arbiterId f.a
    let p : PortId := ⟨f.n.toNat / 8, by omega⟩
    Ready s arbiterId h w →
    (s.present p = true → j = 3 → v = 0 → Completes i s arbiterId h w f.d 0 fun t => onlyPortCore p s t ∧
      ((s.port p).pw.mode ≠ .off → (t.port p).pw.mode = .off ∧ (t.port p).pw.ga = false ∧ (t.port p).pw.gb = false)) ∧
    (s.present p = true → j = 4 → v = 1 → (s.port p).pw.lid = false → (s.port p).pw.mode = .off →
      Completes i s arbiterId h w f.d 0 fun t => t = s.modPw p fun x => { x with dscAct := true }) ∧
    (¬ (j = 3 ∧ v = 0) → ¬ (j = 4 ∧ v = 1) → Completes i s arbiterId h w f.d 0x13 fun t => t = s)

/-- The eight ACT rows of a file core outside a premove (R114): VSET and ILIM inside their limits, CONV, GATE off, the
turn-ons of a source and of a sink, DSC, VCONN; and the refusals of R189, R207, R217 and R218, which change nothing
but the reason they record. The model's choices: logs 43, 45. -/
def Obligations.ActuatorWrites : Prop :=
  ∀ (p : PortId) (f : FormQ) (s : State) (h : Handler), h.premove = false →
    let c := fileCore p
    let v := s.gr c f.a
    let P := s.port p
    let w (j : Nat) := encQ 0x3E (selAct f j)
    let ends (i : Instr) (j st : Nat) (Q : State → Prop) : Prop :=
      Ready s c h (w j) → Completes i s c h (w j) f.d (BitVec.ofNat 32 st) Q
    (v.toNat < 65536 → P.sp.vmin.toNat ≤ v.toNat → v.toNat ≤ P.sp.vmax.toNat → P.sp.dir = false →
      ends (.actVset c f) 0 0 fun t => onlyPortCore p s t ∧ (t.port p).sp.vset = v.toNat) ∧
    ((v.toNat < P.sp.vmin.toNat ∨ P.sp.vmax.toNat < v.toNat) → v.toNat < 65536 →
      ends (.actVset c f) 0 0x20 fun t => onlyPortCore p s t ∧ (t.port p).sp.vset = P.sp.vset ∧ (t.port p).sp.sprsn = 1 ∧
        (t.port p).pw = P.pw) ∧
    (v.toNat < 65536 → v.toNat ≤ P.sp.iclfs.toNat →
      ends (.actIlim c f) 1 0 fun t => onlyPort p s t ∧ (t.port p).sp.ilim = v.toNat ∧ (t.port p).pw = P.pw) ∧
    (v.toNat < 4 → P.pw.lid = false → P.pw.mode = .off → P.sp.cen = false →
      ends (.actConv c f) 2 0 fun t => onlyPort p s t ∧ (t.port p).sp.cen = v.getLsbD 0 ∧ (t.port p).sp.dir = v.getLsbD 1 ∧
        (t.port p).pw = P.pw) ∧
    (v = 0 → P.pw.mode ≠ .off → ends (.actGateOff c f) 3 0 fun t => onlyPortCore p s t ∧ (t.port p).pw.mode = .off ∧
      (t.port p).pw.ga = false ∧ (t.port p).pw.gb = false ∧ (t.port p).pw.holdoff = true ∧ (t.port p).pw.pg = false ∧
      (t.port p).pw.lid = P.pw.lid ∧ (t.port p).sp.cen = P.sp.cen) ∧
    (v = 1 → P.pw.pen = true → P.pw.lid = false → P.pw.dsc = false → P.sp.cen = true → P.sp.dir = true →
      P.tc.st = .attachedSrc → P.tc.rdPins ≠ 2 → P.pw.mode = .off → P.pw.turn = .none → P.pw.defer = .off →
      ends (.actGateSourceOn c f) 3 0 fun t => t = s.modPw p fun x =>
        if P.pw.holdoff then { x with defer := .sourceOn } else { x with turn := .check, defer := .off }) ∧
    (v = 1 → P.pw.pen = false → P.pw.mode ≠ .sourceOn →
      ends (.actGateSourceOn c f) 3 0x20 fun t => t = s.modPw p fun x => { x with actrsn := 2 }) ∧
    (v = 2 → P.pw.pen = true → P.pw.lid = false → P.pw.dsc = false → P.sp.dir = false → P.tc.st = .attachedSnk →
      P.tc.rpPins ≠ 2 → P.pw.mode = .off → P.pw.holdoff = false →
      ends (.actGateIdealDiode c f) 3 0 fun t => onlyPort p s t ∧ (t.port p).pw.mode = .idealDiode ∧
        (t.port p).pw.phase = .running ∧ (t.port p).pw.ga = true ∧ (t.port p).sp = P.sp ∧ (t.port p).tc = P.tc) ∧
    (v = 1 → P.pw.lidDsc = false → P.pw.mode = .off →
      ends (.actDsc c f) 4 0 fun t => t = s.modPw p fun x => { x with dscAct := true }) ∧
    (v = 1 → P.pw.lidDsc = false → P.pw.mode ≠ .off →
      ends (.actDsc c f) 4 0x20 fun t => t = s.modPw p fun x => { x with actrsn := 6 }) ∧
    (v = 0 → ends (.actDsc c f) 4 0 fun t => t = s.modPw p fun x => { x with dscAct := false }) ∧
    (v = 1 → P.tc.attached = true → P.ct.rapin = true →
      ends (.actVconn c f) 5 0 fun t => t = s.modTc p fun x => { x with vconn := true }) ∧
    (v = 1 → (P.tc.attached = false ∨ P.ct.rapin = false) → ends (.actVconn c f) 5 0x20 fun t => t = s) ∧
    (v = 0 → ends (.actVconn c f) 5 0 fun t => t = s.modTc p fun x => { x with vconn := false })

/-- SYS outside a premove: CHK in its window marks the slot done; LOG appends the 16 bytes at g[a] unless 16 records
wait; FSEND queues the frame at g[a] on an enabled, running link with room, a LEASE_REQ only while fabric time is
locked; FRECV pops the oldest frame received (R116, R291). The model's choices: logs 125, 143. -/
def Obligations.SysFunctions : Prop :=
  ∀ (c : CoreId) (f : FormQ) (s : State) (h : Handler), h.premove = false →
    let a := (s.gr c f.a).toNat
    let C := s.core c
    let u := s.flg.units[c].roll (s.unitTick c)
    let wl := encQ 0x3F (selSub f 8 4 1)
    let wc := encQ 0x3F (selSub f 8 4 0)
    let ws := encQ 0x3F (selSub f 8 4 2)
    let wr := encQ 0x3F (selSub f 8 4 3)
    let l : FLink := if f.n = 0 then .u else if f.n = 1 then .d0 else .d1
    let x := frameOfBytes ((List.range 32).map fun i => s.dataByte c (a + i))
    (∀ n : Fin 16, f.n.toNat = n.val → u.armed = true → u.isLate (s.unitTick c) = false → u.enabled.getLsbD n.val = true →
      u.done.getLsbD n.val = false → u.open' ≤ u.since (s.unitTick c) → Ready s c h wc →
      ∃ t : State, exec (.chk c f) s = .next (t.after s c h wc) ∧ t = { s with flg := t.flg } ∧
        t.flg.units[c].done.getLsbD n.val = true ∧ t.flg.evt = s.flg.evt) ∧
    (Ready s c h wl → s.readFault c 4 a 16 = 0 → region (isArb c) a ≠ .regs → C.logs.length < 16 →
      Completes (.log c f) s c h wl f.d 0 fun t => t = s.modCore c fun C => { C with
        logs := C.logs ++ [(f.n.toNat, (List.range 16).map fun i => s.dataByte c (a + i))] }) ∧
    (Ready s c h wl → s.readFault c 4 a 16 = 0 → region (isArb c) a ≠ .regs → 16 ≤ C.logs.length →
      Completes (.log c f) s c h wl f.d 2 fun t => t = s) ∧
    (Ready s c h ws → s.readFault c 4 a 32 = 0 → region (isArb c) a ≠ .regs → s.fab.linkEn l = true →
      (l ≠ .u → s.fab.own ≠ none) → (x.typ = 1 → s.fab.ftlock = true) →
      (s.fab.txq[l.idx].length < 8 → s.fab.up[l.idx] = true →
        Completes (.fsend c f) s c h ws f.d 0 fun t => t = { s with fab := t.fab } ∧ t.fab.txq = s.fab.txq.set l.idx
          (s.fab.txq[l.idx] ++ [x])) ∧
      (8 ≤ s.fab.txq[l.idx].length → Completes (.fsend c f) s c h ws f.d 2 fun t => t = s)) ∧
    (Ready s c h ws → s.readFault c 4 a 32 = 0 → region (isArb c) a ≠ .regs →
      (s.fab.linkEn l = false ∨ (l ≠ .u ∧ s.fab.own = none) ∨ (x.typ = 1 ∧ s.fab.ftlock = false)) →
      Completes (.fsend c f) s c h ws f.d 0x13 fun t => t = s) ∧
    (Ready s c h wr → storeFault c C.codeEnd 4 a 32 = 0 → region (isArb c) a ≠ .regs →
      (s.fab.rxq[l.idx] = [] → Completes (.frecv c f) s c h wr f.d 3 fun t => t = s) ∧
      (∀ x r, s.fab.rxq[l.idx] = x :: r → Completes (.frecv c f) s c h wr f.d 0 fun t =>
        t = (s.modFab fun b => { b with rxq := b.rxq.set l.idx r }).storeBytes c a (frameBytes x)))

/-- An instruction of a premove changes nothing outside its core but the marks of its buffers, and in its core neither
timers, jobs, bindings nor the log: what it would do is staged (R117, R148). -/
def Obligations.PremovesActOnNothing : Prop :=
  ∀ (i : Instr) (p : PortId) (w : Word) (s : State) (h : Handler), encodeWord i = some (fileCore p, w) →
    (s.core (fileCore p)).run = some h → h.premove = true → s.memOk →
    Answers i s fun t => ((t.core (fileCore p)).run.isSome = true →
      t = { s with cores := s.cores.set (fileCore p) (t.core (fileCore p)), pmv := t.pmv } ∧
      (t.core (fileCore p)).timers = (s.core (fileCore p)).timers ∧ (t.core (fileCore p)).jobs = (s.core (fileCore p)).jobs ∧
      (t.core (fileCore p)).awaits = (s.core (fileCore p)).awaits ∧ (t.core (fileCore p)).logs = (s.core (fileCore p)).logs ∧
      ∀ x, x < 0x3800 → Mem.read 0 (t.core (fileCore p)).data x = Mem.read 0 (s.core (fileCore p)).data x)

/-! ### Events of a core (05) -/

/-- A free core takes START first, then the critical job with the earliest deadline, then the non-critical one; the job
leaves the list and its handler begins with registers 0, stacks empty and the pc at its slot's entry; only a rerun also finds
premove scratch undefined (R86, R132, R151). -/
def Obligations.DispatchStartsTheFirstJob : Prop :=
  ∀ (c : CoreId) (s : State) (j : Job), s.corePresent c = true → (s.core c).run = none →
    ((s.core c).st = .running ∨ (s.core c).st = .loading) →
    (s.nextJob c = some j →
      Answers (.handlerDispatch c) s (fun t => t = { s with cores := s.cores.set c (t.core c), freeCtr := t.freeCtr } ∧
        (j.rerun = false → onlyCore c s t ∧ (t.core c).data = (s.core c).data) ∧ (t.core c).jobs = (s.core c).jobs.filter (fun x => decide (x.id ≠ j.id)) ∧
        (t.core c).g = Vector.replicate 16 0 ∧ (t.core c).ret = [] ∧ (t.core c).loops = [] ∧
        (∃ h, (t.core c).run = some h ∧ h.job = j ∧ h.start = s.now ∧ h.steps = 0 ∧ h.premove = j.inRx ∧ h.staged = []) ∧
        (∀ im i, (s.core c).image = some im → im.slot j.slot = some i → (t.core c).pc = i.e.entry)) ∧
      j ∈ (s.core c).jobs ∧ s.eligible c j = true ∧
      (j.cls ≠ 0 → (∀ k ∈ (s.core c).jobs, s.eligible c k = true → k.cls ≠ 0) ∧
        (j.nc = true → ∀ k ∈ (s.core c).jobs, s.eligible c k = true → k.nc = true) ∧
        ∀ k ∈ (s.core c).jobs, s.eligible c k = true → k.nc = j.nc → until' s.now j.deadline ≤ until' s.now k.deadline)) ∧
    (s.nextJob c = none → exec (.handlerDispatch c) s = .next s)

/-- A due timer is disarmed and raises its event; at the end of a coalescing interval what was latched is raised, or the
interval closes; a refused event that is admitted now becomes a job (R107, R125-R127). -/
def Obligations.TimersAndIntervals : Prop :=
  ∀ (c : CoreId) (s : State), s.corePresent c = true →
    let C := s.core c
    (∀ n : Fin 8, (∃ d, C.timers[n].expiry = some d ∧ d ≤ s.us) →
      (∀ l im, C.timers[n].last = some l → C.image = some im → l + im.tmin (0x10 + n.val) ≤ s.us) →
      (C.image = none → ∀ l, C.timers[n].last = some l → l ≤ s.us) → Answers (.coreTimerExpiry c n) s fun t => onlyCore c s t ∧
        (t.core c).timers = C.timers.set n { expiry := none, last := some s.us } ∧
        (∀ im k, C.image = some im → im.critical (0x10 + n.val) = true → C.st = .running → C.slotFor (0x10 + n.val) none = some k →
          ∃ j, (t.core c).jobs = C.jobs ++ [j] ∧ j.cls = 0x10 + n.val ∧ j.slot = k ∧ j.time = s.now ∧ j.nc = false)) ∧
    (∀ n : Fin 8, (∀ d, C.timers[n].expiry = some d → s.us < d) → exec (.coreTimerExpiry c n) s = .next s) ∧
    (∀ (cls : Fin 64) x, (C.coal.find? fun y => decide (y.cls = cls.val)) = some x → x.latched = none →
      exec (.coalesceIntervalEnd c cls) s = .next (s.modCore c fun C => { C with coal := C.coal.filter fun y => decide (y.cls ≠ cls.val) })) ∧
    (∀ (cls : Fin 64) x a k, (C.coal.find? fun y => decide (y.cls = cls.val)) = some x → x.latched = some a → C.st = .running →
      C.slotFor cls.val none = some k → Answers (.coalesceIntervalEnd c cls) s fun t => onlyCore c s t ∧
        ∃ j, (t.core c).jobs = C.jobs ++ [j] ∧ j.cls = cls.val ∧ j.slot = k ∧ j.time = s.now ∧ a &&& ~~~j.arg = 0) ∧
    (∀ (cls : Fin 64) r, cls.val ≠ 0x27 → (C.reoffer.find? fun r => decide (r.cls = cls.val)) = some r →
      C.ncCode s.now r none = 0 → Answers (.eventReoffer c cls) s fun t => onlyCore c s t ∧
        (t.core c).reoffer = C.reoffer.erase r ∧ ∃ j, (t.core c).jobs = C.jobs ++ [j] ∧ j.cls = cls.val ∧ j.nc = true ∧ j.arg = r.arg)

/-- A running job past its deadline is counted once: BRKCNT, the latch and LASTBRK. A pace sample below 250 raises the
alarm; the hundredth in a row of at least 260 clears it; RATE and the least rate follow (R144, R145). The model's
choice: log 76. The model's choice: log 76. The model's choice: log 76. The model's choice: log 76. -/
def Obligations.PromisesAndPace : Prop :=
  ∀ (c : CoreId) (s : State), s.corePresent c = true →
    let C := s.core c
    (∀ h, C.run = some h → h.premove = false → h.job.counted = false → h.job.inRx = false → until' s.now h.job.deadline < 0 →
      (∀ j ∈ C.jobs, j.broken s.now = false) → Answers (.brokenPromise c) s fun t => onlyCore c s t ∧
        (t.core c).cr.brkcnt = satInc C.cr.brkcnt ∧ (t.core c).cr.evt = setB C.cr.evt 2 true ∧
        (t.core c).cr.lbDeadline = h.job.deadline ∧ (t.core c).cr.lbComplete = 0xFFFFFFFF ∧
        (t.core c).run = some { h with job := { h.job with counted := true } } ∧ (t.core c).jobs = C.jobs) ∧
    (∀ rate : Half, C.paceAlarm = false → rate.toNat < 250 → Answers (.paceSample c rate) s fun t =>
      (t.core c).paceAlarm = true ∧ (t.core c).cr.rate = rate ∧ (t.core c).cr.evt.getLsbD 0 = true ∧ (t.core c).run = C.run ∧
      t = { s with cores := s.cores.set c (t.core c), faultLog := t.faultLog, upd := s.upd.log (t.faultLog.take 1), freeCtr := t.freeCtr }) ∧
    (∀ rate : Half, C.paceAlarm = true → C.paceGood = 99 → 260 ≤ rate.toNat → Answers (.paceSample c rate) s fun t =>
      (t.core c).paceAlarm = false ∧ (t.core c).cr.evt.getLsbD 1 = true) ∧
    (∀ rate : Half, C.paceAlarm = false → 250 ≤ rate.toNat → Answers (.paceSample c rate) s fun t => onlyCore c s t ∧
      (t.core c).cr = { C.cr with rate, minrate := if rate.toNat < C.cr.minrate.toNat then rate else C.cr.minrate })

/-! ### PHY (03) -/

/-- The link of port p can receive a header with SOP* type x at a rate of kbit/s (R59, R60, R423). -/
def Sys2Proof.RxReady (s : State) (p : PortId) (x : Sop) (rate : Nat) : Prop :=
  s.ppOn p = true ∧ s.linkUp = true ∧ (s.port p).tc.attached = true ∧ (s.port p).pd.hrwait = false ∧
    (s.port p).pd.bistCar = false ∧ (s.port p).pd.bistTd = false ∧ 270 ≤ rate ∧ rate ≤ 330 ∧ (s.port p).sopEnabled x = true

/-- Early decode reserves the frame's RX slot; where an EARLY slot matches the frame it raises EARLY with the frame's
deadline, or holds it for a core that does not run, and else no event. With no free slot at the end of the SOP*
ordered set, 20 bits before, the frame is dropped and counted (R60, R72, R77, R127, R134, R146). The model's choice:
log 127. The model's choice: log 127. The model's choice: log 127. The model's choice: log 127. -/
def Obligations.EarlyDecodeReservesASlot : Prop :=
  ∀ (p : PortId) (x : Sop) (hdr : Half) (rate : Nat) (s : State), RxReady s p x rate → isGoodCrc hdr = false →
    (s.port p).pd.rx = none → (∀ l, (s.port p).pd.lastEarly = some l → l + 476 ≤ s.us) →
    let full : Prop := 8 ≤ (s.queue p (rxQ x)).ents.length ∨
      ∃ f, (s.queue p (rxQ x)).freed = some f ∧ s.us - (20000 + rate / 2) / rate < f
    let C := s.core (fileCore p)
    let fits := C.image.bind fun im => chooseSlot im 1 (some (x, hdr))
    (¬ full → Answers (.earlyDecode p x hdr rate) s fun t => otherPorts p s t ∧
      (∃ r, (t.port p).pd.rx = some r ∧ r.slot = true ∧ r.early = true ∧ r.sop = x ∧ r.hdr = hdr ∧ r.data = []) ∧
      (t.port p).pd.lastEarly = some s.us ∧ (t.port p).pd.evt = setB (s.port p).pd.evt 0 true ∧ (t.port p).qs = (s.port p).qs ∧
      (C.st = .running → fits = none → (t.core (fileCore p)).jobs = C.jobs) ∧
      (C.st ≠ .running → (t.core (fileCore p)).jobs = C.jobs ∧ ∃ r, (t.core (fileCore p)).held = C.held ++ [r] ∧ r.cls = 1) ∧
      (∀ n, fits ≠ none → C.slotFor 1 (some (x, hdr)) = some n → C.st = .running →
        ∃ j, (t.core (fileCore p)).jobs = (s.core (fileCore p)).jobs ++ [j] ∧ j.cls = 1 ∧ j.slot = n ∧ j.inRx = true ∧
          j.queue = (rxQ x).val ∧ j.seq = (s.queue p (rxQ x)).seq ∧ j.deadline = earlyDeadline s.now hdr rate)) ∧
    (full → Answers (.earlyDecode p x hdr rate) s fun t => onlyPortCore p s t ∧
      (∃ r, (t.port p).pd.rx = some r ∧ r.slot = false) ∧ (t.port p).pd.rxdrop = satInc (s.port p).pd.rxdrop ∧
      (t.port p).pd.ovf.getLsbD (rxQ x).val = true ∧ (t.port p).pd.evt.getLsbD 7 = true ∧ (t.port p).qs = (s.port p).qs)

/-- While a frame is under reception an invalid symbol or an idle line withdraws its slot and takes its premove back; more
data objects of it join its slot; unpopped RX entries are offered again after a restart (R72, R110, R152, R306). -/
def Obligations.FramesUnderReception : Prop :=
  ∀ (p : PortId) (s : State), s.ppOn p = true →
    (∀ i, (i = .invalidSymbol p ∨ i = .lineIdleTimeout p) →
      ((s.port p).pd.rx = none → exec i s = .next s) ∧
      (∀ r, (s.port p).pd.rx = some r → Answers i s fun t => (t.port p).pd.rx = none ∧ (t.port p).qs = (s.port p).qs ∧
        otherPorts p s t ∧ (∀ j ∈ (t.core (fileCore p)).jobs, j.inRx = false) ∧ (s.premove p = none → onlyPortCore p s t)) ∧
      (∀ r h, (s.port p).pd.rx = some r → s.premove p = some h → Answers i s fun t => (t.core (fileCore p)).run = none ∧
        t.pmv.ports[p].taken = satInc s.pmv.ports[p].taken ∧ t.ldg = s.ldg)) ∧
    (∀ r data ext, (s.port p).pd.rx = some r → r.slot = true → r.data <+: data → data.length ≤ (if hdrExt r.hdr then 26 else 28) →
      s.premove p = none →
      exec (.premoveStallEnd p data ext) s = .next (s.modPd p fun d => { d with rx := some { r with data, ext } })) ∧
    (∀ x y l e n, (s.port p).pd.reoffer = (x, y) :: l → (s.queue p (rxQ x)).ents.find? (fun e => decide (e.seq = y)) = some e →
      (∀ z ∈ l, ∃ e ∈ (s.queue p (rxQ z.1)).ents, e.seq = z.2) → (s.core (fileCore p)).st = .running →
      (s.core (fileCore p)).slotFor 2 (some (x, e.hdr)) = some n → Answers (.rxReoffer p x) s fun t => onlyPortCore p s t ∧
        (t.port p).pd.reoffer = l ∧ ∃ j, (t.core (fileCore p)).jobs = (s.core (fileCore p)).jobs ++ [j] ∧ j.cls = 2 ∧
          j.slot = n ∧ j.seq = y)

/-- A good frame of an attached port whose MessageID is not the stored one is accepted: its entry joins the RX queue
RECEIVED with the next SEQ, its ID is stored, its GoodCRC is owed and then sent. A repeated ID gets GoodCRC and no entry; a
bad CRC is counted and the frame lost (R60, R62, R63, R79, R80). -/
def Obligations.FramesAreAccepted : Prop :=
  ∀ (p : PortId) (f : Frame) (s : State) (r : RxFrame), RxReady s p r.sop f.rate → (s.port p).pd.rx = some r → r.slot = true →
    r.again = none → f.sop = r.sop → f.hdr = r.hdr → r.data <+: f.data → s.premove p = none →
    let k := rxQ r.sop
    let d := (s.port p).pd
    (f.crcGood = true → d.isDup r.sop (hdrId r.hdr) = false → (s.queue p k).ents.length < 8 →
      Answers (.frameReceived p f) s fun t => onlyPortCore p s t ∧ (t.port p).pd.rx = none ∧
        (∃ e, (t.queue p k).ents = (s.queue p k).ents ++ [e] ∧ e.st = .received ∧ e.hdr = r.hdr ∧ e.seq = (s.queue p k).seq ∧
          e.time = r.time ∧ e.data = toVec 28 (f.data.take (if hdrExt r.hdr then 26 else 28))) ∧
        (t.port p).pd.rxId[r.sop.idx] = hdrId r.hdr ∧ (t.port p).pd.rxVal[r.sop.idx] = true ∧
        (t.port p).pd.crcDue = some (r.sop, d.goodCrc r.sop (hdrId r.hdr)) ∧ (t.port p).pd.evt.getLsbD 1 = true) ∧
    (f.crcGood = true → d.isDup r.sop (hdrId r.hdr) = true → Answers (.frameReceived p f) s fun t => onlyPortCore p s t ∧
      (t.port p).pd.rx = none ∧ (t.port p).qs = (s.port p).qs ∧ (t.port p).pd.nDup = satInc d.nDup ∧
      (t.port p).pd.crcDue = some (r.sop, d.goodCrc r.sop (hdrId r.hdr)) ∧ (t.port p).pd.rxId = d.rxId) ∧
    (f.crcGood = false → Answers (.frameReceived p f) s fun t => onlyPortCore p s t ∧ (t.port p).pd.rx = none ∧
      (t.port p).qs = (s.port p).qs ∧ (t.port p).pd.nCrc = satInc d.nCrc ∧ (t.port p).pd.crcDue = d.crcDue) ∧
    (∀ x, d.crcDue = some x → exec (.goodcrcTransmit p) s = .next (s.modPd p fun d => { d with lastTx := some x, crcDue := none }))

/-- The oldest pending entry starts with its type's MessageID; its EOP begins the wait for GoodCRC; a matching GoodCRC ends
it SENT and counts the ID on; tReceive repeats it until the retries are spent, then it fails (R63, R66, R67, R78). -/
def Obligations.TransmissionsEnd : Prop :=
  ∀ (p : PortId) (s : State), s.ppOn p = true →
    let d := (s.port p).pd
    (∀ k e r, s.nextTx p = some (k, e) → (k = 1 ∨ k = 3 ∨ k = 5) → (s.queue p k).ents = e :: r → s.linkUp = true → d.rx = none →
      d.tx = none → d.crcDue = none → d.bistCar = false → d.hrPend = false → d.crPend = false → (s.port p).tc.attached = true →
      (s.port p).sopEnabled (qSop k) = true → e.lengthOk = true → isSoftReset e.hdr = false →
      Answers (.txStart p) s fun t => onlyPort p s t ∧
        (t.port p).pd.tx = some { sop := qSop k, tries := 0, id := d.txId[(qSop k).idx], await := false } ∧
        ∃ e', (t.queue p k).ents = e' :: r ∧ e'.st = .transmitting ∧ hdrId e'.hdr = d.txId[(qSop k).idx] ∧ e'.seq = e.seq) ∧
    (∀ b, d.tx = some b → b.await = false →
      exec (.txFrameEnd p) s = .next (s.modPd p fun d => { d with tx := some { b with await := true, eop := some s.now } })) ∧
    (∀ b e r, d.tx = some b → b.await = true → (s.port p).sopEnabled b.sop = true → (s.queue p (txQ b.sop)).ents = e :: r →
      r.length < 8 → Answers (.goodcrcReceive p b.sop b.id) s fun t => onlyPortCore p s t ∧ (t.port p).pd.tx = none ∧
        (t.queue p (txQ b.sop)).ents = r ∧ (∃ e', (t.queue p (txQ b.sop)).fin.getLast? = some e' ∧ e'.st = .sent ∧ e'.seq = e.seq) ∧
        (t.port p).pd.evt.getLsbD 2 = true ∧ (t.port p).pd.txId = d.txId.set b.sop.idx (d.txId[b.sop.idx] + 1)) ∧
    (∀ b, d.tx = some b → b.await = true → b.tries < d.retries → (s.port p).sopEnabled b.sop = true →
      exec (.treceiveExpiry p) s = .next (s.modPd p fun d => { d with
        tx := some { b with tries := b.tries + 1, await := false }, nRetry := satInc d.nRetry })) ∧
    (∀ b e r, d.tx = some b → b.await = true → d.retries ≤ b.tries → (s.queue p (txQ b.sop)).ents = e :: r → r.length < 8 →
      Answers (.treceiveExpiry p) s fun t => onlyPortCore p s t ∧ (t.port p).pd.tx = none ∧ (t.queue p (txQ b.sop)).ents = r ∧
        (∃ e', (t.queue p (txQ b.sop)).fin.getLast? = some e' ∧ e'.st = .failed ∧ e'.rsn = 1) ∧
        (t.port p).pd.nFail = satInc d.nFail) ∧
    (∀ k e, s.nextTx p = some (k, e) → ∀ j e', (j = 1 ∨ j = 3 ∨ j = 5) → (s.queue p j).ready = some e' →
      (s.now - e'.time).toNat ≤ (s.now - e.time).toNat)

/-- Collision avoidance (R70, R71): tSinkTx over releases the held entries of a source; Rp 3.0 A for 15 ms those of a sink;
AMS_END lowers a source's Rp again and is refused while unattached. Host queue commands (R77, R84): PUSH only to HOST-CMD,
POP only of PORT-EVT and only the expected SEQ, CLROVF anywhere. -/
def Obligations.LinkAndQueueCommands : Prop :=
  ∀ (p : PortId) (s : State),
    let P := s.port p
    let free (t : State) (k : Fin 8) : Prop := (t.queue p k).ents = (s.queue p k).ents.map fun e => { e with held := false }
    (s.ppOn p = true → P.tc.st = .attachedSrc →
      Answers (.amsHoldExpiry p) s fun t => onlyPort p s t ∧ free t 1 ∧ free t 3 ∧ free t 5 ∧ (t.port p).pd = P.pd) ∧
    (s.ppOn p = true → P.tc.st = .attachedSnk → P.tc.activeCc = .rp30 →
      Answers (.sinkTxOkElapsed p) s fun t => onlyPort p s t ∧ free t 1 ∧ free t 3 ∧ free t 5 ∧ (t.port p).pd.sinkOk = true) ∧
    (s.regsUp = true → s.present p = true →
      (P.tc.attached = true → Answers (.amsEnd p) s fun t => onlyPort p s t ∧ (t.port p).pd.amsOpen = false ∧
        (t.port p).pd.cmd = { cmd := 0x45, cst := 1 } ∧ (P.pd.amsOpen = true → P.ct.pd3 = true → (t.port p).tc.rp = 2)) ∧
      (P.tc.attached = false → exec (.amsEnd p) s = .next (s.modPd p fun d => { d with cmd := { cmd := 0x45, cst := 2 } })) ∧
      (∀ k, k ≠ 6 → exec (.push p k) s = .next (s.modQ p k fun q => { q with cmd := { cmd := 1, cst := 6 } })) ∧
      (8 ≤ (s.queue p 6).ents.length → P.pd.qsctl.toNat / 4 % 4 ≠ 2 → Answers (.push p 6) s fun t => onlyPort p s t ∧
        (t.queue p 6).cmd = { cmd := 1, cst := 2 } ∧ (t.queue p 6).ents = (s.queue p 6).ents ∧ (t.port p).pd.ovf.getLsbD 6 = true) ∧
      ((s.queue p 6).ents.length < 8 → P.pd.qsctl.toNat / 4 % 4 ≠ 2 → (s.core (fileCore p)).ncCode s.now
          { cls := 7, arg := (s.queue p 6).seq.setWidth 32, queue := 6, seq := (s.queue p 6).seq } none = 0 →
        Answers (.push p 6) s fun t => onlyPortCore p s t ∧ (t.queue p 6).cmd = { cmd := 1, cst := 1 } ∧
          (∃ e, (t.queue p 6).ents = (s.queue p 6).ents ++ [e] ∧ e.st = .pending ∧ e.seq = (s.queue p 6).seq) ∧
          ∃ j, (t.core (fileCore p)).jobs = (s.core (fileCore p)).jobs ++ [j] ∧ j.cls = 7 ∧ j.seq = (s.queue p 6).seq) ∧
      (∀ k, k ≠ 7 → exec (.pop p k) s = .next (s.modQ p k fun q => { q with cmd := { cmd := 2, cst := 6 } })) ∧
      (∀ e r, P.pd.qsctl.getLsbD 0 = false → (s.queue p 7).ents = e :: r → e.seq = (s.queue p 7).expseq →
        exec (.pop p 7) s = .next (s.modQ p 7 fun q => { q with
          ents := r, freed := if 8 ≤ q.ents.length then some s.us else q.freed, cmd := { cmd := 2, cst := 1 } })) ∧
      (∀ e r, P.pd.qsctl.getLsbD 0 = false → (s.queue p 7).ents = e :: r → e.seq ≠ (s.queue p 7).expseq →
        exec (.pop p 7) s = .next (s.modQ p 7 fun q => { q with cmd := { cmd := 2, cst := 4 } })) ∧
      (∀ k, Answers (.clrovf p k) s fun t => onlyPort p s t ∧ (t.port p).pd.ovf = setB P.pd.ovf k.val false ∧
        (t.queue p k).cmd = { cmd := 3, cst := 1 } ∧ (t.queue p k).ents = (s.queue p k).ents))

/-- Hard Reset, received, commanded or during a reset; Cable Reset; BIST; HR_DONE. Hard Reset clears the MessageIDs,
ends the contract record, holds the link in the Hard Reset wait and starts the sequence on the power path; the
commands are refused on an unattached port (R28, R73, R74, R181). The model's choices: logs 87, 122. -/
def Obligations.ResetsAndBist : Prop :=
  ∀ (p : PortId) (s : State),
    let P := s.port p
    let cmd (t : State) (c st : Byte) : Prop := t = s.modPd p fun d => { d with cmd := { cmd := c, cst := st } }
    let reset (t : State) : Prop := otherPorts p s t ∧ t.ldg = s.ldg ∧ (t.port p).pd.hrwait = true ∧
      (t.port p).pd.txId = Vector.replicate 3 0 ∧ (t.port p).pd.rxVal = Vector.replicate 3 false ∧ (t.port p).pd.rx = none ∧
      (t.port p).pd.tx = none ∧ (t.port p).ct.typ = 0 ∧ (t.port p).ct.conv = 0 ∧ (t.port p).ct.hrseq = .before4 ∧
      (t.port p).ct.swap = .none ∧ (t.port p).tc.st = P.tc.st
    (s.ppOn p = true → s.linkUp = true → P.tc.attached = true →
      Answers (.hardResetReceived p) s (fun t => reset t ∧ (t.port p).pd.evt.getLsbD 8 = true) ∧
      Answers (.cableResetReceived p) s (fun t => otherPorts p s t ∧ (t.port p).pd.evt.getLsbD 11 = true ∧ (t.port p).ct = P.ct ∧
        (t.port p).qs = P.qs)) ∧
    (s.ppOn p = true → s.linkUp = true → P.pd.hrPend = true → P.pd.rx = none → P.pd.cmd.cmd = 0x48 →
      Answers (.hardResetTransmit p) s fun t => reset t ∧ (t.port p).pd.hrPend = false ∧ (t.port p).pd.evt.getLsbD 9 = true ∧
        (t.port p).pd.cmd = { cmd := 0x48, cst := 1 }) ∧
    (s.ppOn p = true → s.linkUp = false → P.tc.attached = true → (P.pw.lid = false ∨ P.pw.lidDsc = false) →
      Answers (.hardResetDuringReset p) s fun t => onlyPortCore p s t ∧ (t.port p).pw.mode = .off ∧ (t.port p).pw.dscHw = true ∧
        (t.port p).ct.hrseq = .before4 ∧ (t.port p).pd = P.pd) ∧
    (s.ppOn p = true → s.linkUp = true → P.pd.crPend = true → P.pd.rx = none → P.pd.tx = none →
      P.pd.crcDue = none → P.pd.bistCar = false → Answers (.cableResetTransmit p) s fun t => otherPorts p s t ∧ (t.port p).pd.crPend = false ∧ (t.port p).pd.evt.getLsbD 10 = true ∧
        (t.queue p 3).ents = [] ∧ (t.queue p 5).ents = [] ∧ (t.port p).pd.txId[1] = 0 ∧ (t.port p).pd.txId[2] = 0 ∧
        (t.port p).ct = P.ct) ∧
    (s.ppOn p = true → P.pd.bistCar = true → Answers (.bistCarrierEnd p) s fun t => onlyPortCore p s t ∧
      (t.port p).pd.bistCar = false ∧ (t.port p).pd.evt.getLsbD 12 = true) ∧
    (s.regsUp = true → s.present p = true → P.tc.attached = false →
      Answers (.sendHardReset p) s (fun t => cmd t 0x48 2) ∧ Answers (.sendCableReset p) s (fun t => cmd t 0x43 2) ∧
      Answers (.bistCarrier p) s (fun t => cmd t 0x42 2) ∧ Answers (.bistTestData p) s (fun t => cmd t 0x54 2) ∧
      Answers (.hrDone p) s (fun t => cmd t 0x44 2)) ∧
    (s.regsUp = true → s.present p = true → P.tc.attached = true →
      Answers (.sendHardReset p) s (fun t => t = s.modPd p fun d => { d with hrPend := true, cmd := { cmd := 0x48, cst := 3 } }) ∧
      (P.tc.vconn = true → Answers (.sendCableReset p) s fun t =>
        t = s.modPd p fun d => { d with crPend := true, cmd := { cmd := 0x43, cst := 3 } }) ∧
      Answers (.bistCarrier p) s (fun t => t = s.modPd p fun d => { d with bistCar := true, cmd := { cmd := 0x42, cst := 3 } }) ∧
      Answers (.bistTestData p) s (fun t => t = s.modPd p fun d => { d with bistTd := true, cmd := { cmd := 0x54, cst := 1 } }) ∧
      (P.pd.hrwait = true → P.ct.hrseq = .doneWait → Answers (.hrDone p) s fun t => onlyPort p s t ∧
        (t.port p).pd.hrwait = false ∧ (t.port p).ct.hrseq = .none ∧ (t.port p).pd.cmd = { cmd := 0x44, cst := 1 }))

/-! ### Type-C (02) -/

/-- The class that a CC pin reads at mv mV is taken: against an Rp presented at its level Ra, Rd or open, against Rd
open or the partner's Rp level. One that the unattached port looks for starts the wait. A pin that is isolated or
carries VCONN is not read; 6 V on a pin isolates it and takes the port to ErrorRecovery (R36, R45, R52). The model's
choices: logs 110, 115. -/
def Obligations.CcPinEvents : Prop :=
  ∀ (p : PortId) (s : State), s.tcOn p = true →
    let T := (s.port p).tc
    (∀ pin mv, T.reads pin = true → mv ≤ 6000 → ∃ x : Term,
      (T.shown pin = .rp → x = if mv < (if T.rp = 2 then 800 else if T.rp = 1 then 400 else 200) then .ra
        else if mv < (if T.rp = 2 then 2600 else 1600) then .rd else .openT) ∧
      (T.shown pin = .rd ∨ T.shown pin = .deadRd → x = if mv < 200 then .openT else if mv < 660 then .rpDef
        else if mv < 1230 then .rp15 else .rp30) ∧
      Answers (.ccTerminationChange p pin mv) s fun t => onlyPortCore p s t ∧
        (match pin with | .cc1 => (t.port p).tc.cc1 = x ∧ (t.port p).tc.cc2 = T.cc2 | .cc2 => (t.port p).tc.cc2 = x ∧ (t.port p).tc.cc1 = T.cc1) ∧
        (T.st = .unattachedSnk → x.isRp = true → T.discWait = false → (t.port p).tc.st = .attachWaitSnk) ∧
        (T.st = .unattachedSrc → x = .rd → T.discWait = false → (t.port p).tc.st = .attachWaitSrc) ∧
        (T.st = .attachedSrc → (t.port p).tc.st = .attachedSrc) ∧ (t.port p).pw = (s.port p).pw ∧ (t.port p).ct = (s.port p).ct) ∧
    (∀ pin mv, (T.reads pin = false ∨ 6000 < mv) → exec (.ccTerminationChange p pin mv) s = .next s) ∧
    (∀ pin, T.st ≠ .disabled → Answers (.ccOverVoltage p pin) s fun t =>
      (match pin with | .cc1 => (t.port p).tc.cc1 = .overV ∧ (t.port p).tc.iso1 = true | .cc2 => (t.port p).tc.cc2 = .overV ∧ (t.port p).tc.iso2 = true) ∧
      (t.port p).tc.st = .errorRecovery ∧ (t.port p).tc.pres = .openP ∧ (t.port p).tc.evt.getLsbD 5 = true ∧
      (t.port p).tc.vconn = false ∧ (t.port p).pw.mode = .off ∧ ((s.port p).pw.lid = false → (t.port p).pw.dscHw = true) ∧
      otherPorts p s t ∧ t.ldg = s.ldg) ∧
    (∀ pin, T.st ≠ .errorRecovery → exec (.ccIsolationClose p pin) s = .next (s.modTc p fun t =>
      match pin with
      | .cc1 => { t with iso1 := false, cc1 := if t.cc1 = .overV then .openT else t.cc1 }
      | .cc2 => { t with iso2 := false, cc2 := if t.cc2 = .overV then .openT else t.cc2 }))

/-- The debounce, toggle and try timers of R45 move the state machine as its table says. -/
def Obligations.TypecTimers : Prop :=
  ∀ (p : PortId) (s : State), s.tcOn p = true →
    let T := (s.port p).tc
    let c := T.ctl.toNat
    let ends (i : Instr) (st : TcState) : Prop := Answers i s fun t => (t.port p).tc.st = st ∧ onlyPortCore p s t ∧
      (t.port p).tc.cc1 = T.cc1 ∧ (t.port p).tc.cc2 = T.cc2 ∧ (t.port p).tc.ctl = T.ctl
    (∀ vb, T.st = .attachWaitSrc → T.rdPins = 1 → vb < 800 → T.ctl.getLsbD 13 = true → ends (.tccDebounceExpiry p vb) .wetCheck) ∧
    (∀ vb, T.st = .attachWaitSrc → T.rdPins = 1 → vb < 800 → T.ctl.getLsbD 13 = false → c / 16 % 4 ≠ 2 →
      ends (.tccDebounceExpiry p vb) .attachedSrc) ∧
    (∀ vb, T.st = .attachWaitSnk → T.rpPins = 1 → 4000 ≤ vb → T.snkDry = true → c / 16 % 4 ≠ 1 →
      ends (.tccDebounceExpiry p vb) .attachedSnk) ∧
    (∀ vb, T.st = .attachWaitSnk → T.rpPins = 2 → ends (.tccDebounceExpiry p vb) .debugSnk) ∧
    (T.st = .attachWaitSnk → T.rpPins = 0 → c % 4 = 0 → ends (.tpdDebounceExpiry p) .unattachedSnk) ∧
    (T.st = .attachWaitSrc → T.rdPins = 0 → c % 4 = 1 → ends (.tpdDebounceExpiry p) .unattachedSrc) ∧
    (T.st = .trySnk → T.rpPins = 1 → T.tryOver = true → ends (.ttryCcDebounceExpiry p) .attachedSnk) ∧
    (T.st = .trySrc → T.rdPins = 1 → ends (.ttryCcDebounceExpiry p) .attachedSrc) ∧
    (T.st = .unattachedSnk → c % 4 = 2 → T.discWait = false → T.rpPins = 0 → T.rdPins = 0 → ends (.tdrpToggle p) .unattachedSrc) ∧
    (T.st = .unattachedSrc → c % 4 = 2 → T.discWait = false → T.rpPins = 0 → T.rdPins = 0 → ends (.tdrpToggle p) .unattachedSnk) ∧
    ((c % 4 ≠ 2 ∨ T.discWait = true) → exec (.tdrpToggle p) s = .next s) ∧
    (T.st = .trySnk → T.rpPins = 0 → ends (.tdrpTryExpiry p) .tryWaitSrc) ∧
    (T.st = .trySrc → T.rdPins = 0 → ends (.tdrpTryExpiry p) .tryWaitSnk) ∧
    (T.st = .tryWaitSrc → T.rdPins = 0 → T.rpPins = 0 → ends (.tdrpTryExpiry p) .unattachedSnk) ∧
    (T.st = .trySrc → T.rdPins = 0 → ends (.ttryTimeout p) .tryWaitSnk)

/-- Attach and detach (R45-R47), tVBUSON (R45), ErrorRecovery's end, and VCONN that trips, reverses or loses its input
(R50). A detach leaves the gates off, the discharge on, VCONN off, TYPE = none and the link off. The model's choices:
logs 22, 52. -/
def Obligations.AttachAndDetach : Prop :=
  ∀ (p : PortId) (s : State),
    let P := s.port p
    let T := P.tc
    let c := T.ctl.toNat
    let gone (t : State) : Prop := (t.port p).tc.attached = false ∧ (t.port p).tc.evt.getLsbD 1 = true ∧ (t.port p).pw.mode = .off ∧
      (P.pw.lid = false → (t.port p).pw.dscHw = true) ∧ (t.port p).tc.vconn = false ∧ (t.port p).ct.typ = 0 ∧ (t.port p).ct.swap = .none ∧
      (t.port p).pd.tx = none ∧ (t.port p).pd.hrwait = false ∧ otherPorts p s t ∧ t.ldg = s.ldg
    (s.tcOn p = true →
      (T.st = .attachedSrc → T.activeCc ≠ .rd → Answers (.srcDisconnect p) s gone) ∧
      (∀ vb, T.st = .attachedSnk → vb < 3670 → P.ct.swap = .none → P.ct.hrseq = .none → Answers (.snkVbusLost p vb) s gone) ∧
      (∀ vb, 3670 ≤ vb → exec (.snkVbusLost p vb) s = .next (s.modPw p fun w => { w with vbPin := vb })) ∧
      (∀ vb, T.st = .attachedSrc → (vb < 4750 ∨ 5500 < vb) → P.ct.swap = .none → P.ct.hrseq = .none → P.ct.moving = false →
        Answers (.vbusOnTimeout p vb) s fun t => (t.port p).tc.st = .errorRecovery ∧ (t.port p).tc.evt.getLsbD 10 = true ∧
          (t.port p).pw.mode = .off ∧ otherPorts p s t) ∧
      (∀ vb, T.st = .attachWaitSrc → T.debounced = true → vb < 800 → T.rdPins = 1 → T.ctl.getLsbD 13 = false → c / 16 % 4 ≠ 2 →
        Answers (.srcAttachVbLow p vb) s fun t => (t.port p).tc.st = .attachedSrc ∧ (t.port p).tc.evt.getLsbD 0 = true ∧
          (t.port p).pd.ctl.getLsbD 4 = true ∧ (t.port p).ct.attpr = true ∧ onlyPortCore p s t) ∧
      (∀ vb, T.st = .attachWaitSnk → T.debounced = true → 4000 ≤ vb → T.snkDry = true → T.rpPins = 1 → c / 16 % 4 ≠ 1 →
        Answers (.sinkVbusDetect p vb) s fun t => (t.port p).tc.st = .attachedSnk ∧ (t.port p).tc.evt.getLsbD 0 = true ∧
          (t.port p).pd.ctl.getLsbD 4 = false ∧ (t.port p).ct.attpr = false ∧ onlyPortCore p s t) ∧
      (T.st = .errorRecovery → T.iso1 = false → T.iso2 = false → T.toDis = true →
        Answers (.terrorRecoveryExpiry p) s fun t => (t.port p).tc.st = .disabled ∧ onlyPort p s t) ∧
      (T.st = .errorRecovery → T.iso1 = false → T.iso2 = false → T.toDis = false → c % 4 = 0 → T.rpPins = 0 →
        Answers (.terrorRecoveryExpiry p) s fun t => (t.port p).tc.st = .unattachedSnk ∧ onlyPort p s t)) ∧
    (s.ppOn p = true → T.vconn = true →
      (∀ x, (x = (Instr.vconnOcTrip p, 6) ∨ x = (Instr.vconnReverse p, 7)) → Answers x.1 s fun t => onlyPortCore p s t ∧
        (t.port p).tc = { T with vconn := false, evt := setB T.evt x.2 true } ∧ (t.port p).pw = P.pw)) ∧
    (s.aoOn = true → s.present p = true → ∀ g : Fin 2, Answers (.vconnInputUv g) s fun t =>
      (p.val / 4 = g.val → T.vconn = true → (t.port p).tc.vconn = false ∧ (t.port p).tc.evt.getLsbD 8 = true) ∧
      (p.val / 4 ≠ g.val → t.port p = P) ∧ t.ldg = s.ldg)

/-- Wet checks (R54-R57): a wet pin takes the port to Wet and is counted; the readings of the measured pins are kept;
an SBU pin above 6 V is a wet verdict; a dry commanded check is answered; with SNKWET a wet verdict of the sink role
is counted and not acted on; a check under which the partner's termination changed has no verdict; Wet is rechecked;
the check and override commands. The model's choices: logs 103, 111, 112, 113, 117. -/
def Obligations.WetChecks : Prop :=
  ∀ (p : PortId) (s : State),
    let T := (s.port p).tc
    let thr := T.wetcfg.toNat / 256 * 5000
    let acted : Prop := T.st ≠ .wet ∧ T.override = false ∧ (T.snkRole T.check = false ∨ T.ctl.getLsbD 14 = false)
    let wet (t : State) : Prop := (t.port p).tc.st = .wet ∧ (t.port p).tc.pres = .openP ∧ (t.port p).tc.wetcnt = satInc T.wetcnt ∧
      (t.port p).tc.evt.getLsbD 3 = true ∧ (t.port p).tc.check = .none ∧ onlyPortCore p s t ∧ (t.port p).pw = (s.port p).pw
    (s.tcOn p = true →
      (∀ r, T.check ≠ .none → T.gone = false → acted → wetVerdict T.meas r thr = some true →
        Answers (.wetCheckEnd p r) s fun t => wet t ∧
          (t.port p).tc.wetz = Vector.ofFn (fun i => if T.meas.getLsbD i.val then wetZ (wetImp r i.val) else 0xFFFF)) ∧
      (∀ r, T.check = .commanded → T.gone = false → T.asked = true → T.st ≠ .wet → T.override = false →
        wetVerdict T.meas r thr = some false → Answers (.wetCheckEnd p r) s fun t => onlyPort p s t ∧
          (t.port p).tc.st = T.st ∧ (t.port p).tc.check = .none ∧ (t.port p).tc.wetcmd.cst = 1 ∧ (t.port p).tc.wetcnt = T.wetcnt) ∧
      (∀ r, T.check = .commanded → T.gone = false → T.st = .unattachedSnk → T.ctl.getLsbD 14 = true →
        wetVerdict T.meas r thr = some true → Answers (.wetCheckEnd p r) s fun t => onlyPortCore p s t ∧
          (t.port p).tc.st = .unattachedSnk ∧ (t.port p).tc.check = .none ∧ (t.port p).tc.wetcnt = satInc T.wetcnt ∧
          (t.port p).tc.evt.getLsbD 3 = true) ∧
      (∀ r, T.check ≠ .none → (T.gone = true ∨ r.left = true) → Answers (.wetCheckEnd p r) s fun t => onlyPort p s t ∧
        (t.port p).tc.wetcnt = T.wetcnt ∧ (t.port p).tc.evt = T.evt ∧ (T.asked = true → (t.port p).tc.wetcmd.cst = 1)) ∧
      (∀ r, T.check = .none → exec (.wetCheckEnd p r) s = .next s) ∧
      (T.check ≠ .none → acted → Answers (.wetCheckSbuOv p) s fun t => wet t ∧ (t.port p).tc.wetz = T.wetz ∧ (t.port p).tc.wetd = T.wetd) ∧
      (T.check = .none → exec (.wetCheckSbuOv p) s = .next s) ∧
      (T.st = .wet → T.check = .none → exec (.wetRecheck p) s = .next (s.modTc p fun t =>
        { t with check := .recheck, meas := 0xF, gone := false }))) ∧
    (s.regsUp = true → s.present p = true →
      ((T.st = .unattachedSnk ∨ T.st = .unattachedSrc) → T.check = .none → Answers (.wetCheckNow p) s fun t =>
        t = (s.modTc p fun x => { x with
          wetcmd := { cmd := 0x5A, cst := 3 }, asked := true, check := .commanded, gone := false, meas := (t.port p).tc.meas }) ∧
        ∀ i : Fin 4, (t.port p).tc.meas.getLsbD i.val = (decide (T.st = .unattachedSrc) || decide (2 ≤ i.val) ||
          (decide (i.val = 0) && !T.cc1.isRp) || (decide (i.val = 1) && !T.cc2.isRp))) ∧
      ((T.st = .attachedSrc ∨ T.st = .attachedSnk) →
        exec (.wetCheckNow p) s = .next (s.modTc p fun t => { t with wetcmd := { cmd := 0x5A, cst := 2 } })) ∧
      exec (.wetOverride p) s = .next (s.modTc p fun t => { t with override := true, wetcmd := { cmd := 0xD7, cst := 4 } }))

/-! ### Commits (R375) and contracts (07) -/

/-- A commit that meets the ranges and conditions of its block's rule makes the staged values live and answers 0xC5
without REF; the conditions are written out on the state (R58, R161, R213, R239, R240, R265, R266, R287, R362, R244).
One that is judged otherwise changes only BLOCK_COMMIT, with its reason. REVERT puts the live values into the staging
copies (R375). The model's choices: logs 47, 64, 94, 102, 130. -/
def Obligations.CommitsAreJudged : Prop :=
  ∀ (p : PortId) (s : State), s.regsUp = true →
    let P := s.port p
    let T := P.tc
    let C := P.ct
    let W := P.pw
    let X := P.sp
    let M := P.mn
    let grant := s.ldg.grant[p]
    let within (lo n hi : Nat) : Prop := lo ≤ n ∧ n ≤ hi
    (s.present p = true →
      (fld T.ctlS 8 3 ≤ 4 → fld T.ctlS 6 2 ≠ 3 → fld T.ctlS 4 2 ≠ 3 → within 10 (fld T.wetcfgS 8 8) 160 →
        within 1 (fld T.wetcfgS 0 8) 120 → (fld T.ctlS 4 2 ≠ 0 → fld T.ctlS 0 2 = 2) →
        (fld T.ctlS 6 2 ≤ fld T.ctl 6 2 ∨ (fld T.ctlS 6 2 = 1 ∧ 7500 ≤ grant) ∨ 15000 ≤ grant) →
        (fld T.ctlS 0 2 = fld T.ctl 0 2 ∨ fld T.ctlS 0 2 = 3 ∨ T.st = .disabled ∨ T.st = .unattachedSnk ∨ T.st = .unattachedSrc ∨
          (T.st = .attachedSnk ∧ T.deadbat = true ∧ (fld T.ctlS 0 2 = 0 ∨ fld T.ctlS 0 2 = 2))) →
        Answers (.tcCommit p) s fun t => otherPorts p s t ∧ t.ldg = s.ldg ∧ (t.port p).tc.ctl = T.ctlS ∧
          (t.port p).tc.wetcfg = T.wetcfgS ∧ (t.port p).tc.com = commitResult 0 ∧ (t.port p).tc.committed = true) ∧
      (∀ r, T.pend = true → s.tcJudge p = r → r ≠ 0 → exec (.tcCommit p) s = .next (s.modTc p fun t => { t with com := commitResult r })) ∧
      (let typ := fld C.concfgS 8 3
       let pos := fld C.concfgS 16 4
       let epr := C.concfgS.getLsbD 15
       let cabEpr := C.concfgS.getLsbD 14
       let v := C.convS.toNat
       let i := C.coniS.toNat
       let arm := C.frsS.getLsbD 7
       T.attached = true → (arm = true → fld C.frsS 10 2 ≠ 0) → pos ≤ 11 →
        ((typ = 0 ∧ v = 0) ∨ (typ = 1 ∧ within 1 pos 7 ∧ within 5000 v 20000 ∧ v % 50 = 0) ∨
          (typ = 2 ∧ within 1 pos 7 ∧ within 3300 v 21000 ∧ v % 20 = 0) ∨
          (typ = 3 ∧ within 1 pos 7 ∧ within 9000 v 20000 ∧ v % 100 = 0) ∨
          (typ = 4 ∧ 8 ≤ pos ∧ epr = true ∧ (v = 28000 ∨ v = 36000 ∨ v = 48000)) ∨
          (typ = 5 ∧ 8 ≤ pos ∧ epr = true ∧ within 15000 v 48000 ∧ v % 100 = 0)) →
        i ≤ 5000 → ((C.swap = .none ∧ C.hrseq = .none) ∨ typ = 0) → (s.epren = false → typ < 4 ∧ epr = false ∧ v ≤ 21000) →
        (C.concfg.getLsbD 15 = true → 4 ≤ C.typ → C.typ ≤ 5 → epr = true) →
        (T.st = .attachedSrc → (i ≤ 3000 ∨ C.concfgS.getLsbD 13 = true) ∧ (v ≤ 21000 ∨ cabEpr = true) ∧
          (epr = true → cabEpr = true) ∧ v * i ≤ 1000 * grant) →
        (arm = true → fld T.ctl 0 2 = 2 ∧ T.st = .attachedSnk ∧ C.swap = .none ∧
          rpMw (fld C.frsS 10 2 - 1) + C.power ≤ grant) →
        Answers (.pdCommit p) s fun t => onlyPort p s t ∧ (t.port p).ct.conv = C.convS ∧ (t.port p).ct.coni = C.coniS ∧
          (t.port p).ct.concfg = C.concfgS ∧ (t.port p).ct.frs &&& 0x0C80 = C.frsS &&& 0x0C80 ∧
          (t.port p).ct.com = commitResult 0) ∧
      (∀ r, C.pend = true → s.pdJudge p = r → r ≠ 0 → exec (.pdCommit p) s = .next (s.modCt p fun c => { c with com := commitResult r })) ∧
      (within 20 (fld W.limS 24 8) 250 → within 10 (fld W.limS 16 8) 100 → within 500 (fld W.limS 0 16) 8000 →
        within 5 (fld W.cfgS 24 8) 60 → within 1 (fld W.cfgS 16 8) 100 → within 2 (fld W.cfgS 8 8) 50 → within 2 (fld W.cfgS 4 4) 15 →
        within 10 (fld W.pgwS 0 8) 100 →
        12 * max (fld W.limS 0 16 * 100) (5000 * (100 + fld W.limS 16 8)) * W.rsns ≤ fld W.limS 24 8 * 10000000 →
        exec (.pwCommit p) s = .next (s.modPw p fun w =>
          { w with lim := w.limS, cfg := w.cfgS, pgw := w.pgwS, com := commitResult 0 })) ∧
      (∀ r, W.pend = true → W.judge = r → r ≠ 0 → exec (.pwCommit p) s = .next (s.modPw p fun w => { w with com := commitResult r })) ∧
      (within 1 (fld X.cfgS 16 8) 30 → fld X.cfgS 8 8 ≤ 50 → within 500 X.iclfsS.toNat 20000 → X.rdropS.toNat ≤ 1000 →
        ((X.cen = false ∨ (X.vminS = X.vmin ∧ X.vmaxS = X.vmax ∧ fld X.cfgS 0 2 = fld X.cfg 0 2 ∧ fld X.cfgS 3 1 = fld X.cfg 3 1 ∧
            X.iclfsS = X.iclfs)) → X.vminS.toNat ≤ 4750 → 5500 ≤ X.vmaxS.toNat → X.vminS.toNat + 5000 ≤ X.vmaxS.toNat →
          Answers (.spCommit p) s fun t => onlyPortCore p s t ∧ (t.port p).sp.vmin = X.vminS ∧ (t.port p).sp.vmax = X.vmaxS ∧
            (t.port p).sp.cfg = X.cfgS ∧ (t.port p).sp.iclfs = X.iclfsS ∧ (t.port p).sp.rdrop = X.rdropS ∧
            (t.port p).sp.com = commitResult 0) ∧
        (X.cen = true → X.iclfsS ≠ X.iclfs → Answers (.spCommit p) s fun t => onlyPort p s t ∧
          (t.port p).sp.com = commitResult 4 ∧ (t.port p).sp.vmin = X.vmin ∧ (t.port p).sp.vmax = X.vmax ∧
          (t.port p).sp.cfg = X.cfg ∧ (t.port p).sp.iclfs = X.iclfs ∧ (t.port p).sp.rdrop = X.rdrop)) ∧
      (let ovp := fld M.vlvlS 16 16
       let uvp := fld M.vlvlS 0 16
       let ocp := fld M.ilvlS 16 16
       within 1 (fld M.ctlS 24 8) 128 → within 1 (fld M.ctlS 20 4) 8 → within 1 (fld M.ctlS 16 4) (fld M.ctlS 20 4) →
        1 ≤ fld M.ctlS 0 16 → within 1000 ovp 60000 → uvp ≤ 59000 → within 100 ocp 50000 → within 50 (fld M.ilvlS 0 16) 5000 →
        within 5 (fld M.trkS 16 8) 100 → within 15 (fld M.trkS 8 8) 50 → within 15 (fld M.trkS 0 8) 25 →
        (M.cfgS.getLsbD 1 = true → uvp + 1000 ≤ ovp ∧ winHi W.pgwin C.typ C.conv.toNat < ovp * 1000 ∧
          uvp * 1000 < winLo W.pgwin C.typ C.conv.toNat (P.foldback P.ms.i.toInt)) →
        (M.cfgS.getLsbD 2 = true → P.iLim ≤ ocp ∧ ocp ≤ W.ocpCap) →
        Answers (.mnCommit p) s fun t => onlyPort p s t ∧ (t.port p).mn.ctl = M.ctlS ∧ (t.port p).mn.cfg = M.cfgS ∧
          (t.port p).mn.vlvl = M.vlvlS ∧ (t.port p).mn.ilvl = M.ilvlS ∧ (t.port p).mn.trk = M.trkS ∧
          (t.port p).mn.com = commitResult 0 ∧ (t.port p).mn.hist = M.hist ∧ (t.port p).mn.per = 0 ∧
          (t.port p).mn.begun = false) ∧
      (∀ r, M.pend = true → P.mnJudge M.staging = r → r ≠ 0 → exec (.mnCommit p) s = .next (s.modMn p fun m =>
        { m with com := commitResult r, judged := some (s.us, M.live, M.staging) })) ∧
      exec (.revert (.tc p)) s = .next (s.modTc p fun t => { t with ctlS := t.ctl, wetcfgS := t.wetcfg, com := t.com.reverted }) ∧
      exec (.revert (.pd p)) s = .next (s.modCt p fun c =>
        { c with convS := c.conv, coniS := c.coni, concfgS := c.concfg, frsS := c.frs, com := c.com.reverted }) ∧
      exec (.revert (.pw p)) s = .next (s.modPw p fun w =>
        { w with limS := w.lim, cfgS := w.cfg, pgwS := w.pgw, com := w.com.reverted }) ∧
      exec (.revert (.sp p)) s = .next (s.modSp p fun x =>
        { x with vminS := x.vmin, vmaxS := x.vmax, cfgS := x.cfg, iclfsS := x.iclfs, rdropS := x.rdrop, com := x.com.reverted }) ∧
      exec (.revert (.mn p)) s = .next (s.modMn p fun m =>
        { m with ctlS := m.ctl, cfgS := m.cfg, vlvlS := m.vlvl, ilvlS := m.ilvl, trkS := m.trk, com := m.com.reverted })) ∧
    exec (.revert .ldg) s = .next (s.modLdg fun l => { l with cfgS := l.cfg, com := l.com.reverted }) ∧
    exec (.revert .fab) s = .next (s.modFab fun f =>
      { f with cfgS := f.cfg, timingS := f.timing, floorS := f.floor, rootcapS := f.rootcap, lcapS := f.lcap, com := f.com.reverted }) ∧
    exec (.revert .fed) s = .next (s.modFed fun f => { f with
      cfgS := f.cfg, f1 := { f.f1 with capS := f.f1.cap, ewS := f.f1.ew }, f2 := { f.f2 with capS := f.f2.cap, ewS := f.f2.ew }
      buscapS := f.buscap, shedcapS := f.shedcap, lcfgS := f.lcfg, com := f.com.reverted }) ∧
    exec (.revert .hbs) s = .next (s.modHbs fun h => { h with cfgS := h.cfg, com := h.com.reverted }) ∧
    (fld s.ldg.cfgS 0 2 ≠ 3 → fld s.ldg.cfgS 8 8 ≤ 100 → s.used ≤ availOf (fld s.ldg.cfgS 0 2) s.fed.feedcap s.fab.term →
      Answers .ldgCommit s fun t => t = { s with ldg := t.ldg, cores := t.cores } ∧ t.ldg.cfg = s.ldg.cfgS ∧
        t.ldg.grant = s.ldg.grant ∧ t.ldg.com = commitResult 0) ∧
    (∀ r, s.ldg.cfgS ≠ s.ldg.cfg → s.ldgJudge = r → r ≠ 0 → exec .ldgCommit s = .next (s.modLdg fun l => { l with com := commitResult r })) ∧
    (let F := s.fab
     let tm := F.timingS
     let n := F.staged
     fld F.cfgS 13 2 ≠ 3 → within 10 (fld tm 22 10) 1000 → within 5 (fld tm 13 9) 500 → within 1 (fld tm 4 9) 500 → within 1 (fld tm 0 4) 15 →
      fld tm 13 9 + 2 * fld tm 4 9 ≤ fld tm 22 10 →
      (F.cfgS.getLsbD 15 = F.cfg.getLsbD 15 ∨ (F.xin = 0 ∧ F.child[0].x = 0 ∧ F.child[1].x = 0)) →
      (∀ k : Fin 2, F.cfg.getLsbD (1 + k.val) = true → F.cfgS.getLsbD (1 + k.val) = false →
        F.up[(⟨1 + k.val, by omega⟩ : Fin 3)] = false ∧ F.child[k].x = 0) →
      (s.pAvail ≤ s.availWith n ∨ s.used ≤ s.availWith n) →
      (∀ k : Fin 2, F.lcap[k].toNat ≤ F.lcapS[k].toNat ∨ n.child[k].x + n.child[k].f ≤ F.lcapS[k].toNat) →
      Answers .fabCommit s fun t => t = { s with fab := t.fab, ldg := t.ldg, cores := t.cores } ∧ t.fab.cfg = F.cfgS ∧
        t.fab.timing = F.timingS ∧ t.fab.floor = F.floorS ∧ t.fab.rootcap = F.rootcapS ∧ t.fab.lcap = F.lcapS ∧
        t.fab.com = commitResult 0) ∧
    (∀ r, s.fab.pend = true → s.fabJudge = r → r ≠ 0 → exec .fabCommit s = .next (s.modFab fun f => { f with com := commitResult r })) ∧
    (let F := s.fed
     let n : Fed := { F.staged with ew := F.staged.ewHolds }
     let ewIn (w : Word) : Prop := fld w 16 16 ≤ 60000 ∧ within 5 (fld w 0 8) 100 ∧ fld w 16 16 + fld w 0 8 * 100 ≤ 60000
     let resume := (fld F.lcfgS 6 10 + fld F.lcfgS 0 6) * 100
     let v := min 12000 (resume - 500)
     let a := availOf (fld s.ldg.cfg 0 2) n.feedcap s.fab.term
     within 10 (fld F.cfgS 24 8) 200 → within 10 (fld F.cfgS 16 8) 200 → within 1 (fld F.cfgS 8 8) 100 → ewIn F.f1.ewS → ewIn F.f2.ewS →
      within 47 (fld F.lcfgS 16 16) 4700 → within 80 (fld F.lcfgS 6 10) 450 → within 10 (fld F.lcfgS 0 6) 63 → resume < s.pins.vhv →
      24000000000 ≤ 8 * fld F.lcfgS 16 16 * (v * v - 25000000) → (s.pAvail ≤ a ∨ s.used ≤ a) →
      Answers .fedCommit s fun t => t = { s with fed := t.fed, ldg := t.ldg, cores := t.cores } ∧ t.fed.cfg = F.cfgS ∧
        t.fed.buscap = F.buscapS ∧ t.fed.shedcap = F.shedcapS ∧ t.fed.lcfg = F.lcfgS ∧ t.fed.f1.cap = F.f1.capS ∧
        t.fed.f2.cap = F.f2.capS ∧ t.fed.f1.ew = F.f1.ewS ∧ t.fed.f2.ew = F.f2.ewS ∧ t.fed.com = commitResult 0) ∧
    (∀ r, s.fed.pend = true → s.fedJudge = r → r ≠ 0 → exec .fedCommit s = .next (s.modFed fun f => { f with com := commitResult r })) ∧
    (s.hbs.cfgS ≠ s.hbs.cfg → (s.hbs.cfgS.toNat / 256 < 10 ∨ 100 < s.hbs.cfgS.toNat / 256) →
      exec .hbsCommit s = .next (s.modHbs fun h => { h with com := commitResult 1 })) ∧
    (10 ≤ s.hbs.cfgS.toNat / 256 → s.hbs.cfgS.toNat / 256 ≤ 100 → Answers .hbsCommit s fun t => t = { s with hbs := t.hbs } ∧
      t.hbs.cfg = s.hbs.cfgS ∧ t.hbs.modeNow = s.hbs.cfgS.getLsbD 0 ∧ t.hbs.com = commitResult 0)

/-- Guards and swaps (R162, R168, R170, R174, R175): MOVING times out; a PPS or EPR guard asks for a Hard Reset;
PRS_BEGIN ends the record and opens the swap; TERM changes the role in one tick; SWAP_END closes it; ERRREC and the
backstop go to ErrorRecovery. The model's choice: log 137. The model's choice: log 137. The model's choice: log 137.
The model's choice: log 137. -/
def Obligations.GuardsAndSwaps : Prop :=
  ∀ (p : PortId) (s : State),
    let P := s.port p
    let rcmdIs (t : State) (c st : Byte) : Prop := (t.port p).ct.rcmd = { cmd := c, cst := st }
    (s.ppOn p = true →
      (P.ct.moving = true → Answers (.movingTimeout p) s fun t => onlyPortCore p s t ∧
        (t.port p).ct = { P.ct with moving := false, movCnt := 0, cevt := setB P.ct.cevt 5 true }) ∧
      (P.ct.typ = 2 → P.tc.st = .attachedSrc → Answers (.ppsGuardExpiry p) s fun t => onlyPortCore p s t ∧
        (t.port p).pd.hrPend = true ∧ (t.port p).ct.cevt = setB P.ct.cevt 6 true) ∧
      (P.ct.typ ≠ 2 → exec (.ppsGuardExpiry p) s = .next s) ∧
      (P.ct.concfg.getLsbD 15 = true → P.tc.st = .attachedSrc → Answers (.eprGuardExpiry p) s fun t => onlyPortCore p s t ∧
        (t.port p).pd.hrPend = true ∧ (t.port p).ct.cevt = setB P.ct.cevt 6 true) ∧
      (P.ct.swap ≠ .none → Answers (.swapBackstopExpiry p) s fun t => (t.port p).tc.st = .errorRecovery ∧
        (t.port p).ct.cevt.getLsbD 7 = true ∧ (t.port p).pw.mode = .off ∧ otherPorts p s t) ∧
      (∀ vb, P.ct.swap ≠ .none → vb < 800 → Answers (.safe0 p vb) s fun t => onlyPortCore p s t ∧
        (t.port p).ct = { P.ct with cevt := setB P.ct.cevt 3 true } ∧ (t.port p).pw = { P.pw with vbPin := vb })) ∧
    (s.regsUp = true → s.present p = true →
      (P.tc.attached = true → P.ct.swap = .none → P.ct.hrseq = .none → Answers (.prsBegin p) s fun t => onlyPort p s t ∧
        (t.port p).ct.swap = (if P.pd.ctl.getLsbD 4 then .oldSource else .oldSink) ∧ (t.port p).ct.typ = 0 ∧
        (t.port p).ct.conv = 0 ∧ (t.port p).ct.concfg = P.ct.concfg &&& 0x6000 ∧ rcmdIs t 0x50 1) ∧
      ((P.tc.attached = false ∨ P.ct.swap ≠ .none ∨ P.ct.hrseq ≠ .none) →
        exec (.prsBegin p) s = .next (s.modCt p fun c => { c with rcmd := { cmd := 0x50, cst := 2 } })) ∧
      (P.ct.swap = .oldSink → P.tc.st = .attachedSnk → Answers (.term p) s fun t => onlyPort p s t ∧ (t.port p).tc.st = .attachedSrc ∧
        (t.port p).tc.pres = .rp ∧ (t.port p).pd.ctl = setB P.pd.ctl 4 (!P.pd.ctl.getLsbD 4) ∧ (t.port p).tc.pol = P.tc.pol ∧
        (t.port p).ct.termed = true ∧ (t.port p).tc.evt = P.tc.evt ∧ rcmdIs t 0x54 1) ∧
      (P.ct.swap = .oldSource → P.tc.st = .attachedSrc → P.pw.vbPin < 800 → Answers (.term p) s fun t => onlyPort p s t ∧
        (t.port p).tc.st = .attachedSnk ∧ (t.port p).tc.pres = .rd ∧ (t.port p).pd.ctl = setB P.pd.ctl 4 (!P.pd.ctl.getLsbD 4) ∧ rcmdIs t 0x54 1) ∧
      ((P.ct.swap = .none ∨ (P.ct.swap = .oldSource ∧ 800 ≤ P.pw.vbPin)) →
        exec (.term p) s = .next (s.modCt p fun c => { c with rcmd := { cmd := 0x54, cst := 2 } })) ∧
      (P.ct.termed = true → Answers (.swapEnd p) s fun t => onlyPort p s t ∧ (t.port p).ct.swap = .none ∧
        (t.port p).ct.frs.getLsbD 7 = false ∧ (t.port p).pw.faston = false ∧ rcmdIs t 0x45 1) ∧
      (P.ct.termed = false → exec (.swapEnd p) s = .next (s.modCt p fun c => { c with rcmd := { cmd := 0x45, cst := 2 } })) ∧
      (P.tc.attached = true → Answers (.errrec p) s fun t => (t.port p).tc.st = .errorRecovery ∧ (t.port p).pw.mode = .off ∧
        rcmdIs t 0x52 1 ∧ otherPorts p s t) ∧
      (P.tc.attached = false → exec (.errrec p) s = .next (s.modCt p fun c => { c with rcmd := { cmd := 0x52, cst := 2 } })))

/-- Fast role swap (R180, R206, R220) and the Hard Reset sequence (R181), step by step. The model's choices: logs 21,
48, 79. -/
def Obligations.FastSwapAndHardResetSequence : Prop :=
  ∀ (p : PortId) (s : State), s.ppOn p = true →
    let P := s.port p
    (P.tc.attached = true → P.ct.frs.getLsbD 7 = true → Answers (.frsSignal p) s fun t => onlyPortCore p s t ∧
      (t.port p).ct.swap = .frSwap ∧ (t.port p).ct.typ = 0 ∧ (t.port p).ct.cevt.getLsbD 0 = true) ∧
    (P.tc.attached = true → P.ct.frs.getLsbD 7 = false → Answers (.frsSignal p) s fun t => onlyPortCore p s t ∧
      (t.port p).ct = { P.ct with cevt := setB P.ct.cevt 2 true }) ∧
    (∀ vb, P.ct.swap = .frSwap → P.ct.frs.getLsbD 7 = true → P.ct.frsSrc = false → vb < 5500 → P.pw.pen = true → P.pw.lid = false →
      Answers (.fastSourcing p vb) s fun t => onlyPortCore p s t ∧ (t.port p).pw.mode = .sourceOn ∧ (t.port p).pw.phase = .running ∧
        (t.port p).pw.faston = true ∧ (t.port p).pw.fastHold = true ∧ (t.port p).pw.ga = true ∧ (t.port p).pw.gb = true ∧
        (t.port p).sp.cen = true ∧ (t.port p).sp.dir = true ∧ (t.port p).sp.vset = 5000 ∧ (t.port p).ct.cevt.getLsbD 1 = true) ∧
    exec (.fastSourcingHoldoffEnd p) s = .next (s.modPw p fun w => { w with fastHold := false }) ∧
    (P.ct.hrseq = .before4 → P.ct.hrStep3 = false → Answers (.hrPsHardReset p) s fun t => onlyPortCore p s t ∧
      (t.port p).ct.hrseq = .vbWait ∧ (t.port p).ct.hrStep3 = true ∧ (t.port p).tc = { P.tc with vconn := false } ∧
      (P.ct.hrSrc = true → (t.port p).pw.mode = .off ∧ (P.pw.lid = false → (t.port p).pw.dscHw = true) ∧ (t.port p).sp.cen = false) ∧
      (P.ct.hrSrc = false → (t.port p).pw = P.pw)) ∧
    (∀ vb, P.ct.hrseq = .vbWait → vb < 800 → Answers (.hrSafe0 p vb) s fun t => onlyPortCore p s t ∧ (t.port p).ct.hrseq = .goWait ∧
      (t.port p).tc.st = (if P.ct.attpr then .attachedSrc else .attachedSnk) ∧ (t.port p).pd.ctl.getLsbD 4 = P.ct.attpr ∧
      (t.port p).ct.cevt.getLsbD 3 = true) ∧
    (P.ct.hrseq = .goWait → P.ct.attpr = true → Answers (.hrgoSource p) s fun t => onlyPortCore p s t ∧
      (t.port p).ct = { P.ct with hrseq := .doneWait, hrTurn := true, cevt := setB P.ct.cevt 4 true }) ∧
    (P.ct.hrTurn = true → Answers (.hrTurnOnTimeout p) s fun t => (t.port p).tc.st = .errorRecovery ∧ otherPorts p s t) ∧
    (∀ vb, P.ct.hrseq = .goWait → P.ct.attpr = false → 4000 ≤ vb → Answers (.hrgoSink p vb) s fun t => onlyPortCore p s t ∧
      (t.port p).ct = { P.ct with hrseq := .doneWait, cevt := setB P.ct.cevt 4 true }) ∧
    (∀ vb, P.ct.hrseq = .goWait → P.ct.attpr = false → 3670 ≤ vb → Answers (.hrSinkTimeout p vb) s fun t => onlyPort p s t ∧
      (t.port p).ct.hrseq = .none ∧ (t.port p).pd.hrwait = false ∧ (t.port p).tc.st = P.tc.st)

/-! ### Power path and set point (08, 09) -/

/-- No trip was taken in this us, and the gates stand as they did at its begin (R198, R235; log 129). -/
def Sys2Proof.QuietUs (W : Pw) (us : Nat) : Prop := W.tripUs ≠ some us ∧ ∀ x, W.before = some x → x.1 ≠ us

/-- The port after the first trip of a us, with cause c (R197, R198). -/
def Sys2Proof.Tripped (p : PortId) (c : Nat) (s t : State) : Prop :=
  let P := s.port p
  let Q := t.port p
  onlyPortCore p s t ∧ Q.pw.lid = true ∧ Q.pw.lidAt = s.now ∧ Q.pw.mode = .off ∧ Q.pw.phase = .none ∧ Q.pw.ga = false ∧
    Q.pw.gb = false ∧ Q.pw.holdoff = true ∧ Q.pw.pg = false ∧ Q.sp.cen = false ∧ Q.sp.dir = P.sp.dir ∧
    Q.pw.trip.toNat / 2 ^ 8 % 16 = c ∧ Q.pw.ttime = s.now ∧ Q.pw.tripcnt = satInc P.pw.tripcnt ∧ Q.pw.evt.getLsbD 0 = true ∧
    Q.pw.dscHw = (if c = 0x0B then false else if P.tc.st = .attachedSnk then P.pw.dscHw else P.pw.dscHw || !(P.pw.lid && P.pw.lidDsc)) ∧
    Q.ct = P.ct

/-- Each trip takes the port to Lid with its cause in Pn_PW_TRIP; a second cause in the us of a trip joins its record,
which names the first of R198's table, and counts no second trip (R194, R196-R198, R202, R203, R207). The model's
choices: logs 89, 129, 132. -/
def Obligations.TripsSetLid : Prop :=
  ∀ (p : PortId) (s : State), s.ppOn p = true →
    let P := s.port p
    let W := P.pw
    (QuietUs W s.us →
      Answers (.hardshort p) s (fun t => Tripped p 1 s t ∧ (t.port p).tc = P.tc) ∧
      (s.pschk p = true → Answers (.passshort p) s (Tripped p 2 s)) ∧
      (W.limact = true → s.simmer p = false → Answers (.faultTimerExpiry p) s (Tripped p 7 s)) ∧
      (W.limact = true → s.simmer p = true → Answers (.faultTimerExpiry p) s (Tripped p 8 s)) ∧
      (W.limact = false → W.limOff ≠ some s.us → exec (.faultTimerExpiry p) s = .next s) ∧
      ((W.turn = .gateB ∨ (W.turn = .gateA ∧ W.limact = false) ∨ (W.mode = .idealDiode ∧ W.revoff = false)) →
        Answers (.gwrVgs p) s (Tripped p 9 s)) ∧
      ((W.mode = .sourceOn ∨ (W.mode = .idealDiode ∧ W.revoff = false ∧ W.limact = false)) →
        Answers (.gwrVds p) s (Tripped p 0x0A s)) ∧
      (W.mode ≠ .off → W.revoff = false → Answers (.pumpuv p) s (Tripped p 0x0C s)) ∧
      ((W.dsc = true ∨ P.ct.hrseq = .before4 ∨ P.ct.hrseq = .vbWait) → Answers (.dscfault p) s fun t => Tripped p 0x0B s t ∧
        (t.port p).pw.dscAct = false ∧ (t.port p).pw.lidDsc = true ∧
        (t.port p).tc.discWait = (P.tc.discWait || !P.tc.attached))) ∧
    (W.tripUs = some s.us → Answers (.hardshort p) s fun t => onlyPortCore p s t ∧ (t.port p).pw.lid = true ∧
      (t.port p).pw.trip.toNat / 2 ^ 8 % 256 = 1 ∧ (t.port p).pw.tripcnt = W.tripcnt ∧ (t.port p).pw.ttime = W.ttime ∧
      ∀ c, 1 < c → c ≤ 12 → fld W.trip 8 8 = c → (t.port p).pw.trip.getLsbD (15 + c) = true) ∧
    (s.pschk p = false → exec (.passshort p) s = .next s) ∧
    (W.dsc = false → P.ct.hrseq ≠ .before4 → P.ct.hrseq ≠ .vbWait → exec (.dscfault p) s = .next s)

/-- The turn-on of a source step by step, the limit loop, the ideal diode, the discharge, the hold-off and the base
current (R187, R188, R190, R192, R194, R199, R204, R205, R207). The model's choices: logs 45, 129. -/
def Obligations.PowerPathSteps : Prop :=
  ∀ (p : PortId) (s : State), s.ppOn p = true →
    let P := s.port p
    let W := P.pw
    (W.turn = .check → Answers (.turnOnCheckDone p) s fun t => onlyPort p s t ∧ (t.port p).pw = { W with turn := .gateB, mode := .sourceOn, phase := .inrush, gb := true }) ∧
    (W.turn = .check → Answers (.noconv p) s fun t => onlyPortCore p s t ∧ (t.port p).pw = { W with turn := .none, evt := setB W.evt 9 true }) ∧
    (W.turn = .gateB → exec (.gateBRisen p) s = .next (s.modPw p fun w => { w with turn := .gateA, ga := true })) ∧
    (W.turn = .gateA → W.limact = false → Answers (.inrushEnd p) s fun t => onlyPortCore p s t ∧
      (t.port p).pw = { W with turn := .none, phase := .running, evt := setB W.evt 1 true }) ∧
    (W.holdoff = true → W.defer = .off → exec (.holdoffEnd p) s = .next (s.modPw p fun w => { w with holdoff := false, hoAt := some s.us, defer := .off })) ∧
    (W.holdoff = true → W.defer = .sourceOn →
      exec (.holdoffEnd p) s = .next (s.modPw p fun w => { w with holdoff := false, hoAt := some s.us, defer := .off, turn := .check })) ∧
    (∀ ma vds, ((W.ga = true ∨ W.gb = true) → W.limact = false → W.fastHold = false → s.iEff p vds ≤ ma →
        Answers (.limitLoopEngage { port := p, ma, vds }) s fun t => onlyPortCore p s t ∧ (t.port p).pw.limact = true ∧
          (t.port p).pw.pg = false ∧ (t.port p).pw.mode = W.mode ∧ (t.port p).sp.trimok = false) ∧
      (ma < s.iEff p vds → exec (.limitLoopEngage { port := p, ma, vds }) s = .next s) ∧
      (W.limact = true → 100 * ma < 95 * s.iEff p vds → (W.mode ≠ .sourceOn ∨ W.phase ≠ .running ∨ P.mn.out.getLsbD 1 = false) →
        exec (.limitLoopRelease { port := p, ma, vds }) s = .next (s.modPw p fun w => { w with limact := false, limOff := some s.us })) ∧
      (W.limact = true → 100 * ma < 95 * s.iEff p vds → W.mode = .sourceOn → W.phase = .running → P.mn.out.getLsbD 1 = true →
        QuietUs W s.us → Answers (.limitLoopRelease { port := p, ma, vds }) s fun t => onlyPortCore p s t ∧ (t.port p).pw.lid = true ∧
          (t.port p).pw.mode = .off ∧ (t.port p).pw.trip.toNat / 2 ^ 8 % 16 = 6) ∧
      (95 * s.iEff p vds ≤ 100 * ma → exec (.limitLoopRelease { port := p, ma, vds }) s = .next s)) ∧
    (s.simmer p = false → ∀ vds, s.iEff p vds = (if W.phase = .inrush then fld W.lim 0 16 else P.iBase * (100 + fld W.lim 16 8) / 100)) ∧
    (s.simmer p = true → ∀ vds, s.iEff p vds * max vds 500 ≤ fld W.cfg 24 8 * 1000000 + max vds 500) ∧
    (W.mode = .idealDiode → W.revoff = false → W.faston = false → Answers (.idealDiodeReverseOff p) s fun t => onlyPortCore p s t ∧
      (t.port p).pw.revoff = true ∧ (t.port p).pw.ga = false ∧ (t.port p).pw.gb = false ∧ (t.port p).pw.mode = .idealDiode ∧
      (t.port p).pw.lid = W.lid ∧ (t.port p).pw.revcnt = satInc W.revcnt ∧ (t.port p).pw.evt.getLsbD 4 = true) ∧
    (W.mode = .idealDiode → W.revoff = true → W.holdoff = false → Answers (.idealDiodeResume p) s fun t => onlyPortCore p s t ∧
      (t.port p).pw = { W with revoff := false, ga := true, gb := false, evt := setB W.evt 5 true }) ∧
    exec (.ibaseHoldExpiry p) s = .next (s.modPw p fun w => { w with ibaseKeep := none }) ∧
    (∀ vb, W.dscHw = true → vb < 800 → Answers (.dscdone p vb) s fun t => onlyPortCore p s t ∧
      (t.port p).pw = { W with dscHw := false, vbPin := vb, evt := setB W.evt 8 true }) ∧
    (s.aoOn = true → Answers .v5GateDrop s fun t => (t.port p).pw.mode = .off ∧ (t.port p).pw.ga = false ∧ (t.port p).pw.gb = false ∧
      (t.port p).pw.evt.getLsbD 10 = true ∧ (t.port p).pw.lid = W.lid ∧ (t.port p).tc = P.tc ∧ t.ldg = s.ldg)

/-- PEN = 0 holds both gates off; PEN 0 and then 1 clears Lid after 500 ms and sets LIDEARLY before; an arbiter write
of 1 is ignored; RSNS is taken in range while the gates are off; a ramp ends at VSET; the trim loop waits one period
after it (R21, R197, R200, R201, R219, R221). The model's choice: log 46. The model's choice: log 46. The model's
choice: log 46. The model's choice: log 46. -/
def Obligations.PathRegistersAndRamp : Prop :=
  ∀ (p : PortId) (s : State),
    let P := s.port p
    let W := P.pw
    (s.regsUp = true → s.present p = true →
      (∀ w, Answers (.penWrite p w false) s fun t => onlyPortCore p s t ∧ (t.port p).pw.pen = false ∧ (t.port p).pw.mode = .off ∧
        (t.port p).pw.ga = false ∧ (t.port p).pw.gb = false ∧ (t.port p).pw.lid = W.lid) ∧
      exec (.penWrite p .arbiter true) s = .next s ∧
      (∀ w, w ≠ .arbiter → W.lid = true → W.pen = false → W.lidOk = true → Answers (.penWrite p w true) s fun t => onlyPortCore p s t ∧
        (t.port p).pw.lid = false ∧ (t.port p).pw.evt.getLsbD 6 = true ∧ (t.port p).pw.pen = true ∧ (t.port p).pw.mode = W.mode) ∧
      (∀ w, w ≠ .arbiter → W.lid = true → W.pen = false → W.lidOk = false → Answers (.penWrite p w true) s fun t => onlyPortCore p s t ∧
        (t.port p).pw.lid = true ∧ (t.port p).pw.evt.getLsbD 7 = true) ∧
      (∀ v : Byte, W.mode = .off → 20 ≤ v.toNat → v.toNat ≤ 200 → limitOrderBad W.hslvl W.inrlim W.runmarg v.toNat = false →
        Answers (.rsnsWrite p v) s fun t => onlyPort p s t ∧ (t.port p).pw.rsns = v.toNat ∧ (t.port p).pw.pen = W.pen) ∧
      (∀ v : Byte, (W.mode ≠ .off ∨ v.toNat < 20 ∨ 200 < v.toNat) → exec (.rsnsWrite p v) s = .next s)) ∧
    (s.ppOn p = true →
      (P.sp.slewing = true → P.sp.ramp = P.sp.vset → Answers (.slewEnd p) s fun t => onlyPortCore p s t ∧
        (t.port p).sp = { P.sp with slewing := false, wait := 2, evt := setB P.sp.evt 2 true }) ∧
      ((P.sp.slewing = false ∨ P.sp.ramp ≠ P.sp.vset) → exec (.slewEnd p) s = .next s) ∧
      (P.trimCan = true → 2 ≤ P.sp.wait → Answers (.trimEval p) s fun t => onlyPort p s t ∧ (t.port p).sp.wait = P.sp.wait - 1 ∧
        (t.port p).sp.corr = P.sp.corr ∧ (t.port p).sp.trimok = false) ∧
      (P.trimCan = true → P.sp.wait ≤ 1 → P.ms.last ≠ [] → Answers (.trimEval p) s fun t => onlyPortCore p s t ∧
        (t.port p).sp.corr = P.trimStep.corr ∧ (t.port p).sp.vset = P.sp.vset ∧ (t.port p).trimRuns = true) ∧
      (P.trimCan = false → Answers (.trimEval p) s fun t => onlyPort p s t ∧ (t.port p).sp.trimok = false ∧ (t.port p).trimRuns = false))

/-! ### Set-point drive, measurement, monitors (09) -/

/-- An ADC frame updates voltage, current, power, time and the energy counter of the present ports, their power-good
count, and the feeds, each current from the voltage across its sense resistor (one that its register cannot show is a
free value); each millisecond the averages take the means and the factors follow the temperatures; the energy clear;
the checked thermistor writes (R209, R224-R229, R241, R271). The model's choices: logs 135, 136. -/
def Obligations.Measurements : Prop :=
  ∀ s : State,
    (s.aoOn = true →
      (∀ ps f1 f2 r, Answers (.adcFrame ps f1 f2 r) s fun t =>
        t = { s with ports := t.ports, cores := t.cores, fed := t.fed, ldg := t.ldg, pins := t.pins, freeCtr := t.freeCtr } ∧
        (∀ (p : PortId) (x : PortSample), s.present p = true → ps[p.val]? = some x →
          let M := (s.port p).ms
          let m := (t.port p).ms
          let W := (s.port p).pw
          let vb := min x.vb 65535
          let i := Int.tdiv (max (-100000) (min 100000 x.sense) * 10) (W.rsns : Int)
          m.vb = BitVec.ofNat 16 vb ∧ (-32768 ≤ i → i ≤ 32767 → m.i = BitVec.ofInt 16 i) ∧ m.time = s.now - 20 ∧
          m.visn = BitVec.ofNat 16 (min x.visn 65535) ∧ m.pw = BitVec.ofInt 32 (Int.tdiv (vb * i) 1000) ∧
          (t.port p).pw.vbPin = vb ∧ (t.port p).ct.conv = (s.port p).ct.conv ∧
          (0 < i → m.eout = M.eout + BitVec.ofNat 48 ((M.resOut + 20 * vb * i.natAbs) / 1000000000) ∧
            m.resOut = (M.resOut + 20 * vb * i.natAbs) % 1000000000) ∧
          (i ≤ 0 → m.eout = M.eout ∧ m.resOut = M.resOut) ∧
          (i < 0 → m.ein = M.ein + BitVec.ofNat 48 ((M.resIn + 20 * vb * i.natAbs) / 1000000000) ∧
            m.resIn = (M.resIn + 20 * vb * i.natAbs) % 1000000000) ∧
          (0 ≤ i → m.ein = M.ein ∧ m.resIn = M.resIn) ∧
          ((s.port p).inWindow vb i = true → W.limact = false → W.lid = false → W.pg = false → W.pgn ≤ W.pgCnt + 1 →
            ((W.mode = .sourceOn ∧ W.phase = .running) ∨ (W.mode = .idealDiode ∧ W.revoff = false)) → (t.port p).pw.pgDue = true) ∧
          ((s.port p).inWindow vb i = false → 2 ≤ W.pgBad → (t.port p).pw.pg = false)) ∧
        (∀ k : Feed, let x := if k = .f1 then f1 else f2
          let ix := if k = .f1 then 0 else 1
          let i := Int.tdiv (max (-100000) (min 100000 x.sense) * 10) (fld s.fed.cfg (16 + 8 * ix) 8 : Int)
          (t.fed.feed k).fin = BitVec.ofNat 16 (min x.fin 65535) ∧ (t.fed.feed k).fout = BitVec.ofNat 16 (min x.fout 65535) ∧
          (-32768 ≤ i → i ≤ 32767 → (t.fed.feed k).i = BitVec.ofInt 16 i) ∧
          (min x.fin 65535 < fld (s.fed.feed k).ew 16 16 → (t.fed.feed k).good = false)) ∧
        t.pins.vhold = r.vhold ∧ t.pins.vhv = r.vhv) ∧
      (Answers .averageUpdate s fun t => t = { s with ports := t.ports } ∧ ∀ p : PortId,
        let M := (s.port p).ms
        t.port p = { s.port p with ms := (t.port p).ms } ∧ ((s.present p = false ∨ M.n = 0) → (t.port p).ms = M) ∧
        (s.present p = true → M.n ≠ 0 → (t.port p).ms = { M with
          avb := BitVec.ofNat 16 (M.sumVb / M.n), ai := BitVec.ofInt 16 (Int.tdiv M.sumI M.n)
          apw := BitVec.ofInt 32 (Int.tdiv M.sumP M.n), atime := s.now, n := 0, sumVb := 0, sumI := 0, sumP := 0 })) ∧
      (∀ ntc : List (List (Nat × Nat)), Answers (.derateEval ntc) s fun t =>
        t = { s with ports := t.ports, cores := t.cores, ldg := t.ldg } ∧
        (∀ (k : Fin 4) (l : List (Nat × Nat)), ntc[k.val]? = some l →
          let v := (l.map Prod.fst).sum
          let vr := (l.map Prod.snd).sum
          (98 * vr < 100 * v ∨ 100 * v < vr) →
          (t.ldg.tht[k]).toInt = ((fld s.ldg.thcfg[k] 24 8 : Int) - 40) * 8) ∧
        (∀ p : PortId, s.present p = true →
          ((∀ k : Fin 4, (s.ldg.thcfg[k]).getLsbD p.val = false) → (t.port p).ms.factor = 256 ∧ (t.port p).ms.hot = 0x8000) ∧
          (∀ k : Fin 4, (s.ldg.thcfg[k]).getLsbD p.val = true → fld s.ldg.thcfg[k] 16 8 < fld s.ldg.thcfg[k] 24 8 →
            ((fld s.ldg.thcfg[k] 24 8 : Int) - 40) * 8 ≤ (t.ldg.tht[k]).toInt → (t.port p).ms.factor = 0) ∧
          (s.ceil p ≠ t.ceil p → t.ldg.evt.getLsbD 1 = true)))) ∧
    (∀ p, s.regsUp = true → s.present p = true → exec (.ecmdClear p) s = .next (s.modMs p fun m => { m with
      eout := 0, ein := 0, resOut := 0, resIn := 0, ecmd := { cmd := 0xE0, cst := 1 } })) ∧
    (s.regsUp = true → ∀ (k : Fin 4) (v : Word),
      let hi := v.toNat / 2 ^ 24
      let mid := v.toNat / 2 ^ 16 % 256
      (hi ≤ 190 → mid + 4 ≤ hi →
        exec (.thermCfgWrite k v) s = .next (s.modLdg fun l => { l with thcfg := l.thcfg.set k (v &&& 0xFFFF00FF) })) ∧
      ((190 < hi ∨ hi < mid + 4) → exec (.thermCfgWrite k v) s = .next (s.modLdg fun l => { l with thst := setB l.thst 8 true })) ∧
      let b := v.toNat / 2 ^ 16
      let r := v.toNat % 2 ^ 16
      (2000 ≤ b → b ≤ 6000 → 100 ≤ r → r ≤ 10000 →
        exec (.thermNtcWrite k v) s = .next (s.modLdg fun l => { l with thntc := l.thntc.set k v })) ∧
      ((b < 2000 ∨ 6000 < b ∨ r < 100 ∨ 10000 < r) →
        exec (.thermNtcWrite k v) s = .next (s.modLdg fun l => { l with thst := setB l.thst 8 true })))

/-- A comparator tick samples at the levels in use, shifts the sieve histories, sets the outputs by N of M and trips
on an armed one; a period copies the latches and clears those with AUTOCLR; the self-test begins, refuses a second one
and ends (R230-R232, R234, R236, R237). The model's choices: logs 98, 129, 134, 138. -/
def Obligations.MonitorsAndSelfTest : Prop :=
  ∀ (p : PortId) (s : State),
    let P := s.port p
    let m := P.mn
    (s.ppOn p = true →
      (∀ x st, Answers (.monitorTick p x st) s fun t =>
        let l := P.levels
        let n := (t.port p).mn
        let current (ma : Nat) : Nat := min 1023 (ma * P.pw.rsns * 4 / 10000) * 10000
        onlyPortCore p { s with freeCtr := t.freeCtr } t ∧
        (n.raw.getLsbD 0 = decide (l.ovp / 64 * 64 < x.vb)) ∧ (n.raw.getLsbD 1 = decide (l.ovp / 64 * 64 < x.sn)) ∧
        (n.raw.getLsbD 2 = decide (x.vb < (l.uvp + 63) / 64 * 64)) ∧
        (n.raw.getLsbD 3 = decide (current l.ocp < x.i.natAbs * P.pw.rsns * 4)) ∧
        (n.raw.getLsbD 4 = decide ((current l.rev : Int) < -x.i * P.pw.rsns * 4)) ∧
        n.rawl = m.rawl ||| n.raw ∧ n.svl = m.svl ||| n.out ∧
        (∀ i : Fin 4, (∀ j, j < 7 → (n.hist[i]).getLsbD (j + 1) = (m.hist[i]).getLsbD j) ∧
          (n.hist[i]).getLsbD 0 = (if i = 0 then n.raw.getLsbD 0 || n.raw.getLsbD 1 else n.raw.getLsbD (i.val + 1)) ∧
          n.out.getLsbD i.val = decide (fld m.ctl 16 4 ≤ (List.range (fld m.ctl 20 4)).countP fun j => (n.hist[i]).getLsbD j)) ∧
        (QuietUs P.pw s.us →
          (n.out.getLsbD 2 = true → P.pw.mode ≠ .off → (t.port p).pw.lid = true ∧ (t.port p).pw.mode = .off ∧
            (t.port p).pw.trip.toNat / 256 % 16 = 3) ∧
          (P.pw.mode = .off → (t.port p).pw = { P.pw with vbPin := x.vb } ∧ (t.port p).sp = P.sp)) ∧
        (m.cfg.getLsbD 1 = false → P.ct.moving = false →
          l.ovp = (if P.ct.typ = 0 then 5000 else P.ct.conv.toNat) * (100 + fld m.trk 0 8) / 100 ∧
          (P.ct.typ ≠ 2 → l.uvp = (if P.ct.typ = 0 then 5000 else P.ct.conv.toNat) * (100 - fld m.trk 8 8) / 100) ∧
          (P.ct.typ = 2 → l.uvp = 3000))) ∧
      (m.per = 0 → m.begun = false → Answers (.monitorPeriodStart p) s fun t => onlyPort p s t ∧
        let n := (t.port p).mn
        t.port p = { P with mn := { m with prev := n.prev, svl := n.svl, rawl := n.rawl, begun := true } } ∧
        n.prev = BitVec.ofNat 16 (m.rawl.toNat * 256 + m.svl.toNat) ∧
        (∀ i, i < 4 → n.svl.getLsbD i = (m.svl.getLsbD i && !m.cfg.getLsbD (8 + i))) ∧
        ∀ i, i < 5 → n.rawl.getLsbD i = (m.rawl.getLsbD i && !m.cfg.getLsbD (8 + (i - 1)))) ∧
      ((m.per ≠ 0 ∨ m.begun = true) → exec (.monitorPeriodStart p) s = .next s) ∧
      (m.testing = true → m.stTick = 20 → Answers (.selfTestEnd p) s fun t => onlyPortCore p s t ∧
        t.port p = { P with mn := { m with testing := false, st := { m.st with cst := 1 }, evt := setB m.evt 5 true } }) ∧
      ((m.testing = false ∨ m.stTick ≠ 20) → exec (.selfTestEnd p) s = .next s)) ∧
    (s.regsUp = true → s.present p = true →
      (m.testing = true → exec (.stest p) s = .next (s.modMn p fun m => { m with st := { m.st with cmd := 0x5E } })) ∧
      (m.testing = false → exec (.stest p) s = .next (s.modMn p fun m => { m with
        st := { cmd := 0x5E, cst := 3 }, testing := true, stTick := 0, fail := 0, skip := 0 })))

/-! ### Ledger and fabric (10) -/

/-- At its deadline the cut turns ports off, lowest priority first and ties to the higher index, until the overdraw
ends; the shed point, the expiries of leases and the timeout of an entry, each once due (R247, R257, R261). The
model's choice: log 140. The model's choice: log 140. The model's choice: log 140. The model's choice: log 140. -/
def Obligations.LedgerCutsAndExpiries : Prop :=
  ∀ s : State, s.aoOn = true → s.frozen = false →
    let F := s.fab
    let fabric (t : State) : Prop := t = { s with fab := t.fab, ldg := t.ldg, cores := t.cores }
    let prio (p : PortId) : Nat := fld s.ldg.prio (4 * p.val) 4
    let cut (t : State) (p : PortId) : Prop := s.ldg.grant[p] ≠ 0 ∧ t.ldg.grant[p] = 0
    (∀ d, s.ldg.overdrawn = true → s.ldg.cutAt = some d → (s.now - d).toNat < 2 ^ 31 → Answers .ledgerCut s fun t =>
      t = { s with ports := t.ports, cores := t.cores, ldg := t.ldg } ∧
      (t.used ≤ t.pAvail ∨ ∀ p : PortId, t.ldg.grant[p] = 0) ∧
      (∀ p : PortId, cut t p ∨ (t.ldg.grant[p] = s.ldg.grant[p] ∧ t.port p = s.port p)) ∧
      (∀ p : PortId, cut t p → t.ldg.rsv p = 0 ∧ t.ldg.evt.getLsbD (8 + p.val) = true ∧ (t.port p).pw.mode = .off ∧
        ((s.port p).pw.mode ≠ .off → (t.port p).pw.ga = false ∧ (t.port p).pw.gb = false) ∧
        (t.port p).pw.lid = (s.port p).pw.lid) ∧
      (∀ p q : PortId, cut t p → t.ldg.grant[q] ≠ 0 → prio p < prio q ∨ (prio p = prio q ∧ q < p))) ∧
    ((s.ldg.overdrawn = false ∨ s.ldg.cutAt = none) → exec .ledgerCut s = .next s) ∧
    (F.root = false → F.shed = false → 0 < F.xin → F.xexp.toNat ≤ F.ftime.toNat + tShedlead F.timing * 10000 →
      Answers .shedPoint s fun t => fabric t ∧
        t.fab = { F with shed := true, txe := Vector.replicate 8 {}, evt := t.fab.evt } ∧ t.fab.evt.getLsbD 1 = true ∧
        ((∃ e : Fin 8, (F.txe[e]).opn = true) → t.fab.evt.getLsbD 4 = true)) ∧
    ((F.root = true ∨ F.shed = true ∨ F.xin = 0 ∨ F.ftime.toNat + tShedlead F.timing * 10000 < F.xexp.toNat) →
      exec .shedPoint s = .next s) ∧
    (F.root = false → 0 < F.xin → F.xexp.toNat ≤ F.ftime.toNat → Answers .leaseExpiry s fun t => fabric t ∧
      t.fab.xin = 0 ∧ t.fab.shed = true ∧ t.fab.expired = true ∧ t.fab.ackDead = true ∧ t.fab.child = F.child ∧
      t.fab.evt.getLsbD 2 = true) ∧
    (F.ftime.toNat < F.xexp.toNat → exec .leaseExpiry s = .next s) ∧
    (∀ k : Fin 2, 0 < (F.child[k]).x → (F.child[k]).exp.toNat ≤ F.ftime.toNat → Answers (.childLeaseExpiry k) s fun t => fabric t ∧
      t.fab = { F with child := F.child.set k { F.child[k] with x := 0 } }) ∧
    (∀ k : Fin 2, F.ftime.toNat < (F.child[k]).exp.toNat → exec (.childLeaseExpiry k) s = .next s) ∧
    (∀ e : Fin 8, (F.txe[e]).opn = true → (s.now - ((F.txe[e]).at' + BitVec.ofNat 32 (tTmo F.timing * 20000))).toNat < 2 ^ 31 →
      Answers (.transactionTimeout e) s fun t => fabric t ∧ t.fab = { F with txe := F.txe.set e {}, evt := setB F.evt 4 true }) ∧
    (∀ e : Fin 8, (F.txe[e]).opn = false → exec (.transactionTimeout e) s = .next s)

/-- A frame x joins the output queue of link l, which is enabled, up and has room; nothing else of the fabric changes. -/
def Sys2Proof.Sent (f : Fab) (l : FLink) (x : FFrame) (g : Fab) : Prop :=
  g = { f with txq := f.txq.set l.idx (f.txq[l.idx] ++ [x]) }

/-- Links come up and go down; a frame for another device goes toward it, a broadcast to both children, and one that
cannot be queued counts as a drop; a discarded frame is counted; TIME frames give the address and correct fabric time,
which steps forward and never backward; the root's time is set forward only (R248-R251, R254, R268; allowance of a
link: log 14). The reserved address is none, and each frame command discards and counts a frame that R251 discards.
The model's choices: logs 14, 139, 141. -/
def Obligations.LinksFramesAndTime : Prop :=
  ∀ s : State, s.regsUp = true →
    let F := s.fab
    let fabric (t : State) : Prop := t = { s with fab := t.fab, freeCtr := t.freeCtr }
    (∀ l : FLink, F.linkEn l = true → F.up[l.idx] = false →
      (l ≠ .u → exec (.linkUp l) s = .next (s.modFab fun f => { f with up := f.up.set l.idx true, evt := setB f.evt 0 true })) ∧
      (l = .u → F.own ≠ none → (F.txq[l.idx]).length < 8 → Answers (.linkUp l) s fun t => fabric t ∧ t.fab.up = F.up.set l.idx true ∧
        t.fab.evt = setB F.evt 0 true ∧ t.fab.renewOut = true ∧ ∃ x, t.fab.txq = F.txq.set l.idx (F.txq[l.idx] ++ [x]) ∧ x.typ = 3)) ∧
    (∀ l : FLink, (F.linkEn l = false ∨ F.up[l.idx] = true) → exec (.linkUp l) s = .next s) ∧
    (∀ l : FLink, F.up[l.idx] = true → exec (.linkDown l) s = .next (s.modFab fun f => { f with
      up := f.up.set l.idx false, txq := f.txq.set l.idx [], txT := f.txT.set l.idx 0, evt := setB f.evt 0 true
      nDrop := BitVec.ofNat 8 (min (f.nDrop.toNat + (f.txq[l.idx]).length) 255) })) ∧
    (∀ l : FLink, F.up[l.idx] = false → exec (.linkDown l) s = .next s) ∧
    (∀ (l : FLink) (x : FFrame) (a : BitVec 14), F.linkOn l = true → F.own = some a → frameValid x = true →
      let d := x.dst.toNat % 2 ^ 14
      let r := route d a.toNat
      (d = a.toNat → exec (.frameForward l x) s = .next s) ∧
      (d ≠ a.toNat → d ≠ 0x3FFF → F.linkOn r = true → (F.txq[r.idx]).length < 8 →
        Answers (.frameForward l x) s fun t => t = { s with fab := t.fab } ∧ Sent F r x t.fab) ∧
      (d ≠ a.toNat → d ≠ 0x3FFF → (F.linkOn r = false ∨ 8 ≤ (F.txq[r.idx]).length) →
        exec (.frameForward l x) s = .next (s.modFab fun f => { f with nDrop := satInc f.nDrop })) ∧
      (d = 0x3FFF → a.toNat ≠ 0x3FFF → l ≠ .u → exec (.frameForward l x) s = .next s) ∧
      (d = 0x3FFF → a.toNat ≠ 0x3FFF → l = .u → F.linkOn .d0 = true → F.linkOn .d1 = true → (F.txq[1]).length < 8 → (F.txq[2]).length < 8 →
        Answers (.frameForward l x) s fun t => t = { s with fab := t.fab } ∧
          t.fab.txq[1] = F.txq[1] ++ [x] ∧ t.fab.txq[2] = F.txq[2] ++ [x] ∧ t.fab.nDrop = F.nDrop)) ∧
    (∀ a : Nat, route (2 * a + 1) a = .d0 ∧ route (2 * a + 2) a = .d1 ∧ ∀ d, d ≤ a → route d a = .u) ∧
    (∀ l x, F.linkOn l = false → frameValid x = true → exec (.frameForward l x) s = .next s) ∧
    (∀ x : FFrame, (x.typ = 0 ∨ 9 < x.typ.toNat ∨ 2 ^ 14 ≤ x.dst.toNat ∨ 2 ^ 14 ≤ x.src.toNat) → frameValid x = false) ∧
    (∀ (l : FLink) (k : Fin 2) (x : FFrame), frameValid x = false →
      (∀ i ∈ [Instr.frameForward l x, .leaseReq l x, .leaseGrant l x, .nak l x, .updAct l x, .regTunnel l x],
        exec i s = exec (.fabricFrameDiscard l) s) ∧
      (∀ i ∈ [Instr.time x, .ack x], exec i s = exec (.fabricFrameDiscard .u) s) ∧
      (∀ i ∈ [Instr.leaseRenew k x, .leaseReturn k x], exec i s = exec (.fabricFrameDiscard (dLink k)) s) ∧
      exec (.tunnelReply x) s = exec (.fabricFrameDiscard .d0) s) ∧
    exec (.fabricFrameDiscard .u) s = .next (s.modFab fun f => { f with nCrcU := satInc f.nCrcU }) ∧
    (∀ l : FLink, l ≠ .u → exec (.fabricFrameDiscard l) s = .next (s.modFab fun f => { f with nCrcD := satInc f.nCrcD })) ∧
    (∀ x : FFrame, x.typ = 5 → frameValid x = true → F.linkOn .u = true → Answers (.time x) s fun t =>
      t = { s with fab := t.fab, ldg := t.ldg, cores := t.cores } ∧
      let d := BitVec.ofNat 14 x.dst.toNat
      let goal := ofLe (x.payload.take 8) + Config.linkAllowance
      (d = 0x3FFF → t.fab.addr = F.addr ∧ t.fab.evt.getLsbD 7 = F.evt.getLsbD 7) ∧
      (d ≠ 0x3FFF → F.addr = none → t.fab.addr = some d ∧ t.fab.evt.getLsbD 7 = true) ∧
      (F.addr = some d → t.fab.addr = some d ∧ t.fab.evt.getLsbD 7 = F.evt.getLsbD 7) ∧
      (∀ a, d ≠ 0x3FFF → F.addr = some a → a ≠ d → F.cand = d → F.candN = 2 → t.fab.addr = some d) ∧
      (∀ a, F.addr = some a → a ≠ d → F.cand ≠ d → t.fab.addr = some a) ∧
      (F.ftime.toNat + 50 < goal → goal < 2 ^ 64 → t.fab.ftime.toNat = goal ∧ t.fab.ftlock = F.ftlock) ∧
      (goal ≤ F.ftime.toNat → t.fab.ftime = F.ftime ∧ (goal < F.ftime.toNat → t.fab.ahead = 2 * (F.ftime.toNat - goal))) ∧
      (goal ≤ F.ftime.toNat + 50 → 63 ≤ F.ftGood → (∀ u, F.timeAt = some u → s.us ≤ u + 1500) → t.fab.ftlock = true)) ∧
    (∀ x : FFrame, frameValid x = true → (x.typ ≠ 5 ∨ F.linkOn .u = false) → exec (.time x) s = .next s) ∧
    (∀ (a : BitVec 14) (k : Fin 2), F.own = some a → F.linkOn (dLink k) = true → (F.txq[(dLink k).idx]).length < 8 →
      Answers .timeSend s fun t => fabric t ∧ t.fab = { F with txq := t.fab.txq, nDrop := t.fab.nDrop } ∧
        ∃ x, t.fab.txq[(dLink k).idx] = F.txq[(dLink k).idx] ++ [x] ∧ x.typ = 5 ∧ x.dst.toNat = (2 * a.toNat + 1 + k.val) % 2 ^ 16 ∧
          ofLe (x.payload.take 8) = F.ftime.toNat) ∧
    exec .ftlockLost s = .next (s.modFab fun f => { f with ftlock := false, ftGood := 0 }) ∧
    (∀ v : DWord, Answers (.ftset v) s fun t => t = { s with fab := t.fab, ldg := t.ldg, cores := t.cores } ∧ t.fab.ftset = v ∧
      (F.root = true → F.ftime.toNat ≤ v.toNat → t.fab.ftime = v ∧ t.fab.evt.getLsbD 9 = true ∧ t.fab.xin = F.xin ∧
        ∀ k : Fin 2, t.fab.child[k] = (if 0 < (F.child[k]).x ∧ (F.child[k]).exp.toNat ≤ v.toNat
          then { F.child[k] with x := 0 } else F.child[k])) ∧
      ((F.root = false ∨ v.toNat < F.ftime.toNat) → t.fab.ftime = F.ftime))

/-- Leases and their commands: a RENEW goes out and times out; the parent lowers a child's extra to what the child
holds and answers ACK; the ACK sets the own lease; a RETURN lowers it; requests, grants and NAKs reach the arbiter's
queue, and a child's request sets its floor; RSV opens an entry, COMMIT and ROLLBACK close it, OWNGRANT raises and
RETURN lowers the own extra, each refused with its code (R253, R255, R256, R262, R267). The model's choices: logs 26,
50, 142, 150. -/
def Obligations.LeasesAndTransactions : Prop :=
  ∀ s : State, s.regsUp = true →
    let F := s.fab
    let fabric (t : State) : Prop := t = { s with fab := t.fab, ldg := t.ldg, cores := t.cores, freeCtr := t.freeCtr }
    let amt := F.lamt.toNat
    let refuses (i : Instr) (cmd : Byte) (st : Nat) : Prop :=
      exec i s = .next (s.modFab fun f => { f with lcmd := { cmd, cst := BitVec.ofNat 8 st } })
    let mine (x : FFrame) : Prop := ∃ a, F.own = some a ∧ x.dst.toNat % 2 ^ 14 = a.toNat
    let num (x : FFrame) (o n : Nat) : Nat := ofLe ((x.payload.drop o).take n)
    let ackTo (x : FFrame) (k : Fin 2) (t : State) : Prop := ∃ y, t.fab.txq = F.txq.set (dLink k).idx (F.txq[(dLink k).idx] ++ [y]) ∧
      y.typ = 8 ∧ y.tag = x.tag ∧ y.dst = x.src ∧ num y 0 1 = x.typ.toNat ∧ num y 2 4 = (t.fab.child[k]).x % 2 ^ 32 ∧
      num y 6 8 = (t.fab.child[k]).exp.toNat
    (F.root = false → F.linkOn .u = true → F.own ≠ none → (F.txq[0]).length < 8 → Answers .renewSend s fun t => fabric t ∧
      t.fab.renewOut = true ∧ t.fab.xin = F.xin ∧ ∃ y, t.fab.txq[0] = F.txq[0] ++ [y] ∧ y.typ = 3 ∧ num y 0 4 = F.xin % 2 ^ 32 ∧
        num y 4 4 = F.fsub % 2 ^ 32) ∧
    (F.root = false → F.linkOn .u = false → F.own ≠ none →
      exec .renewSend s = .next (s.modFab fun f => { f with nRenew := satInc f.nRenew })) ∧
    (F.renewOut = true → exec .renewTimeout s = .next (s.modFab fun f => { f with renewOut := false, nRenew := satInc f.nRenew })) ∧
    (F.renewOut = false → exec .renewTimeout s = .next s) ∧
    (∀ (k : Fin 2) (x : FFrame), frameValid x = true → F.linkOn (dLink k) = true → mine x → (F.txq[(dLink k).idx]).length < 8 →
      let c := F.child[k]
      let lim := F.ftime.toNat + tLtime F.timing * 10000
      (x.typ = 3 → Answers (.leaseRenew k x) s fun t => fabric t ∧ ackTo x k t ∧ (t.fab.child[k]).x = min c.x (num x 0 4) ∧
        (t.fab.child[k]).exp = BitVec.ofNat 64 (if 0 < F.xin then min lim F.xexp.toNat else lim) ∧
        (t.fab.child[k]).f = num x 4 4 ∧ (t.fab.child[k]).known = true) ∧
      (x.typ = 4 → Answers (.leaseReturn k x) s fun t => fabric t ∧ ackTo x k t ∧
        t.fab.child[k] = { c with x := c.x - num x 0 4 })) ∧
    (∀ (k : Fin 2) (x : FFrame), frameValid x = true → F.linkOn (dLink k) = false →
      exec (.leaseRenew k x) s = .next s ∧ exec (.leaseReturn k x) s = .next s) ∧
    (∀ x : FFrame, x.typ = 8 → frameValid x = true → F.linkOn .u = true → mine x → (num x 0 1 = 3 ∨ num x 0 1 = 4) → F.ackDead = false →
      (F.xin = 0 ∨ F.ftime.toNat < F.xexp.toNat) → F.shed = false →
      F.ftime.toNat + tShedlead F.timing * 10000 < num x 6 8 → Answers (.ack x) s fun t => fabric t ∧ t.fab = { F with
        xin := num x 2 4, xexp := BitVec.ofNat 64 (num x 6 8), renewOut := if num x 0 1 = 3 then false else F.renewOut }) ∧
    (∀ x : FFrame, frameValid x = true → F.ackDead = true → exec (.ack x) s = .next s) ∧
    (∀ (i : FLink → FFrame → Instr) (n : Byte) (l : FLink) (x : FFrame),
      (i = .leaseReq ∧ n = 1 ∧ l = .u ∨ i = .leaseGrant ∧ n = 2 ∨ i = .nak ∧ n = 9) → x.typ = n → frameValid x = true →
      F.linkOn l = true → mine x →
      (8 ≤ (F.rxq[l.idx]).length → exec (i l x) s = .next (s.modFab fun f => { f with evt := setB f.evt 5 true })) ∧
      ((F.rxq[l.idx]).length < 8 →
        (s.core arbiterId).ncCode s.now { cls := 0x22, arg := BitVec.ofNat 32 l.idx.val } none = 0 → Answers (i l x) s fun t =>
          t = { s with fab := t.fab, cores := t.cores } ∧ t.fab = { F with rxq := F.rxq.set l.idx (F.rxq[l.idx] ++ [x]) } ∧
          ∃ j, (t.core arbiterId).jobs = (s.core arbiterId).jobs ++ [j] ∧ j.cls = 0x22 ∧ j.arg.toNat = l.idx.val)) ∧
    (∀ (k : Fin 2) (x : FFrame), x.typ = 1 → frameValid x = true → F.linkOn (dLink k) = true → mine x →
      Answers (.leaseReq (dLink k) x) s fun t => fabric t ∧ t.fab.child[k] = { F.child[k] with f := num x 10 4, known := true } ∧
        (8 ≤ (F.rxq[(dLink k).idx]).length → t.fab.rxq = F.rxq ∧ t.fab.evt.getLsbD 5 = true)) ∧
    (∀ pass : Bool, let i := if pass then Instr.rsvPass else Instr.rsvTop
      let cmd : Byte := if pass then 0x12 else 0x11
      (pass = true → F.root = true → refuses i cmd 0x13) ∧
      (F.root = false → F.shed = true → refuses i cmd 0x16) ∧
      ((pass = false ∨ F.root = false) → (F.shed = false ∨ F.root = true) → (∀ e : Fin 8, (F.txe[e]).opn = true) → refuses i cmd 0x15) ∧
      (∀ e : Fin 8, (pass = false ∨ F.root = false) → (F.shed = false ∨ F.root = true) → F.freeTxe = some e →
        (F.room F.llink < amt → refuses i cmd 0x11) ∧
        let a := availOf (fld s.ldg.cfg 0 2) s.fed.feedcap (F.term - amt)
        ((amt : Int) ≤ F.room F.llink → pass = false → a < s.pAvail → a < s.used → refuses i cmd 0x10) ∧
        ((amt : Int) ≤ F.room F.llink → (pass = true ∨ s.pAvail ≤ a ∨ s.used ≤ a) → Answers i s fun t => fabric t ∧
          t.fab = { F with
            txe := F.txe.set e { opn := true, pass, link := F.llink, amt, at' := s.now, tag := (t.fab.txe[e]).tag
                                 origin := (t.fab.txe[e]).origin }
            lentry := e, lcmd := { cmd, cst := 0 } }))) ∧
    (let e := F.txe[F.lentry];
      ((e.opn = false ∨ e.amt < amt) → refuses .commit 0x13 0x12) ∧
      (e.opn = true → amt ≤ e.amt → e.pass = false → Answers .commit s fun t => fabric t ∧ t.fab = { F with
        txe := F.txe.set F.lentry {}, lcmd := { cmd := 0x13, cst := 0 }
        child := F.child.set e.link { F.child[e.link] with x := (F.child[e.link]).x + amt, exp := F.lexp } }) ∧
      (e.opn = true → amt ≤ e.amt → e.pass = true → Answers .commit s fun t => fabric t ∧ t.fab.xin = F.xin + amt ∧
        t.fab.xexp = F.lexp ∧ (t.fab.child[e.link]).x = (F.child[e.link]).x + amt ∧ t.fab.lcmd = { cmd := 0x13, cst := 0 }) ∧
      (e.opn = false → refuses .rollback 0x14 0x12) ∧
      (e.opn = true → Answers .rollback s fun t => fabric t ∧
        t.fab = { F with txe := F.txe.set F.lentry {}, lcmd := { cmd := 0x14, cst := 0 } })) ∧
    (F.root = true → refuses .owngrant 0x15 0x13) ∧
    (F.root = false → Answers .owngrant s fun t => fabric t ∧ t.fab.xin = F.xin + amt ∧ t.fab.xexp = F.lexp ∧
      t.fab.lcmd = { cmd := 0x15, cst := 0 } ∧ t.fab.child = F.child) ∧
    (F.xin < amt → refuses .returnI 0x16 0x14) ∧
    (let a := s.availWith { F with xin := F.xin - amt };
      (amt ≤ F.xin → a < s.pAvail → a < s.used → refuses .returnI 0x16 0x10) ∧
      (amt ≤ F.xin → (s.pAvail ≤ a ∨ s.used ≤ a) → F.linkOn .u = true → (F.txq[0]).length < 8 → Answers .returnI s fun t =>
        fabric t ∧ t.fab.xin = F.xin - amt ∧ t.fab.lcmd = { cmd := 0x16, cst := 0 } ∧
        ∃ y, t.fab.txq[0] = F.txq[0] ++ [y] ∧ y.typ = 4 ∧ num y 0 4 = amt))

/-- The register tunnel: the target answers a request (with STATUS 3 where TUN forbids it, with the bytes of the
registers for a read), the root sends one, takes the reply and times out; a broadcast UPD_ACT goes on to both children
(R263, R264). The model's choices: logs 49, 67. -/
def Obligations.TunnelAndActivationFrames : Prop :=
  ∀ s : State, s.regsUp = true →
    let F := s.fab
    let num (x : FFrame) (o n : Nat) : Nat := ofLe ((x.payload.drop o).take n)
    let mine (x : FFrame) : Prop := ∃ a, F.own = some a ∧ x.dst.toNat % 2 ^ 14 = a.toNat
    let op := F.topl.toNat / 256
    let len := F.topl.toNat % 256
    let dst := F.tdst.toNat % 2 ^ 14
    let sendEnds (cst : Byte) : Prop := exec .tunnelSend s = .next (s.modFab fun f => { f with tcmd := { cmd := 0x54, cst } })
    (∀ (l : FLink) (x : FFrame), x.typ = 7 → frameValid x = true → F.linkOn l = true → mine x → x.dst.toNat % 2 ^ 14 ≠ 0x3FFF → F.tunLast = none →
      let o := num x 0 1
      let n := num x 1 1
      let back (t : State) (cnt st : Nat) (data : List Byte) : Prop := ∃ z, t.fab.tunLast = some (x.tag, z, s.now) ∧ z.typ = 7 ∧
        z.tag = x.tag ∧ z.dst = x.src ∧ num z 0 1 = o + 0x80 ∧ num z 1 1 = cnt ∧ num z 4 1 = st ∧ (z.payload.drop 6) = padTo 16 data
      ((o = 1 ∨ o = 2) → 1 ≤ n → n ≤ 16 → (fld F.cfg 13 2 = 0 ∨ (o = 2 ∧ fld F.cfg 13 2 ≠ 2)) →
        Answers (.regTunnel l x) s fun t => t = { s with fab := t.fab } ∧ back t 0 3 []) ∧
      ((o = 1 ∨ o = 2) → (n < 1 ∨ 16 < n) → Answers (.regTunnel l x) s fun t => t = { s with fab := t.fab } ∧ back t 0 2 []) ∧
      (o = 1 → 1 ≤ n → n ≤ 16 → fld F.cfg 13 2 ≠ 0 → s.phase ≠ .halt → Answers (.regTunnel l x) s fun t =>
        back t n 0 ((List.range n).map fun i => s.peek ((num x 2 2 + i) % 65536)) ∧ t.pins = s.pins ∧
        t.ldg = s.ldg ∧ t.otp = s.otp) ∧
      (o ≠ 1 → o ≠ 2 → exec (.regTunnel l x) s = .next s)) ∧
    (∀ l x, frameValid x = true → F.linkOn l = false → exec (.regTunnel l x) s = .next s) ∧
    ((F.root = false ∨ F.tunRun = true ∨ len < 1 ∨ 16 < len ∨ (op ≠ 1 ∧ op ≠ 2)) → sendEnds 2) ∧
    (F.root = true → F.tunRun = false → 1 ≤ len → len ≤ 16 → (op = 1 ∨ op = 2) →
      ((dst = 0 ∨ dst = 0x3FFF ∨ F.linkOn (route dst 0) = false) → sendEnds 8) ∧
      (dst ≠ 0x3FFF → route dst 0 ≠ .u → F.linkOn (route dst 0) = true → (F.txq[(route dst 0).idx]).length < 8 →
        Answers .tunnelSend s fun t => t = { s with fab := t.fab } ∧ t.fab = { F with
            txq := t.fab.txq, tcmd := { cmd := 0x54, cst := 3 }, tunRun := true } ∧
          ∃ y, t.fab.txq = F.txq.set (route dst 0).idx (F.txq[(route dst 0).idx] ++ [y]) ∧ y.typ = 7 ∧ y.tag = F.ttag ∧
            y.dst.toNat = dst ∧ num y 0 1 = op ∧ num y 1 1 = len ∧ num y 2 2 = F.taddr.toNat ∧ y.payload.drop 6 = F.tdata.toList)) ∧
    (∀ x : FFrame, x.typ = 7 → frameValid x = true → s.upd.relay = none → F.root = true → F.tunRun = true → mine x → x.tag = F.ttag →
      num x 0 1 = F.topl.toNat / 256 + 128 → Answers (.tunnelReply x) s fun t => t = { s with fab := t.fab } ∧
        t.fab.tunRun = false ∧ t.fab.evt.getLsbD 8 = true ∧ (num x 4 1 = 0 → t.fab.tcmd.cst = 1) ∧ (num x 4 1 = 1 → t.fab.tcmd.cst = 6) ∧
        (num x 4 1 = 2 → t.fab.tcmd.cst = 7) ∧ (num x 0 1 = 0x82 → t.fab.tdata = F.tdata) ∧
        (num x 0 1 = 0x81 → ∀ i : Fin 16, i.val < num x 1 1 → t.fab.tdata[i] = x.payload.getD (6 + i.val) 0)) ∧
    (∀ x : FFrame, frameValid x = true → s.upd.relay = none → F.tunRun = false → exec (.tunnelReply x) s = .next s) ∧
    (F.tunRun = true → exec .tunnelTimeout s = .next (s.modFab fun f => { f with
      tcmd := { f.tcmd with cst := 4 }, tunRun := false, evt := setB f.evt 8 true })) ∧
    (F.tunRun = false → exec .tunnelTimeout s = .next s) ∧
    (∀ x : FFrame, x.typ = 6 → frameValid x = true → F.own ≠ none → F.linkOn .u = true → x.dst.toNat % 2 ^ 14 = 0x3FFF → 8 ≤ (F.rxq[0]).length →
      F.linkOn .d0 = true → F.linkOn .d1 = true → (F.txq[1]).length < 8 → (F.txq[2]).length < 8 →
      Answers (.updAct .u x) s fun t => t = { s with fab := t.fab } ∧ t.fab.txq[1] = F.txq[1] ++ [x] ∧ t.fab.txq[2] = F.txq[2] ++ [x] ∧
        t.fab.evt = setB F.evt 5 true) ∧
    (∀ x : FFrame, x.typ = 6 → frameValid x = true → F.linkOn .u = true → x.dst.toNat % 2 ^ 14 = 0x3FFF → (F.rxq[0]).length < 8 →
      (s.core arbiterId).ncCode s.now { cls := 0x22, arg := 0 } none = 0 → s.updCond false = 0 → s.upd.trial = false →
      s.upd.sched = true → s.upd.schTime.toNat ≠ num x 0 8 → Answers (.updAct .u x) s fun t => t.upd.sched = true ∧
        t.upd.schTime = s.upd.schTime ∧ t.upd.rsn = 0x15 ∧ t.fab.rxq[0] = F.rxq[0] ++ [x]) ∧
    (∀ l x, frameValid x = true → l ≠ .u → exec (.updAct l x) s = .next s)

/-! ### Feeds and larder (11) -/

/-- Feed channels and their early warning; the VHOLD energy; the save begins, ends or is abandoned; the device parks
with every port off, and leaves the park by a warm start or by losing power (R270-R274, R276, R278-R280, R282, R389).
The model's choices: logs 56, 145, 152. -/
def Obligations.FeedsAndLarder : Prop :=
  ∀ s : State,
    let f := s.fed
    let other (k : Feed) : Feed := if k = .f1 then .f2 else .f1
    let feedOnly (k : Feed) (t : State) : Prop := t = { s with fed := t.fed, cores := t.cores, ldg := t.ldg } ∧
      t.fed.feed (other k) = f.feed (other k) ∧ t.fed.cfg = f.cfg
    let thr (k : Feed) : Nat := fld (f.feed k).ew 16 16
    let hyst (k : Feed) : Nat := fld (f.feed k).ew 0 8
    let slope (k : Feed) : Nat := fld (f.feed k).ew 8 8
    let met (k : Feed) (fin fell : Nat) : Prop := (thr k ≠ 0 ∧ fin < thr k) ∨ (slope k ≠ 0 ∧ slope k * 100 < fell)
    (s.aoOn = true → ∀ k : Feed,
      (f.fen k = true → (f.feed k).revoff = false → Answers (.feedReverseOff k) s fun t => feedOnly k t ∧
        t.fed.feed k = { f.feed k with on := false, revoff := true } ∧ t.fed.evt = setB f.evt (4 + feedIx k) true) ∧
      (f.fen k = true → Answers (.feedResume k) s fun t => feedOnly k t ∧ t.fed.evt = f.evt ∧
        t.fed.feed k = { f.feed k with on := true, revoff := false }) ∧
      (∀ fin, f.fen k = true → (f.feed k).warn = false → thr k + 100 * hyst k ≤ fin → Answers (.feedGood { feed := k, fin }) s fun t =>
        feedOnly k t ∧ t.fed.feed k = { f.feed k with good := true } ∧ ((f.feed k).good = false → t.fed.evt.getLsbD 6 = true)) ∧
      (∀ fin, fin < thr k + 100 * hyst k → exec (.feedGood { feed := k, fin }) s = .next s) ∧
      (∀ fin before, f.fen k = true → (f.feed k).warn = false → met k fin (before - fin) → Answers (.feedWarnStart { feed := k, fin, before }) s fun t =>
        feedOnly k t ∧ t.fed.feed k = { f.feed k with warn := true, good := false } ∧ t.fed.evt.getLsbD (2 + feedIx k) = true ∧
        (f.ewAll = false → t.fed.ew = true ∧ (f.ew = false → t.fed.evt.getLsbD 0 = true))) ∧
      (∀ fin before, ¬met k fin (before - fin) → exec (.feedWarnStart { feed := k, fin, before }) s = .next s) ∧
      (∀ fin fell, thr k + 100 * hyst k ≤ fin → ¬met k fin fell → Answers (.feedWarnEnd { feed := k, fin, fell }) s fun t =>
        feedOnly k t ∧ t.fed.feed k = { f.feed k with warn := false } ∧
        (f.ewAll = false → (f.fen (other k) = false ∨ (f.feed (other k)).warn = false) → t.fed.ew = false ∧
          (f.ew = true → t.fed.evt.getLsbD 1 = true))) ∧
      (∀ fin fell, (fin < thr k + 100 * hyst k ∨ met k fin fell) → exec (.feedWarnEnd { feed := k, fin, fell }) s = .next s) ∧
      (f.fen k = false → exec (.feedReverseOff k) s = .next s ∧ exec (.feedResume k) s = .next s ∧
        ∀ fin before, exec (.feedGood { feed := k, fin }) s = .next s ∧ exec (.feedWarnStart { feed := k, fin, before }) s = .next s)) ∧
    (s.aoOn = true →
      (∀ us, Answers (.cmeasPassage us) s fun t => t = { s with fed := t.fed, cores := t.cores } ∧
        t.fed.cmeas = some (2 * us / 3000) ∧ (t.fed.lowE = true ↔ t.fed.ready s.pins.vhold < 1200)) ∧
      (∀ v, Answers (.lowenergyChange v) s fun t => t = { s with fed := t.fed, cores := t.cores, pins := t.pins } ∧
        t.pins = { s.pins with vhold := v } ∧ (t.fed.lowE = true ↔ t.fed.ready v < 1200) ∧
        (f.lowE = true → t.fed.lowE = false → t.fed.evt = setB f.evt 7 true) ∧
        (f.lowE = false → t.fed.lowE = true → t.fed.evt = setB f.evt 8 true)) ∧
      exec .saveArm s = .next (s.modFed fun x => { x with armed := true })) ∧
    (let begun (k : SaveCause) (t : State) : Prop := t.phase = .saving ∧
        (∃ v, t.fed.saving = some v ∧ v.cause = k ∧ v.vholdS = s.pins.vhold) ∧ t.now = s.now ∧ t.ldg.grant = s.ldg.grant ∧
        (∀ p, (t.port p).pw = (s.port p).pw ∧ (t.port p).ct = (s.port p).ct ∧ (t.port p).sp = (s.port p).sp ∧
          (t.port p).tc = (if (s.port p).ct.pd3 then { (s.port p).tc with rp := 2 } else (s.port p).tc)) ∧
        ∀ c, (t.core c).run = none ∧ (t.core c).jobs = [];
      (s.canSave = true → f.armed = true → Answers (.saveTrigger .vhv) s (begun .vhv)) ∧
      (s.canSave = true → Answers (.saveTrigger .v5) s (begun .v5)) ∧
      (s.regsUp = true → Answers .save s fun t => begun .command t ∧ t.fed.lcmd.cmd = 0x5A) ∧
      (s.canSave = true → f.armed = false → exec (.saveTrigger .vhv) s = .next s) ∧
      (∀ k, s.canSave = false → exec (.saveTrigger k) s = .next s)) ∧
    (let parked (vh : Nat) (t : State) : Prop := t.phase = .parked ∧ t.fed.saving = none ∧ t.otp = s.otp ∧ t.fab = s.fab ∧
        t.ldg = s.ldg ∧ t.fed.park = some 0 ∧ t.pins.vhold = vh ∧
        ∀ p, (s.present p = true → (t.port p).pw.mode = .off ∧ (t.port p).pw.ga = false ∧ (t.port p).pw.gb = false ∧
          (t.port p).sp.cen = false ∧ (t.port p).sp.dir = false ∧ (t.port p).tc.vconn = false ∧ (t.port p).ct.swap = .none ∧
          (t.port p).ct.hrseq = .none ∧ (t.port p).pw.lid = (s.port p).pw.lid ∧
          (t.port p).pw.dscHw = (decide (5000 ≤ vh) && ((s.port p).pw.dscHw || !((s.port p).pw.lid && (s.port p).pw.lidDsc)))) ∧
          (s.present p = false → t.port p = s.port p);
      (∀ v dur vhold, f.saving = some v → Answers (.saveWriteDone dur vhold) s fun t => parked vhold t ∧ t.fed.slot s.freeSlot = v.record ∧
        t.fed.slot (1 - s.freeSlot) = f.slot (1 - s.freeSlot) ∧ t.fed.outcome = 1 ∧ t.fed.dur = BitVec.ofNat 16 dur ∧
        t.fed.lcause.toNat = v.cause.code) ∧
      (∀ v, f.saving = some v → Answers .saveAbandon s fun t => parked (min s.pins.vhold 5499) t ∧ t.fed.slot (1 - s.freeSlot) = f.slot (1 - s.freeSlot) ∧
        t.fed.outcome = 2) ∧
      (f.saving = none → exec .saveAbandon s = .next s ∧ ∀ dur vhold, exec (.saveWriteDone dur vhold) s = .next s)) ∧
    (∀ v, s.phase = .parked → v < 5000 → Answers (.lowenergyChange v) s fun t => t.phase = .parked ∧ t.pins.vhold = v ∧
      ∀ p, s.present p = true → (t.port p).pw.dscHw = false) ∧
    (∀ w : WakeSample, s.phase = .parked → (fld f.lcfg 6 10 + fld f.lcfg 0 6) * 100 ≤ w.vhv → 4500 ≤ w.v5 →
      Answers (.warmStart w) s fun t => t.phase = .sense ∧ t.pins = { s.pins with vhv := w.vhv, v5 := w.v5 } ∧
      t.fed.parkMs = (match f.park with
        | some n => BitVec.ofNat 32 (min (n * 1000 / 32768) 0xFFFFFFFE)
        | none => 0xFFFFFFFF) ∧
      t.otp = s.otp ∧ t.rcv = { s.rcv with rung4 := .none } ∧ t.flg = s.flg ∧ t.upd = s.upd ∧ t.fab.xin = s.fab.xin ∧ t.fab.xexp = s.fab.xexp ∧
      t.fab.child = s.fab.child ∧ t.fed.slot0 = f.slot0 ∧ t.fed.slot1 = f.slot1 ∧ ∀ p, t.port p = {}) ∧
    (∀ w : WakeSample, (s.phase ≠ .parked ∨ w.vhv < (fld f.lcfg 6 10 + fld f.lcfg 0 6) * 100 ∨ w.v5 < 4500) →
      exec (.warmStart w) s = .next s) ∧
    (s.phase = .parked → Answers .parkPowerLoss s fun t => t.phase = .unpowered ∧ t.otp.cells = s.otp.cells ∧ t.fed.slot0 = f.slot0 ∧
      t.fed.slot1 = f.slot1 ∧ t.upd.arb.slots = s.upd.arb.slots ∧ t.fab.xin = 0 ∧ ∀ p, t.port p = {}) ∧
    (s.phase ≠ .parked → exec .parkPowerLoss s = .next s)

/-! ### Flag units and recovery (12, 13) -/

/-- Unit c of state t has fallen with a cause, in the tick of state s (R297). -/
def Sys2Proof.Fallen (c : CoreId) (cause : Nat) (s t : State) : Prop :=
  (t.flg.units[c]).st = .fallen ∧ (t.flg.units[c]).lastCause = BitVec.ofNat 8 cause ∧ t.flg.evt.getLsbD c.val = true ∧
    t.now = s.now ∧ t.otp.cells = s.otp.cells ∧ ((t.flg.units[c]).record.length = 128)

/-- Flag units: a proxy check-in inside the window counts like the core's own, one before it is a fall; a period that
ends with a slot not done, four missed clock checks and FLG_CMD are falls; a pulse request ends (R288, R291-R293,
R295, R298, R300). The model's choices: logs 101, 148, 151. -/
def Obligations.FlagUnitsFallAndCount : Prop :=
  ∀ (c : CoreId) (s : State), s.aoOn = true →
    let u := s.flg.units[c]
    let t0 := s.unitTick c
    let r := u.roll t0
    let unitOnly (t : State) : Prop := t = { s with flg := t.flg } ∧ ∀ d : CoreId, d ≠ c → t.flg.units[d] = s.flg.units[d]
    (∀ n : Fin 16, s.dbgLock = false → r.armed = true → r.proxyoff = false → r.isLate t0 = false → r.enabled.getLsbD n.val = true →
      r.done.getLsbD n.val = false → r.open' ≤ r.since t0 → Answers (.proxyCheckin c n) s fun t => unitOnly t ∧ t.flg.evt = s.flg.evt ∧
        (t.flg.units[c]).done = setB r.done n.val true ∧ (t.flg.units[c]).nProxy = satInc r.nProxy ∧
        (t.flg.units[c]).proxm = setB r.proxm n.val true ∧ (t.flg.units[c]).last[n] = t0 ∧ (t.flg.units[c]).st = r.st) ∧
    (∀ n : Fin 16, s.dbgLock = false → r.armed = true → r.proxyoff = false → r.isLate t0 = false → r.enabled.getLsbD n.val = true →
      r.done.getLsbD n.val = false → r.since t0 < r.open' →
      exec (.proxyCheckin c n) s = .next (s.modFlg fun F => { F with proxies := F.proxies ++ [(c, n)] })) ∧
    (∀ n : Fin 16, s.flg.proxies = [(c, n)] → s.pending = [] → s.upd.step ≠ .files → r.armed = true → r.proxyoff = false →
      r.isLate t0 = false → r.enabled.getLsbD n.val = true → r.done.getLsbD n.val = false → r.since t0 < r.open' →
      ∃ t, step s = .next t ∧ (t.flg.units[c]).st = .fallen ∧ (t.flg.units[c]).lastCause = 2 ∧ t.flg.evt.getLsbD c.val = true) ∧
    (∀ n : Fin 16, (s.dbgLock = true ∨ r.proxyoff = true ∨ (r.armed = false ∧ r.st ≠ .fallen)) →
      exec (.proxyCheckin c n) s = .next s) ∧
    (r.isLate t0 = true → Answers (.flagLate c) s (Fallen c 4 s)) ∧
    (r.isLate t0 = false → r.st ≠ .fallen → exec (.flagLate c) s = .next s) ∧
    (r.fellIn s.us t0 = true → r.asFell.isLate t0 = true → 4 < r.lastCause.toNat → Answers (.flagLate c) s fun t => unitOnly t ∧
      (t.flg.units[c]).lastCause = 4 ∧ (t.flg.units[c]).st = u.st ∧ (t.flg.units[c]).nFall = u.nFall ∧ t.flg.evt = s.flg.evt) ∧
    (u.armed = true → 3 ≤ u.misses → Answers (.flagClockCheck c true) s (Fallen c 1 s)) ∧
    (u.armed = true → u.misses < 3 →
      exec (.flagClockCheck c true) s = .next (s.modUnit c fun u => { u with clkmiss := true, misses := u.misses + 1 })) ∧
    (u.armed = true → exec (.flagClockCheck c false) s = .next (s.modUnit c fun u => { u with clkmiss := false, misses := 0 })) ∧
    (∀ m, u.armed = false → u.st ≠ .fallen → exec (.flagClockCheck c m) s = .next s) ∧
    (s.regsUp = true → s.flg.unit.toNat = c.val → s.corePresent c = true → r.armed = true →
      Answers .flagForce s fun t => Fallen c (if r.isLate t0 then 4 else 5) s t ∧ t.flg.cmd = { cmd := 0xF1, cst := 1 }) ∧
    (s.regsUp = true → s.flg.unit.toNat = c.val → (s.corePresent c = false ∨ r.armed = false) →
      exec .flagForce s = .next (s.modFlg fun F => { F with cmd := { cmd := 0xF1, cst := 2 } })) ∧
    (∀ q : Fin 10, (q ≠ 9 ∨ s.rcv.rung4 ≠ .pulse ∨ 9 ∈ s.flg.pulses.erase 9) →
      exec (.flagPulseEnd q) s = .next (s.modFlg fun F => { F with pulses := F.pulses.erase q })) ∧
    (s.rcv.rung4 = .pulse → 9 ∉ s.flg.pulses.erase 9 → exec (.flagPulseEnd 9) s =
      .next { s with flg := { s.flg with pulses := s.flg.pulses.erase 9 }, rcv := { s.rcv with rung4 := .wait } })

/-- The recovery ladder: the six REC commands, from the host, the tunnel or the arbiter, with their refusals; the
steps and failures of a restart; HALT; RST_N (R306-R314, R324, R418). The model's choices: logs 1, 153, 156. -/
def Obligations.RecoveryLadder : Prop :=
  ∀ s : State,
    let r := s.rcv
    let refused (i : Instr) (cmd cst : Byte) : Prop := exec i s = .next (s.modRec fun x => { x with cmd := { cmd, cst } })
    let halted (t : State) : Prop := ∀ p, s.present p = true → (t.port p).pw.mode = .off ∧ (t.port p).sp.cen = false ∧
      (t.port p).tc.st = .disabled ∧ (t.port p).tc.vconn = false ∧ (t.port p).ct.conv = 0 ∧ t.ldg.grant[p] = 0 ∧
      (t.port p).pw.dscHw = ((s.port p).pw.dscHw || !((s.port p).pw.lid && (s.port p).pw.lidDsc))
    let down (c : CoreId) (t : State) : Prop := (t.core c).run = none ∧ (t.core c).jobs = [] ∧ (t.core c).timers = Vector.replicate 8 {}
    (∀ w : Who, (w = .host ∨ w = .arbiter ∨ w = .tunnel) → s.regsUp = true →
      (∀ p : PortId, r.arg.toNat = p.val → s.present p = true → s.phase ≠ .halt →
        (r.fstop.getLsbD p.val = false → r.stage[p] = .none →
          Answers (.restartCore w) s (fun t => t.ports = s.ports ∧ t.rcv.cmd = { cmd := 0x21, cst := 3 } ∧ down (fileCore p) t ∧
            t.rcv.stage[p] = (if w = .arbiter ∨ s.arbUp = false then .copying else .stopped) ∧
            t.rcv.rcnt[fileCore p] = satInc r.rcnt[fileCore p] ∧ t.ldg.rsvF[p] = 0 ∧ t.ldg.grant = s.ldg.grant) ∧
          Answers (.reinitPort w) s (fun t => (t.port p).tc.st = .errorRecovery ∧ t.ldg.grant[p] = 0 ∧ t.ldg.rsv p = 0 ∧
            down (fileCore p) t ∧ t.rcv.cmd = { cmd := 0x22, cst := 3 } ∧ t.rcv.stage[p] ≠ .none ∧ otherPorts p s t)) ∧
        (r.fstop.getLsbD p.val = true → refused (.restartCore w) 0x21 2 ∧ refused (.reinitPort w) 0x22 2 ∧
          Answers (.releaseCore w) s fun t => t.ports = s.ports ∧ t.rcv.fstop.getLsbD p.val = false ∧
            t.rcv.cmd = { cmd := 0x24, cst := 1 } ∧ t.rcv.stage[p] ≠ .none ∧ down (fileCore p) t) ∧
        (r.fstop.getLsbD p.val = false → refused (.releaseCore w) 0x24 2)) ∧
      (8 ≤ r.arg.toNat → refused (.restartCore w) 0x21 2 ∧ refused (.reinitPort w) 0x22 2 ∧ refused (.releaseCore w) 0x24 2) ∧
      (r.arg = 0 → s.phase ≠ .halt → r.arb = .running → Answers (.restartArb w) s fun t => t.ports = s.ports ∧ down arbiterId t ∧
        t.rcv.arb = .restarting ∧ t.rcv.cmd = { cmd := 0x23, cst := 3 } ∧ (t.core arbiterId).image = none ∧
        t.ldg.rsvA = Vector.replicate 8 0 ∧ t.ldg.grant = s.ldg.grant) ∧
      (r.arg = 0 → s.phase ≠ .halt → r.arb ≠ .running → refused (.restartArb w) 0x23 1) ∧
      (r.arg ≠ 0 → refused (.restartArb w) 0x23 2) ∧
      (r.arg = 0x3C → Answers (.deviceReset w) s fun t => t.phase = .sense ∧ t.rcv.devReset = true ∧
        t.rcv.cause.getLsbD (if w = .arbiter then 3 else 2) = true ∧ (∀ c, down c t ∧ (t.core c).image = none) ∧
        (∀ p, (t.port p).ct = (s.port p).ct ∧ (t.port p).pw = (s.port p).pw ∧ (t.port p).sp = (s.port p).sp ∧
          (t.port p).mn = (s.port p).mn ∧
          (t.port p).tc = (if (s.port p).ct.pd3 then { (s.port p).tc with rp := 2 } else (s.port p).tc)) ∧ t.ldg.grant = s.ldg.grant ∧
        t.fab.xin = s.fab.xin ∧ t.fab.ftime = s.fab.ftime ∧ t.otp.cells = s.otp.cells) ∧
      (r.arg ≠ 0x3C → refused (.deviceReset w) 0x30 2) ∧
      (r.arg = 0x4B → s.phase ≠ .halt → r.cfg.getLsbD 0 = true → Answers (.powerCycle w) s fun t => t.rcv.rung4 = .pulse ∧
        9 ∈ t.flg.pulses ∧ t.rcv.cmd = { cmd := 0x40, cst := 3 } ∧ t.rcv.cause.getLsbD 9 = true ∧ t.phase = s.phase ∧
        ∀ p, (t.port p).tc = (s.port p).tc ∧ (s.present p = true → (t.port p).pw.mode = .off ∧ (t.port p).pw.ga = false ∧
          (t.port p).pw.gb = false) ∧ (s.present p = false → t.port p = s.port p)) ∧
      (r.arg = 0x4B → s.phase ≠ .halt → r.cfg.getLsbD 0 = false → Answers (.powerCycle w) s fun t => t.phase = .halt ∧
        t.rcv.rung4 = .none ∧ t.rcv.cmd = { cmd := 0x40, cst := 1 } ∧ t.rcv.cause.getLsbD 9 = true ∧ halted t) ∧
      (r.arg = 0x4B → s.phase = .halt → Answers (.powerCycle w) s fun t => t.phase = .halt ∧ t.ports = s.ports ∧
        t.rcv.cmd = { cmd := 0x40, cst := 1 } ∧ t.flg.pulses = (if r.cfg.getLsbD 0 then s.flg.pulses ++ [9] else s.flg.pulses)) ∧
      (r.arg ≠ 0x4B → refused (.powerCycle w) 0x40 2)) ∧
    (∀ p, exec (.restartCore (.file p)) s = .next s ∧ exec (.reinitPort (.file p)) s = .next s ∧
      exec (.restartArb (.file p)) s = .next s ∧ exec (.releaseCore (.file p)) s = .next s ∧
      exec (.deviceReset (.file p)) s = .next s ∧ exec (.powerCycle (.file p)) s = .next s) ∧
    (s.aoOn = true → ∀ p : PortId,
      (r.stage[p] = .stopped → Answers (.coreRestartBegin p) s fun t => t.rcv.stage[p] = .copying ∧ (t.core (fileCore p)).code = [] ∧
        (t.core (fileCore p)).st = .loading ∧ t.ports = s.ports ∧ t.ldg = s.ldg) ∧
      (r.stage[p] ≠ .stopped → exec (.coreRestartBegin p) s = .next s) ∧
      (∀ im n, r.stage[p] = .copying → s.upd.fileImg = some im → (s.core (fileCore p)).awaits = [] →
        ({ s.core (fileCore p) with image := some im } : Core).slotFor 0 none = some n → Answers (.coreRestartLoaded p true) s fun t =>
          t.rcv.stage[p] = .starting ∧ (t.core (fileCore p)).image = some im ∧ (t.core (fileCore p)).st = .loading ∧ t.ports = s.ports ∧
          ∃ j, (t.core (fileCore p)).jobs = (s.core (fileCore p)).jobs ++ [j] ∧ j.cls = 0 ∧ j.slot = n ∧ j.arg = 1) ∧
      (r.stage[p] = .copying → s.inSave = false → Answers (.coreRestartLoaded p false) s fun t => t.phase = .sense ∧
        t.rcv.devReset = true ∧ t.rcv.cause.getLsbD 8 = true) ∧
      (r.stage[p] ≠ .copying → ∀ b, exec (.coreRestartLoaded p b) s = .next s) ∧
      (r.stage[p] ≠ .none → s.inSave = false → (recentTimes s.tmb.slow slow10s r.fileTimes[p]).length < 3 →
        Answers (.restartBoundExpiry (fileCore p)) s fun t => t.rcv.stage[p] ≠ .none ∧ t.ports = s.ports ∧
          t.rcv.rcnt[fileCore p] = satInc r.rcnt[fileCore p] ∧ down (fileCore p) t) ∧
      (r.stage[p] ≠ .none → s.inSave = false → 3 ≤ (recentTimes s.tmb.slow slow10s r.fileTimes[p]).length →
        Answers (.restartBoundExpiry (fileCore p)) s fun t => t.rcv.fstop.getLsbD p.val = true ∧ t.rcv.stage[p] = .none ∧
          t.rcv.evt.getLsbD 3 = true ∧ t.ldg.grant[p] = 0 ∧ down (fileCore p) t ∧ otherPorts p s t) ∧
      (r.stage[p] = .none → exec (.restartBoundExpiry (fileCore p)) s = .next s)) ∧
    (s.aoOn = true →
      let img := s.upd.pal .arb
      let ce := some s.arbCodeEnd
      let fits (b0 b1 : List FlashSec) (i : Fin 2) : Prop := (s.upd.found b0 b1).readable .arb i = true ∧ ((s.upd.booted .arb).map Img.digest) = some s.upd.digest
      ((r.arb ≠ .restarting ∨ s.romPhase = true) → ∀ b0 b1, exec (.arbiterRestartLoaded b0 b1) s = .next s) ∧
      (∀ i n b0 b1, r.arb = .restarting → s.romPhase = false → (s.core arbiterId).image = none → s.upd.step ≠ .arbiter →
        (s.core arbiterId).awaits = [] → s.upd.bootSlot .arb = some i → fits b0 b1 i → (img.judge ce).code = 0 →
        ({ s.core arbiterId with image := some (img.loadedAt ce) } : Core).slotFor 0 none = some n →
        Answers (.arbiterRestartLoaded b0 b1) s fun t => (t.core arbiterId).image = some (img.loadedAt ce) ∧
          (t.core arbiterId).st = .loading ∧ t.rcv.arb = .restarting ∧ t.ports = s.ports ∧
          ∃ j, (t.core arbiterId).jobs = (s.core arbiterId).jobs ++ [j] ∧ j.cls = 0 ∧ j.slot = n ∧ j.arg = 1) ∧
      (∀ b0 b1, r.arb = .restarting → s.romPhase = false → (s.core arbiterId).image = none → s.inSave = false → s.upd.step ≠ .arbiter →
        (∀ i, s.upd.bootSlot .arb = some i → ¬fits b0 b1 i) → (recentTimes s.tmb.slow slow10s r.arbTimes).length < 3 →
        Answers (.arbiterRestartLoaded b0 b1) s fun t => t.rcv.arb = .restarting ∧ t.rcv.rcnt[arbiterId] = satInc r.rcnt[arbiterId] ∧
          t.ports = s.ports)) ∧
    (s.aoOn = true → r.rung4 = .wait → s.inSave = false → Answers .haltEntry s fun t => t.phase = .halt ∧
      t.rcv.evt.getLsbD 4 = true ∧ halted t ∧ ∀ p, s.present p = false → t.port p = s.port p) ∧
    (s.aoOn = true → r.rung4 = .wait → s.inSave = true → exec .haltEntry s = .next s.heldRequest) ∧
    (r.rung4 ≠ .wait → exec .haltEntry s = .next s) ∧
    (∀ us, 10 ≤ us → s.phase ≠ .unpowered → s.phase ≠ .startMode → s.inSave = false → Answers (.rstNPulse us) s fun t =>
      t.phase = .sense ∧ t.rcv.devReset = true ∧ t.rcv.cause.getLsbD 1 = true ∧ ∀ p, (t.port p).ct = (s.port p).ct) ∧
    (∀ us, 5 ≤ us → us < 10 → s.phase ≠ .unpowered → s.phase ≠ .startMode → s.inSave = false → Answers (.rstNPulse us) s fun t =>
      t = { s with freeCtr := s.freeCtr + 1 } ∨ (t.phase = .sense ∧ t.rcv.devReset = true ∧ t.rcv.cause.getLsbD 1 = true)) ∧
    (∀ us, us < 5 → exec (.rstNPulse us) s = .next s)

/-! ### Power-up and boot (17, 13) -/

/-- Power-on, start mode and its exit and loss, VIO, the crystal, the OTP sense, the loads of both images, and the
ports going live; the flash devices are judged by their tables, and an arbiter image that cannot be read is refused
(R282, R314, R330, R340, R342, R356, R388, R390-R394). The model's choices: logs 10, 13, 37, 144, 156. -/
def Obligations.StartingUp : Prop :=
  ∀ s : State,
    let kept (t : State) : Prop := t.otp.cells = s.otp.cells ∧ t.fed.slot0 = s.fed.slot0 ∧ t.fed.slot1 = s.fed.slot1 ∧
      t.upd.arb.slots = s.upd.arb.slots ∧ t.upd.file.slots = s.upd.file.slots ∧ t.upd.set.slots = s.upd.set.slots ∧
      t.upd.recs = s.upd.recs ∧ t.upd.ring = s.upd.ring
    let boots (t : State) : Prop := t.otp.sensed = true ∧ t.otp.cells = s.otp.cells ∧
      (t.phase = .bootRom ∨ t.phase = .service ∨ t.phase = .provision) ∧
      (sfdpUsable s.pins.flash0 = false → sfdpUsable s.pins.flash1 = false → t.phase ≠ .bootRom) ∧
      t.upd.mirror = (sfdpUsable s.pins.flash0 && sfdpUsable s.pins.flash1) ∧
      (t.phase = .service → t.upd.boot = .service) ∧ (t.phase = .provision → t.upd.boot = .provision)
    (∀ b : Board, s.phase ≠ .startMode → s.inSave = false → Answers (.powerOnReset b) s fun t => t.phase = .sense ∧ kept t ∧
      t.hbs.adr = b.adr ∧ t.pins.flash0 = b.flash0 ∧ t.pins.flash1 = b.flash1 ∧ t.bootArg = 0 ∧ t.ldg = {} ∧ t.fab = {} ∧ (∀ p, t.port p = {}) ∧ ∀ c, t.core c = {}) ∧
    (∀ b, s.phase = .startMode → exec (.powerOnReset b) s = .next s) ∧
    (∀ src, s.phase = .unpowered → (∀ p, src = .vb p → s.fitted p = true) → Answers (.startModeEntry src) s fun t => t.phase = .startMode ∧
      kept t ∧ t.tmb.smsrc = (match src with
        | .vhv => 1
        | .vb p => BitVec.ofNat 4 (8 + p.val)) ∧ ∀ p, t.port p = {}) ∧
    (∀ src, (s.phase ≠ .unpowered ∨ ∃ p, src = .vb p ∧ s.fitted p = false) → exec (.startModeEntry src) s = .next s) ∧
    (∀ b ms, s.phase = .startMode → Answers (.startModeExit b ms) s fun t => t.phase = .sense ∧ kept t ∧ t.tmb.startmode = true ∧
      t.tmb.smtime = BitVec.ofNat 32 ms ∧ (∀ p, (t.port p).tc = { (s.port p).tc with evt := 0 } ∧ (t.port p).pw = {} ∧
        (t.port p).ct.conv = 0 ∧ (t.port p).ct.attpr = (s.port p).ct.attpr) ∧ ∀ c, t.core c = {}) ∧
    (∀ b ms, s.phase ≠ .startMode → exec (.startModeExit b ms) s = .next s) ∧
    (s.phase = .startMode → Answers .startModeLoss s fun t => t.phase = .unpowered ∧ kept t ∧ ∀ p, t.port p = {}) ∧
    (s.phase ≠ .startMode → exec .startModeLoss s = .next s) ∧
    (s.pins.vioOk = true → s.phase ≠ .unpowered → Answers .vioLoss s fun t => t = { s with pins := t.pins, tmb := t.tmb } ∧
      t.pins.vioOk = false ∧ t.pins.vio < 1500 ∧ t.tmb = { s.tmb with evt := setB s.tmb.evt 2 true }) ∧
    (s.pins.vioOk = false → exec .vioLoss s = .next s) ∧
    (s.pins.vioOk = false → s.phase ≠ .unpowered → s.phase ≠ .waitVio → Answers .vioReturn s fun t =>
      t = { s with pins := t.pins, tmb := t.tmb } ∧ t.pins.vioOk = true ∧ 1650 ≤ t.pins.vio ∧
      t.tmb = { s.tmb with evt := setB s.tmb.evt 3 true }) ∧
    (s.pins.vioOk = false → s.phase = .waitVio → s.otp.sensed = true → Answers .vioReturn s boots) ∧
    (s.pins.vioOk = true → exec .vioReturn s = .next s) ∧
    (s.otp.sensed = true → s.tmb.xtalen = true → s.tmb.xtalfail = false → s.tmb.mainsrc = false →
      exec .xtalSwitch s = .next (s.modTmb fun t => { t with xtalok := true, mainsrc := true, evt := setB t.evt 0 true })) ∧
    ((s.otp.sensed = false ∨ s.tmb.xtalen = false ∨ s.tmb.xtalfail = true ∨ s.tmb.mainsrc = true) → exec .xtalSwitch s = .next s) ∧
    (s.tmb.mainsrc = true →
      exec .xtalFail s = .next (s.modTmb fun t => { t with mainsrc := false, xtalfail := true, evt := setB t.evt 1 true })) ∧
    (s.tmb.mainsrc = false → exec .xtalFail s = .next s) ∧
    (s.phase = .sense → s.pins.vioOk = true → Answers .otpSenseDone s boots) ∧
    (s.phase = .sense → s.pins.vioOk = false → Answers .otpSenseDone s fun t => t = { s with otp := t.otp, phase := .waitVio, freeCtr := t.freeCtr } ∧
      t.otp.sensed = true ∧ t.otp.cells = s.otp.cells ∧ (∀ i : Fin 4, t.otp.sticky.getLsbD i.val = true ∨ i = 3) ∧
      ∀ (k : Fin 16) (i : Fin 256), i.val / 16 = k.val → s.otp.weakBits k = 0 → s.otp.sealCode k ≠ 2 →
        t.otp.shadow[i] = maj3 (s.otp.cells[(⟨i.val, by omega⟩ : Fin 288)]).n) ∧
    (s.phase ≠ .sense → exec .otpSenseDone s = .next s) ∧
    (let img := (s.upd.pal .arb).loadedAt (some s.arbCodeEnd);
      let readable (r : FlashRead) : Bool := (s.upd.slotRead .arb r).bootable .arb
      (∀ n r, s.phase = .bootRom → readable r = true → ((s.upd.pal .arb).judge (some s.arbCodeEnd)).code = 0 → (s.core arbiterId).awaits = [] →
      ({ s.core arbiterId with image := some img } : Core).slotFor 0 none = some n →
      Answers (.arbiterImageVerified r) s fun t => t.phase = .arbStart ∧ (t.core arbiterId).image = some img ∧
        (t.core arbiterId).st = .loading ∧ t.ports = s.ports ∧ t.upd.digest = ((s.upd.booted .arb).map Img.digest).getD 0 ∧
        ∃ j, (t.core arbiterId).jobs = (s.core arbiterId).jobs ++ [j] ∧ j.cls = 0 ∧ j.slot = n ∧ j.arg = s.bootArg) ∧
      (∀ r, s.phase = .bootRom → readable r = false → Answers (.arbiterImageVerified r) s fun t => t.cores = s.cores ∧ t.ports = s.ports ∧
        (t.phase = .service ∨ (t.phase = .bootRom ∧ t.upd.bootSlot .arb ≠ none)))) ∧
    (∀ r, s.phase ≠ .bootRom → exec (.arbiterImageVerified r) s = .next s) ∧
    (let img := (s.upd.pal .file).loaded;
      ∀ r, (s.upd.slotRead .file r).bootable .file = true → s.phase = .fileStart → s.upd.fileImg = none → s.rcv.arb = .running → s.upd.step = .none → s.upd.fallback = false →
      ((s.upd.pal .file).judge none).code = 0 →
      (∀ p : PortId, (s.core (fileCore p)).awaits = [] ∧
        ({ s.core (fileCore p) with image := some img } : Core).slotFor 0 none ≠ none) →
      Answers (.fileImageCertified r) s fun t => t.upd.fileImg = some img ∧ t.phase = .fileStart ∧ t.ports = s.ports ∧
        ∀ p : PortId, (s.present p = true → s.rcv.fstop.getLsbD p.val = false → (t.core (fileCore p)).image = some img ∧
          (t.core (fileCore p)).st = .loading ∧ ∃ j ∈ (t.core (fileCore p)).jobs, j.cls = 0 ∧ j.arg = s.bootArg) ∧
        ((s.present p = false ∨ s.rcv.fstop.getLsbD p.val = true) → t.core (fileCore p) = s.core (fileCore p))) ∧
    (∀ r, s.phase ≠ .fileStart → s.upd.step ≠ .loader → exec (.fileImageCertified r) s = .next s) ∧
    (∀ im, s.phase = .fileStart → s.upd.fileImg = some im → Answers .portsLive s fun t => t.phase = .live ∧ t.glb.live = true ∧
      t.rcv.devReset = false ∧ (s.rcv.devReset = true → t.rcv.evt.getLsbD 2 = true) ∧ (s.bootArg = 2 → t.fed.evt.getLsbD 9 = true) ∧
      (s.bootArg ≠ 2 → t.cores = s.cores) ∧ ∀ p, (t.port p).tc = (s.port p).tc ∧
        (t.port p).ct = (s.port p).ct ∧ (t.port p).pd.hrwait = ((s.port p).pd.hrwait || decide ((s.port p).ct.hrseq ≠ .none))) ∧
    ((s.phase ≠ .fileStart ∨ s.upd.fileImg = none) → exec .portsLive s = .next s)

/-! ### OTP and position (13, 14) -/

/-- OTP reads, programming, seals, the end of a command, overrides, sticky locks and the unlock; the position is
taken, assembled and released (R316, R319, R332-R338). The model's choices: logs 33, 34, 60. -/
def Obligations.OtpAndPosition : Prop :=
  ∀ s : State, s.regsUp = true →
    let o := s.otp
    let begun (cmd : Byte) (k : OtpCmd) (o : Otp) : Otp := { o with
      cmd := { cmd, cst := 3 }, abandon := false, running := some k, runAddr := o.waddr, runData := o.data }
    let refused (i : Instr) (cmd rsn : Byte) : Prop := exec i s = .next (s.modOtp fun o => { o with
      cmd := { cmd, cst := 2 }, abandon := false, rsn })
    let refusedB (i : Instr) (cmd rsn : Byte) : Prop := exec i s = .next (s.modOtp fun o => { o with
      cmd := { cmd, cst := 2 }, abandon := false, unlkArmed := false, rsn })
    (∀ (i : Instr) (cmd : Byte) (k : OtpCmd), (i = .readn ∧ cmd = 0x52 ∧ k = .readn ∨ i = .reads ∧ cmd = 0x53 ∧ k = .reads) → o.ctrlflt = false →
      (0x10F < o.waddr.toNat → refused i cmd 1) ∧
      (o.waddr.toNat ≤ 0x10F → (o.running ≠ none ∨ o.sensed = false) → refused i cmd 9) ∧
      (o.waddr.toNat ≤ 0x10F → o.running = none → o.sensed = true → exec i s = .next (s.modOtp (begun cmd k)))) ∧
    (∀ (lock : Bool), o.ctrlflt = false →
      let i := if lock then Instr.sealRegion else Instr.program
      let cmd : Byte := if lock then 0x4C else 0x50
      let r := waddrRegion o.waddr
      let addr : Prop := if lock then o.waddr.toNat < 0x100 else o.waddr.toNat ≤ 0x10F
      (¬ addr → refusedB i cmd 1) ∧
      (addr → o.unlkArmed = false → refusedB i cmd 2) ∧
      (addr → o.unlkArmed = true → o.running = none → o.sensed = true →
        (o.sticky.getLsbD r.val = true → refusedB i cmd 3) ∧
        (o.sticky.getLsbD r.val = false → o.lockf.getLsbD r.val = true → refusedB i cmd 4) ∧
        (o.sticky.getLsbD r.val = false → o.lockf.getLsbD r.val = false →
          (lock = true ∨ (o.waddr.toNat / 16 ≠ 4 ∧ maj3 (o.cells[waddrIx o.waddr]).n &&& ~~~o.data = 0)) →
          4750 ≤ s.pins.v5 → 0 ≤ s.pins.dieT → s.pins.dieT ≤ 85 →
          exec i s = .next (s.modOtp fun o => { begun cmd (if lock then .sealRegion else .program) o with unlkArmed := false })))) ∧
    (let ends (k : OtpCmd) (ok : Bool) (bad : Word) (Q : State → Prop) : Prop := o.running = some k →
        Answers (.otpCommandEnd ok bad) s fun t => t = { s with otp := t.otp, freeCtr := t.freeCtr } ∧ t.otp.running = none ∧
          t.otp.evt.getLsbD 0 = true ∧ t.otp.shadow = o.shadow ∧ otpKept s t ∧ Q t;
      let c := o.cells[waddrIx o.runAddr];
      (∀ k bad, ends k false bad fun t => t.otp.cmd.cst = 5 ∧ t.otp.ctrlflt = true ∧ t.otp.cells = o.cells) ∧
      (∀ bad, ends .readn true bad fun t => t.otp.cmd.cst = 1 ∧ t.otp.cells = o.cells ∧ ∀ i, i < 32 →
        t.otp.data.getLsbD i = decide (2 ≤ (List.finRange 3).countP fun k => (c.n[k]).getLsbD i)) ∧
      (∀ bad, ends .reads true bad fun t => t.otp.cmd.cst = 1 ∧ t.otp.cells = o.cells ∧ ∀ i, i < 32 →
        t.otp.data.getLsbD i = decide (2 ≤ (List.finRange 3).countP fun k => (c.s[k]).getLsbD i)) ∧
      (ends .program true 0 fun t => t.otp.cmd.cst = 1 ∧ (∀ j, j ≠ waddrIx o.runAddr → t.otp.cells[j] = o.cells[j]) ∧
        ∀ k : Fin 3, ((t.otp.cells[waddrIx o.runAddr]).s[k]) &&& o.runData = o.runData) ∧
      (∀ bad, (o.runData &&& ~~~((c.s[0]) &&& (c.s[1]) &&& (c.s[2]))) &&& bad ≠ 0 → ends .program true bad fun t => t.otp.cmd.cst = 4 ∧
        ∀ j, j ≠ waddrIx o.runAddr → t.otp.cells[j] = o.cells[j]) ∧
      (∀ bad, o.whole (waddrRegion o.runAddr) = false → ends .sealRegion true bad fun t => t.otp.cmd.cst = 2 ∧ t.otp.rsn = 7 ∧
        t.otp.cells = o.cells) ∧
      (o.whole (waddrRegion o.runAddr) = true → ends .sealRegion true 0 fun t => t.otp.cmd.cst = 1 ∧
        t.otp.lockf = setB o.lockf (waddrRegion o.runAddr).val true) ∧
      (∀ ok bad, o.running = none → exec (.otpCommandEnd ok bad) s = .next s)) ∧
    (∀ v : Half, Answers (.otpOvrWrite v) s fun t => t = { s with otp := { o with ovr := t.otp.ovr, evt := t.otp.evt } } ∧
      ∀ i, i < 16 → t.otp.ovr.getLsbD i = (v.getLsbD i && (o.ovr.getLsbD i ||
        (decide (5 ≤ i) && !o.lockf.getLsbD i && !o.sticky.getLsbD i)))) ∧
    (∀ v : Half, exec (.otpStickyWrite v) s = .next (s.modOtp fun o => { o with sticky := o.sticky ||| v, ovr := o.ovr &&& ~~~v })) ∧
    (∀ v : Half, exec (.otpUnlkWrite v) s = .next (s.modOtp fun o => { o with unlk := v, unlkArmed := decide (v = 0x0AF5) })) ∧
    (s.pos.busy = true → exec .take s = .next { s with pos := { s.pos with cmd := { cmd := 0x51, cst := 2 } } }) ∧
    (s.pos.busy = false → Answers .take s fun t => t = { s with pos := t.pos } ∧ t.pos.cmd = { cmd := 0x51, cst := 3 } ∧
      t.pos.busy = true ∧ t.pos.ready = false ∧ t.pos.taken = s.pos.taken + 1 ∧ t.pos.latchAt = some (s.now + 1)) ∧
    (Answers .release s fun t => t = { s with pos := t.pos } ∧ t.pos.ready = false ∧ t.pos.busy = false ∧ t.pos.image = [] ∧
      t.pos.taken = s.pos.taken) ∧
    (s.pos.busy = true → Answers .positionReady s fun t => t = { s with pos := t.pos } ∧ t.pos.ready = true ∧ t.pos.busy = false ∧
      t.pos.cmd.cst = 1 ∧ (s.pos.latchAt = none → t.pos.image = s.pos.image) ∧
      (s.pos.latchAt ≠ none → t.pos.image = s.posImage ∧ t.pos.image.length = 21824)) ∧
    (s.pos.busy = false → exec .positionReady s = .next s)

/-! ### Update (15) -/

/-- A transfer: BEGIN, chunks, END, the install, ABORT and the erase, with their refusals (R345, R346). The model's
choices: logs 13, 59. -/
def Obligations.TransfersInstallImages : Prop :=
  ∀ s : State, s.regsUp = true →
    let u := s.upd
    let only (t : State) : Prop := t = { s with upd := t.upd } ∧ t.upd.arb = u.arb ∧ t.upd.file = u.file ∧ t.upd.set = u.set
    (s.beginCode = 0 → Answers .updBegin s fun t => only t ∧ t.upd.xfer = .receiving ∧ t.upd.cmd = { cmd := 0x42, cst := 1 } ∧
      t.upd.xkind = kindOf (u.stagedHdr.getD 3 0).toNat ∧ t.upd.staging = u.staging ∧ t.upd.evt = setB u.evt 0 true) ∧
    (s.beginCode ≠ 0 → Answers .updBegin s fun t => only t ∧ t.upd.cmd = { cmd := 0x42, cst := 2 } ∧
      t.upd.rsn = BitVec.ofNat 8 s.beginCode ∧ t.upd.xfer = u.xfer) ∧
    (s.updCond true = 0 → (u.trial = true → s.beginCode = 0x14) ∧ (u.trial = false → u.sched = true → s.beginCode = 0x15) ∧
      (u.trial = false → u.sched = false → u.xfer ≠ .idle → s.beginCode = 0x16 ) ∧
      (u.trial = false → u.sched = false → u.xfer ≠ .receiving → s.endCode = 0x16)) ∧
    (∀ k, s.endCode = 0 → u.xkind = some k → Answers .updEnd s fun t => t = { s with upd := t.upd } ∧ t.upd.xfer = .ending ∧
      t.upd.cmd = { cmd := 0x45, cst := 3 } ∧ (t.upd.kind k).conf = (u.kind k).conf ∧ (t.upd.kind k).pend = none ∧
      (∀ i, (u.kind k).conf = some i → (t.upd.kind k).slots[1 - i] = none ∧ (t.upd.kind k).slots[i] = (u.kind k).slots[i]) ∧
      ∀ j, j ≠ k → t.upd.kind j = u.kind j) ∧
    (s.endCode ≠ 0 → Answers .updEnd s fun t => only t ∧ t.upd.cmd = { cmd := 0x45, cst := 2 } ∧
      t.upd.rsn = BitVec.ofNat 8 s.endCode ∧ t.upd.xfer = u.xfer) ∧
    (Answers .updAbort s fun t => only t ∧ t.upd.xfer = (if u.ctl.getLsbD 2 then .kept else .erasing) ∧ t.upd.cmd = { cmd := 0x41, cst := 1 }) ∧
    (Answers .updErase s fun t => only t ∧ t.upd.xfer = .erasing ∧ t.upd.cmd = { cmd := 0x5A, cst := 3 }) ∧
    (∀ (off : Word) (d : List Byte), d.length = 28 → s.memOk → off.toNat % 4 = 0 → u.chunkBusy = false →
      let at' (t : State) (a : Nat) : Byte := Mem.read 0xFF t.upd.staging a
      let wrote (lo hi : Nat) (t : State) : Prop := only t ∧ t.upd.chunkBusy = true ∧ t.upd.xfer = u.xfer ∧ t.memOk ∧
        ∀ a, at' t a = if off.toNat ≤ a ∧ a < off.toNat + 28 ∧ lo ≤ a ∧ a < hi then d.getD (a - off.toNat) 0 else at' s a
      (u.xfer = .idle → Answers (.hostChunk off d) s (wrote 0 256)) ∧
      (u.xfer = .receiving → Answers (.hostChunk off d) s (wrote 256 (256 + u.xlen)))) ∧
    (∀ (off : Word) (d : List Byte), (u.chunkBusy = true ∨ off.toNat % 4 ≠ 0 ∨ (u.xfer ≠ .idle ∧ u.xfer ≠ .receiving)) →
      Answers (.hostChunk off d) s fun t => only t ∧ t.upd.staging = u.staging ∧ t.upd.chunkErr = satInc u.chunkErr ∧
        t.upd.chunkBusy = u.chunkBusy) ∧
    exec .chunkWriteDone s = .next (s.modUpd fun u => { u with chunkBusy := false }) ∧
    (∀ k pal, u.xfer = .ending → u.xkind = some k → u.noFlash = false → Answers (.installDone { ok := true, pal }) s fun t => t = { s with upd := t.upd } ∧
      (∃ i, (t.upd.kind k).pend = some i ∧ (u.kind k).conf ≠ some i ∧ (t.upd.kind k).slots[i] = some
        { hdr := u.stagedHdr, body := u.stagedBody, pal := if k = .set then none else pal }) ∧ (t.upd.kind k).conf = (u.kind k).conf ∧ t.upd.cmd.cst = 1 ∧
      t.upd.evt.getLsbD 1 = true ∧ t.upd.xfer = (if u.ctl.getLsbD 2 then .kept else .installed) ∧ ∀ j, j ≠ k → t.upd.kind j = u.kind j) ∧
    (∀ k pal ok, u.xfer = .ending → u.xkind = some k → (ok = false ∨ u.noFlash = true) → Answers (.installDone { ok, pal }) s fun t => only t ∧ t.upd.xfer = .receiving ∧
      t.upd.cmd.cst = 2 ∧ t.upd.rsn = 0x0B) ∧
    (∀ e, u.xfer ≠ .ending → exec (.installDone e) s = .next s) ∧
    ((u.xfer = .erasing ∨ u.xfer = .installed) → Answers .stagingErased s fun t => only t ∧ t.upd.staging = [] ∧ t.upd.xfer = .idle) ∧
    (u.xfer ≠ .erasing → u.xfer ≠ .installed → exec .stagingErased s = .next s)

/-- Schedules, activation, trial, confirmation, fall-back and relay (R350-R355). The model's choices: logs 58, 158. -/
def Obligations.ActivationsAndTrials : Prop :=
  ∀ s : State, s.regsUp = true →
    let u := s.upd
    let only (t : State) : Prop := t = { s with upd := t.upd }
    let arbiterGoes (t : State) : Prop := t.rcv.arb = .restarting ∧ (t.core arbiterId).run = none ∧ (t.core arbiterId).image = none ∧
      t.upd.step = .arbiter ∧ t.ports = s.ports ∧ t.ldg.grant = s.ldg.grant
    (u.fan = false →
      (s.scheduleCode u.acttime u.actver = 0 → Answers .schedule s fun t => only t ∧ t.upd.sched = true ∧ t.upd.schTime = u.acttime ∧
        t.upd.schVer = u.actver ∧ t.upd.cmd = { cmd := 0x53, cst := 1 }) ∧
      (s.scheduleCode u.acttime u.actver ≠ 0 → Answers .schedule s fun t => only t ∧ t.upd.sched = u.sched ∧
        t.upd.cmd = { cmd := 0x53, cst := 2 } ∧ t.upd.rsn = BitVec.ofNat 8 (s.scheduleCode u.acttime u.actver))) ∧
    (u.fan = true → s.fab.root = true → u.sched = false → s.scheduleCode u.acttime u.actver = 0 → Answers .schedule s fun t =>
      t = { s with upd := t.upd, fab := t.fab, freeCtr := t.freeCtr } ∧ t.upd.sched = true ∧ t.upd.cmd = { cmd := 0x53, cst := 1 } ∧
      ∃ x, x.typ = 6 ∧ x.dst = 0x3FFF ∧ FFrameNum x 0 8 = u.acttime.toNat ∧ t.fab = (s.fab.send .d0 x).send .d1 x) ∧
    (s.updCond false = 0 → u.trial = true → s.scheduleCode u.acttime u.actver = 0x14) ∧
    (Answers .cancel s fun t => only t ∧ t.upd.sched = false ∧ t.upd.cmd = { cmd := 0x43, cst := 1 } ∧ t.upd.trial = u.trial) ∧
    (∀ i : Instr, (i = .activationStart ∨ i = .activationRecheck) →
      (u.sched = true → u.schTime.toNat ≤ s.fab.ftime.toNat → (u.step = .none ∨ u.step = .recheck) →
        (s.updCond true = 0 → Answers i s fun t => arbiterGoes t ∧ t.upd.trial = true ∧ t.upd.sched = false ∧
          t.upd.trialEnd = s.fab.ftime + BitVec.ofNat 64 (fld u.ctl 20 12 * 1000000) ∧
          ∀ k : Fin 3, t.upd.tkinds.getLsbD k.val = decide (u.schVer[k] ≠ 0)) ∧
        (s.updCond true ≠ 0 → s.fab.ftime.toNat < u.schTime.toNat + 1000000 → exec i s = .next (s.modUpd fun u => { u with step := .recheck })) ∧
        (s.updCond true ≠ 0 → u.schTime.toNat + 1000000 ≤ s.fab.ftime.toNat → Answers i s fun t => only t ∧ t.upd.sched = false ∧
          t.upd.trial = u.trial ∧ t.upd.cmd.cst = 4 ∧ t.upd.rsn = BitVec.ofNat 8 (s.updCond true) ∧ t.upd.evt = setB u.evt 3 true)) ∧
      ((u.sched = false ∨ s.fab.ftime.toNat < u.schTime.toNat) → exec i s = .next s)) ∧
    (∀ p : PortId, u.step = .files → u.actPort = none → u.passed.getLsbD p.val = true → s.present p = true →
      s.rcv.fstop.getLsbD p.val = false → Answers (.quietPortRestart p) s fun t =>
      t.upd.actPort = some p ∧ t.upd.passed.getLsbD p.val = false ∧ t.rcv.stage[p] = .copying ∧ (t.core (fileCore p)).run = none ∧
      t.ports = s.ports ∧ t.ldg.grant = s.ldg.grant) ∧
    (∀ p : PortId, (u.passed.getLsbD p.val = false ∨ s.present p = false ∨ s.rcv.fstop.getLsbD p.val = true) →
      exec (.quietPortRestart p) s = .next s) ∧
    (u.trial = true → u.trialEnd.toNat ≤ s.fab.ftime.toNat → Answers .trialEnd s fun t => arbiterGoes t ∧ t.upd.trial = false ∧
      t.upd.fbcause = 1 ∧ t.upd.fallback = true ∧ ∀ k, (t.upd.kind k).conf = (u.kind k).conf) ∧
    ((u.trial = false ∨ s.fab.ftime.toNat < u.trialEnd.toNat) → exec .trialEnd s = .next s) ∧
    (u.trial = true → Answers .updRollback s fun t => arbiterGoes t ∧ t.upd.trial = false ∧ t.upd.fbcause = 2 ∧
      t.upd.cmd = { cmd := 0x52, cst := 1 } ∧ ∀ k, (t.upd.kind k).conf = (u.kind k).conf) ∧
    (u.trial = false → Answers .updRollback s fun t => only t ∧ t.upd.cmd = { cmd := 0x52, cst := 2 } ∧ t.upd.step = u.step) ∧
    (u.trial = true → s.fab.ftime.toNat < u.trialEnd.toNat → Answers .confirm s fun t => only t ∧ t.upd.trial = false ∧
      t.upd.confirm = { cmd := 0xC0, cst := 1 } ∧ t.upd.tkinds = 0 ∧
      (∀ k i, u.tkinds.getLsbD (kindIx k).val = true → (u.kind k).pend = some i → (t.upd.kind k).conf = some i ∧
        (t.upd.kind k).slots[i] = (u.kind k).slots[i]) ∧
      ∀ k, u.tkinds.getLsbD (kindIx k).val = false → t.upd.kind k = u.kind k) ∧
    ((u.trial = false ∨ u.trialEnd.toNat ≤ s.fab.ftime.toNat) →
      exec .confirm s = .next (s.modUpd fun u => { u with confirm := { cmd := 0xC0, cst := 2 } })) ∧
    (s.fab.root = true → Answers .relay s fun t => only t ∧ t.upd.relay = some 0 ∧ t.upd.cmd = { cmd := 0x4C, cst := 3 }) ∧
    (s.fab.root = false → Answers .relay s fun t => only t ∧ t.upd.relay = u.relay ∧ t.upd.cmd = { cmd := 0x4C, cst := 2 } ∧ t.upd.rsn = 0x19) ∧
    (∀ n, u.relay = some n → n < 22 → u.rdst.toNat % 2 ^ 14 ≠ 0x3FFF →
      let l := route (u.rdst.toNat % 2 ^ 14) 0
      s.fab.linkOn l = true → (s.fab.txq[l.idx]).length < 8 → Answers .relayFrameSend s fun t =>
        t = { s with upd := { u with relay := some (n + 1) }, fab := t.fab } ∧
        ∃ x, t.fab.txq = s.fab.txq.set l.idx (s.fab.txq[l.idx] ++ [x]) ∧ x.typ = 7 ∧ x.payload.getD 0 0 = 2 ∧
          ofLe ((x.payload.drop 2).take 2) = 0x5D0 ∧ ofLe ((x.payload.drop 6).take 4) = 12 * n) ∧
    (u.relay = none → exec .relayFrameSend s = .next s)

/-! ### Service port and host bus (15, 16) -/

/-- Service packet i has TYPE typ; where a register command does the same, it is j (R348). -/
def Sys2Proof.SvcRow (i : SvcPacket → Instr) (typ : Nat) (j : Option Instr) : Prop :=
  (i = .svcHello ∧ typ = 1 ∧ j = none) ∨ (i = .svcWrite ∧ typ = 2 ∧ j = none) ∨ (i = .svcBegin ∧ typ = 3 ∧ j = some .updBegin) ∨
    (i = .svcEnd ∧ typ = 4 ∧ j = some .updEnd) ∨ (i = .svcStatus ∧ typ = 5 ∧ j = none) ∨ (i = .svcSchedule ∧ typ = 6 ∧ j = none) ∨
    (i = .svcConfirm ∧ typ = 7 ∧ j = some .confirm) ∨ (i = .svcRollback ∧ typ = 8 ∧ j = some .updRollback) ∨
    (i = .svcAbort ∧ typ = 9 ∧ j = some .updAbort) ∨ (i = .svcBaud ∧ typ = 10 ∧ j = none)

/-- The service port: it is active with SVC_DET and SVCEN; a packet whose event is admitted is carried out and
answered under TYPE | 0x80 and its SEQ, a repeated SEQ gets the previous response alone, a discarded packet nothing
(R347, R348). The model's choices: logs 38, 42. -/
def Obligations.ServicePackets : Prop :=
  ∀ s : State,
    exec .svcPacketGap s = .next s ∧ exec .svcPacketDiscard s = .next s ∧
    (Answers .svcDetect s fun t => t = { s with upd := { s.upd with svcOn := s.upd.ctl.getLsbD 1 }, pins := { s.pins with svcDet := true } }) ∧
    (Answers .svcLost s fun t => t = { s with upd := { s.upd with svcOn := false }, pins := { s.pins with svcDet := false } }) ∧
    (∀ (c : SvcPacket → Instr) (typ : Nat) (j : Option Instr) (k : SvcPacket), SvcRow c typ j →
      ((s.upd.svcOn = false ∨ s.regsUp = false) → exec (c k) s = .next s) ∧
      (s.upd.svcOn = true → s.regsUp = true → ∀ b, s.upd.svcLast = some (k.seq, b) →
        exec (c k) s = .next (s.modUpd fun u => { u with svcTx := b })) ∧
      (s.upd.svcOn = true → s.regsUp = true → (∀ q b, s.upd.svcLast = some (q, b) → q ≠ k.seq) →
        let code := (s.core arbiterId).ncCode s.now { cls := 0x27, arg := 0 } none
        ∃ (s0 x : State) (pay : List Byte), onlyCore arbiterId s s0 ∧
          (code = 0 → ∃ w, (s0.core arbiterId).jobs = (s.core arbiterId).jobs ++ [w] ∧ w.cls = 0x27) ∧
          (∀ i, j = some i → exec i s0 = .next x) ∧
          ((typ = 1 ∨ typ = 5) → x = s0 ∧ pay.take 2 = [0, 0]) ∧
          (typ = 2 → 8 ≤ k.payload.length → k.payload.length ≤ 1028 → k.payload.length % 4 = 0 →
            x = { s0 with upd := s.upd.putChunk 1 (ofLe (k.payload.take 4)) (k.payload.drop 4) }) ∧
          (typ = 6 → k.payload.length = 20 → x = s0.scheduleCmd
            (BitVec.ofNat 64 (ofLe (k.payload.take 8)))
            (Vector.ofFn fun i => BitVec.ofNat 32 (ofLe ((k.payload.drop (8 + 4 * i.val)).take 4)))) ∧
          (typ = 10 → k.payload.length = 1 → 8 ≤ ofLe (k.payload.take 1) →
            fld x.upd.ctl 12 8 = ofLe (k.payload.take 1) ∧ pay.take 2 = [0, 0]) ∧
          exec (c k) s = .next { x with upd := { x.upd with
            svcLast := some (k.seq, svcResponse typ k.seq pay)
            svcTx := if code = 0 ∨ s.phase = .service ∨ s.phase = .provision then svcResponse typ k.seq pay else x.upd.svcTx } })) ∧
    (∀ typ seq pay, (svcResponse typ seq pay).take 3 = [0x7E, BitVec.ofNat 8 (typ + 128), seq])

/-- The host bus: a write is applied at its end and not before, a byte outside scope or of a running block is counted
and not applied, a read captures a register and clears its RC fields, an SDA timeout counts; a group commit judges the
selected blocks; the mailbox takes a command once per SEQ, its hardware commands reach the ports they name (R365-R370,
R375, R377-R381). The model's choices: logs 62, 63, 66, 90. -/
def Obligations.HostBusAndMailbox : Prop :=
  ∀ s : State,
    let bus (t : State) : Prop := t = { s with hbs := t.hbs }
    (∀ a ptr d e late, s.answers a = false → exec (.registerWrite a ptr d e late) s = .next s) ∧
    (∀ a ptr d late, s.answers a = true → Answers (.registerWrite a ptr d .none late) s bus) ∧
    (∀ (a : Byte) (d : Vector Byte 16) (late : Bool), s.answers a = true → s.rescue a = false → s.groupAddr a = false →
      Answers (.registerWrite a 0x9B0 d.toList .stop late) s fun t =>
        t = { s with fab := { s.fab with tdata := d }, hbs := t.hbs } ∧ (t.hostIf a).ptr = 0x9A0) ∧
    (∀ (a : Byte) (i : Fin 15) (b : Byte) (late : Bool), s.answers a = true → s.rescue a = false → s.groupAddr a = false →
      Answers (.registerWrite a (BitVec.ofNat 16 (0x9B0 + i.val)) [b] .stop late) s fun t =>
        bus t ∧ (0x9B0 + i.val, b) ∈ t.hbs.low ∧ (t.hostIf a).ptr = BitVec.ofNat 16 (0x9B1 + i.val)) ∧
    (∀ a ptr b e, s.answers a = true → s.groupAddr a = false → s.reachWrite a ptr.toNat = none → e ≠ .startInAck →
      Answers (.registerWrite a ptr [b] e false) s fun t => bus t ∧ t.hbs.nScope = satInc s.hbs.nScope ∧ t.hbs.evt = setB s.hbs.evt 3 true) ∧
    (∀ a ptr b e y, s.answers a = true → s.groupAddr a = false → s.reachWrite a ptr.toNat = some y → s.frozenByte y = true → e ≠ .startInAck →
      Answers (.registerWrite a ptr [b] e false) s fun t => bus t ∧ t.hbs.nFroz = satInc s.hbs.nFroz ∧ (t.hostIf a).ptr = ptr) ∧
    (∀ a ptr, s.answers a = false → exec (.rcRead a ptr) s = .next s) ∧
    (∀ a n v, s.answers a = true → s.groupAddr a = false → s.reach a 0x994 = some 0x994 → s.regAt 0x994 = some (0x994, n, v) →
      Answers (.rcRead a 0x994) s fun t => t = { s with fab := { s.fab with nRenew := 0, nDrop := 0, nCrcD := 0, nCrcU := 0 }, hbs := t.hbs } ∧
        (0x994, leBytes n v) ∈ (t.hostIf a).hold) ∧
    (∀ a ptr, s.answers a = true → s.groupAddr a = false → Answers (.rcRead a ptr) s fun t => (t.hostIf a).ptr = ptr + 1 ∧
      (s.reach a ptr.toNat = none → (t.hostIf a).out = 0) ∧ ∀ y, s.reach a ptr.toNat = some y →
        ((∀ b n v, s.regAt y = some (b, n, v) → b = y) → (t.hostIf a).out = s.peek y) ∧
        ∀ b n v, s.regAt y = some (b, n, v) → b ≠ y →
          (∀ w, (s.hostIf a).hold.find? (fun x => decide (x.1 = b)) = some (b, w) → (t.hostIf a).out = w.getD (y - b) 0) ∧
          ((s.hostIf a).hold.find? (fun x => decide (x.1 = b)) = none → (t.hostIf a).out = s.peek y)) ∧
    (∀ a, s.answers a = true → exec (.sdaTimeout a) s = .next (s.modHbs fun h => { h with nSda := satInc h.nSda, evt := setB h.evt 0 true })) ∧
    (s.regsUp = true →
      (s.glb.gcsel = 0 → exec .groupCommit s = .next (s.modGlb fun g => { g with gcom := { cmd := 0xC5, cst := 2 }, gcres := 0, evt := setB g.evt 1 true })) ∧
      (∀ x ∈ gcOrder, s.hasBlock x.2 = true → (∀ i, s.glb.gcsel.getLsbD i = decide (i = x.1)) →
        let t := s.commitBlock x.2
        exec .groupCommit s = .next (t.modGlb fun g => { g with
          gcom := { cmd := 0xC5, cst := if (t.blockCom x.2).ref then 2 else 1 }
          gcres := if (t.blockCom x.2).ref then setB 0 x.1 true else 0, evt := setB g.evt 1 true })) ∧
      (Answers .groupCommit s fun t => t.phase = s.phase ∧ t.glb.gcom.cmd = 0xC5 ∧ t.glb.evt = setB s.glb.evt 1 true ∧
        t.glb.gcsel = s.glb.gcsel ∧ (∀ i, i < 64 → s.glb.gcsel.getLsbD i = false → t.glb.gcres.getLsbD i = false) ∧
        ((∀ i, s.glb.gcsel.getLsbD i = decide (i = 43)) → 10 ≤ s.hbs.cfgS.toNat / 256 → s.hbs.cfgS.toNat / 256 ≤ 100 →
          t.hbs.cfg = s.hbs.cfgS ∧ t.glb.gcom.cst = 1 ∧ t.glb.gcres = 0)) ∧
      (∀ seq, s.glb.mbxSt = 3 → exec (.mailboxIssue seq) s = .next s) ∧
      (∀ seq, s.glb.mbxSt ≠ 3 →
        let g := s.glb
        (g.mbxValid = true → g.mbxres[0] = seq → exec (.mailboxIssue seq) s = .next (s.modGlb fun g => { g with
          mbxcmd := g.mbxcmd.set 31 seq, evt := setB g.evt 2 true })) ∧
        ((g.mbxValid = false ∨ g.mbxres[0] ≠ seq) →
          (1 ≤ (g.mbxcmd[0]).toNat → (g.mbxcmd[0]).toNat < 0x80 →
            let code := (s.core arbiterId).ncCode s.now { cls := 0x20, arg := seq.setWidth 32, seq } none
            Answers (.mailboxIssue seq) s fun t => onlyCore arbiterId { s with glb := t.glb } t ∧ t.glb.mbxres[0] = seq ∧
              t.glb.mbxres[1] = g.mbxcmd[0] ∧ t.glb.mbxres[4] = g.mbxcmd[1] ∧ t.glb.mbxValid = true ∧
              (code = 0 → t.glb.mbxSt = 3 ∧ t.glb.evt = g.evt ∧
                ∃ j, (t.core arbiterId).jobs = (s.core arbiterId).jobs ++ [j] ∧ j.cls = 0x20 ∧ j.arg.toNat = seq.toNat) ∧
              (code ≠ 0 → t.glb.mbxSt = 2 ∧ t.glb.mbxres[3] = BitVec.ofNat 8 code ∧ t.glb.evt = setB g.evt 0 true)) ∧
          ((g.mbxcmd[0] = 0 ∨ 0x83 < (g.mbxcmd[0]).toNat) → Answers (.mailboxIssue seq) s fun t => t = { s with glb := t.glb } ∧
            t.glb.mbxSt = 2 ∧ t.glb.mbxres[3] = 0x40 ∧ t.glb.mbxres[0] = seq ∧ t.glb.evt = setB g.evt 0 true) ∧
          (∀ pm, Answers (.portsOff seq pm) s fun t => t = { s with ports := t.ports, cores := t.cores, glb := t.glb } ∧
            t.glb.mbxSt = 1 ∧ t.glb.mbxres[0] = seq ∧ t.glb.mbxres[1] = 0x80 ∧ t.glb.evt = setB g.evt 0 true ∧ ∀ p : PortId,
              ((named pm p = true ∧ s.present p = true) → (t.port p).pw.mode = .off ∧
                ((s.port p).pw.mode ≠ .off → (t.port p).pw.ga = false ∧ (t.port p).pw.gb = false) ∧
                (t.port p).pw.lid = (s.port p).pw.lid ∧ t.glb.mbxres[presIx p] = 0) ∧
              (¬ (named pm p = true ∧ s.present p = true) → t.port p = s.port p ∧
                t.glb.mbxres[presIx p] = if named pm p then 0xF1 else 0xF0)) ∧
          (∀ pm, Answers (.eclear seq pm) s fun t => t = { s with ports := t.ports, glb := t.glb } ∧ t.glb.mbxSt = 1 ∧
            t.glb.mbxres[1] = 0x82 ∧ ∀ p : PortId, t.port p = if named pm p = true ∧ s.present p = true then
              { s.port p with ms := { (s.port p).ms with eout := 0, ein := 0, resOut := 0, resIn := 0, ecmd := { cmd := 0xE0, cst := 1 } } }
              else s.port p) ∧
          (∀ i : Instr, ∀ pm arg : Byte, (i = .commitPorts seq pm arg ∨ i = .revertPorts seq pm arg) → 32 ≤ arg.toNat → Answers i s fun t =>
            t = { s with glb := t.glb } ∧ t.glb.mbxSt = 2 ∧ t.glb.mbxres[3] = 0x41 ∧ t.glb.evt = setB g.evt 0 true) ∧
          (∀ (p : PortId) (k : Fin 5), s.present p = true →
            let pm : Byte := BitVec.ofNat 8 (2 ^ p.val)
            let arg : Byte := BitVec.ofNat 8 (2 ^ k.val)
            let b := (subBlocks p).getD k.val .hbs
            (∀ r, r = ((s.commitBlock b).blockCom b).rsn → Answers (.commitPorts seq pm arg) s fun t =>
              t = { s.commitBlock b with glb := t.glb } ∧ t.glb.mbxres[1] = 0x81 ∧ t.glb.evt = setB g.evt 0 true ∧
              (((s.commitBlock b).blockCom b).ref = false → t.glb.mbxSt = 1 ∧ t.glb.mbxres[presIx p] = 0 ∧ t.glb.mbxres[mbxDataIx p] = arg) ∧
              (((s.commitBlock b).blockCom b).ref = true → r ≠ 0 → t.glb.mbxSt = 2 ∧ t.glb.mbxres[presIx p] = r.setWidth 8 ∧
                t.glb.mbxres[mbxDataIx p] = 0)) ∧
            (let w := (s.port p).pw;
              k = 2 → w.judge = 0 → Answers (.commitPorts seq pm arg) s fun t => t.glb.mbxSt = 1 ∧ t.glb.mbxres[presIx p] = 0 ∧
                t.glb.mbxres[mbxDataIx p] = 4 ∧ (t.port p).pw.lim = w.limS ∧ (t.port p).pw.cfg = w.cfgS ∧ (t.port p).pw.pgw = w.pgwS ∧
                otherPorts p s t) ∧
            (Answers (.revertPorts seq pm arg) s fun t => t = { s.revertBlock b with glb := t.glb } ∧ t.glb.mbxSt = 1 ∧
              t.glb.mbxres[1] = 0x83 ∧ t.glb.mbxres[presIx p] = 0)))))

/-! ### The whole block -/

/-- The state at the release of a power-on reset: the OTP sense is about to run, no command waits, every gate is off,
every port presents dead-battery Rd, nothing is held, granted, scheduled or armed, the memories list nothing, and
registers with a stated reset value read it (R27, R42, R391, R392; a T848 part: log 9). The model's choices: logs 5,
10. -/
def Obligations.ResetState : Prop :=
  let s := State.reset
  s.phase = .sense ∧ s.pending = [] ∧ s.memOk ∧ s.now = 0 ∧ s.ldg.grant = Vector.replicate 8 0 ∧ s.fab.xin = 0 ∧ s.fed.armed = false ∧
    s.upd.sched = false ∧ s.upd.trial = false ∧ (∀ c, (s.core c).run = none ∧ (s.core c).jobs = [] ∧ (s.core c).st = .stopped) ∧
    (∀ c : CoreId, (s.flg.units[c]).st = .disarmed ∧ (s.flg.units[c]).per = 10000 ∧ (s.flg.units[c]).cfg = 0x4000) ∧
    ∀ p, (s.port p).pw.mode = .off ∧ (s.port p).pw.ga = false ∧ (s.port p).pw.gb = false ∧ (s.port p).pw.lid = false ∧
      (s.port p).sp.cen = false ∧ (s.port p).tc.pres = .deadRd ∧ (s.port p).tc.vconn = false ∧ (s.port p).ct.conv = 0 ∧
      (s.port p).ct.concfg = 0 ∧ (s.port p).pw.ctl = 0x3201 ∧ (s.port p).pw.lim = 0x3C190BB8 ∧ (s.port p).mn.ctl = 0x025303E8 ∧
      (s.port p).sp.vmin = 3000 ∧ (s.port p).sp.vmax = 50000 ∧ (s.port p).tc.ctl = 0x2200 ∧ (s.port p).pd.ctl = 0x0002

/-- Every step runs; it takes exactly the front of the queue and leaves the rest in order; no OTP bit that has been blown
ever reads 0 again (R325, R326); and every memory keeps its canonical form (logs 2, 5). -/
def Obligations.EveryStepKeepsQueueFusesAndMemories : Prop :=
  ∀ s : State, s.memOk → ∃ t, step s = .next t ∧ t.pending = s.pending.tail ∧ otpKept s t ∧ t.memOk
end

