-- ==== Sys2Proof/Laws/State.lean ====
section
/-! SUPPORT. What each update of one block leaves alone, one lemma per field per update, and what the updates of a port and
of a core read back. -/

namespace Sys2Proof.Machine

/-! ### Ports and cores read back -/

@[simp] theorem State.port_modPort_same (s : State) (p : PortId) (f : Port → Port) :
    (s.modPort p f).port p = f (s.port p) := by simp [State.port, State.modPort]

theorem State.port_modPort_ne (s : State) {p q : PortId} (f : Port → Port) (h : q ≠ p) :
    (s.modPort p f).port q = s.port q := by
  have h' : p.val ≠ q.val := fun e => h (Fin.ext e.symm)
  simp [State.port, State.modPort, h']

theorem State.port_modPort (s : State) (p q : PortId) (f : Port → Port) :
    (s.modPort p f).port q = if q = p then f (s.port p) else s.port q := by
  by_cases h : q = p
  · subst h; simp
  · simp [State.port_modPort_ne s f h, h]

@[simp] theorem State.core_modCore_same (s : State) (c : CoreId) (f : Core → Core) :
    (s.modCore c f).core c = f (s.core c) := by simp [State.core, State.modCore]

theorem State.core_modCore_ne (s : State) {c d : CoreId} (f : Core → Core) (h : d ≠ c) :
    (s.modCore c f).core d = s.core d := by
  have h' : c.val ≠ d.val := fun e => h (Fin.ext e.symm)
  simp [State.core, State.modCore, h']

theorem State.core_modCore (s : State) (c d : CoreId) (f : Core → Core) :
    (s.modCore c f).core d = if d = c then f (s.core c) else s.core d := by
  by_cases h : d = c
  · subst h; simp
  · simp [State.core_modCore_ne s f h, h]

/-- Two updates of one core are one. -/
theorem State.modCore_modCore (s : State) (c : CoreId) (f g : Core → Core) :
    (s.modCore c f).modCore c g = s.modCore c fun C => g (f C) := by
  simp [State.modCore]

/-- Two updates of one port are one. -/
theorem State.modPort_modPort (s : State) (p : PortId) (f g : Port → Port) :
    (s.modPort p f).modPort p g = s.modPort p fun P => g (f P) := by
  simp [State.modPort]

/-- Updates of a port and of a core commute. -/
theorem State.modPort_modCore (s : State) (p : PortId) (c : CoreId) (f : Port → Port) (g : Core → Core) :
    (s.modPort p f).modCore c g = (s.modCore c g).modPort p f := rfl

/-! ### Fields an update leaves alone -/

@[simp] theorem State.modPort_cores (s : State) (p : PortId) (f : Port → Port) : (s.modPort p f).cores = s.cores := rfl
@[simp] theorem State.modPort_sram (s : State) (p : PortId) (f : Port → Port) : (s.modPort p f).sram = s.sram := rfl
@[simp] theorem State.modPort_ldg (s : State) (p : PortId) (f : Port → Port) : (s.modPort p f).ldg = s.ldg := rfl
@[simp] theorem State.modPort_fab (s : State) (p : PortId) (f : Port → Port) : (s.modPort p f).fab = s.fab := rfl
@[simp] theorem State.modPort_fed (s : State) (p : PortId) (f : Port → Port) : (s.modPort p f).fed = s.fed := rfl
@[simp] theorem State.modPort_flg (s : State) (p : PortId) (f : Port → Port) : (s.modPort p f).flg = s.flg := rfl
@[simp] theorem State.modPort_rcv (s : State) (p : PortId) (f : Port → Port) : (s.modPort p f).rcv = s.rcv := rfl
@[simp] theorem State.modPort_pos (s : State) (p : PortId) (f : Port → Port) : (s.modPort p f).pos = s.pos := rfl
@[simp] theorem State.modPort_otp (s : State) (p : PortId) (f : Port → Port) : (s.modPort p f).otp = s.otp := rfl
@[simp] theorem State.modPort_upd (s : State) (p : PortId) (f : Port → Port) : (s.modPort p f).upd = s.upd := rfl
@[simp] theorem State.modPort_glb (s : State) (p : PortId) (f : Port → Port) : (s.modPort p f).glb = s.glb := rfl
@[simp] theorem State.modPort_hbs (s : State) (p : PortId) (f : Port → Port) : (s.modPort p f).hbs = s.hbs := rfl
@[simp] theorem State.modPort_tmb (s : State) (p : PortId) (f : Port → Port) : (s.modPort p f).tmb = s.tmb := rfl
@[simp] theorem State.modPort_pmv (s : State) (p : PortId) (f : Port → Port) : (s.modPort p f).pmv = s.pmv := rfl
@[simp] theorem State.modPort_hsel (s : State) (p : PortId) (f : Port → Port) : (s.modPort p f).hsel = s.hsel := rfl
@[simp] theorem State.modPort_pins (s : State) (p : PortId) (f : Port → Port) : (s.modPort p f).pins = s.pins := rfl
@[simp] theorem State.modPort_faultLog (s : State) (p : PortId) (f : Port → Port) : (s.modPort p f).faultLog = s.faultLog := rfl
@[simp] theorem State.modPort_phase (s : State) (p : PortId) (f : Port → Port) : (s.modPort p f).phase = s.phase := rfl
@[simp] theorem State.modPort_bootArg (s : State) (p : PortId) (f : Port → Port) : (s.modPort p f).bootArg = s.bootArg := rfl
@[simp] theorem State.modPort_now (s : State) (p : PortId) (f : Port → Port) : (s.modPort p f).now = s.now := rfl
@[simp] theorem State.modPort_us (s : State) (p : PortId) (f : Port → Port) : (s.modPort p f).us = s.us := rfl
@[simp] theorem State.modPort_ramBad (s : State) (p : PortId) (f : Port → Port) : (s.modPort p f).ramBad = s.ramBad := rfl
@[simp] theorem State.modPort_dbgHalt (s : State) (p : PortId) (f : Port → Port) : (s.modPort p f).dbgHalt = s.dbgHalt := rfl
@[simp] theorem State.modPort_freeCtr (s : State) (p : PortId) (f : Port → Port) : (s.modPort p f).freeCtr = s.freeCtr := rfl
@[simp] theorem State.modPort_pending (s : State) (p : PortId) (f : Port → Port) : (s.modPort p f).pending = s.pending := rfl
@[simp] theorem State.modPort_core (s : State) (p : PortId) (f : Port → Port) (d : CoreId) : (s.modPort p f).core d = s.core d := rfl
@[simp] theorem State.modCore_ports (s : State) (c : CoreId) (f : Core → Core) : (s.modCore c f).ports = s.ports := rfl
@[simp] theorem State.modCore_sram (s : State) (c : CoreId) (f : Core → Core) : (s.modCore c f).sram = s.sram := rfl
@[simp] theorem State.modCore_ldg (s : State) (c : CoreId) (f : Core → Core) : (s.modCore c f).ldg = s.ldg := rfl
@[simp] theorem State.modCore_fab (s : State) (c : CoreId) (f : Core → Core) : (s.modCore c f).fab = s.fab := rfl
@[simp] theorem State.modCore_fed (s : State) (c : CoreId) (f : Core → Core) : (s.modCore c f).fed = s.fed := rfl
@[simp] theorem State.modCore_flg (s : State) (c : CoreId) (f : Core → Core) : (s.modCore c f).flg = s.flg := rfl
@[simp] theorem State.modCore_rcv (s : State) (c : CoreId) (f : Core → Core) : (s.modCore c f).rcv = s.rcv := rfl
@[simp] theorem State.modCore_pos (s : State) (c : CoreId) (f : Core → Core) : (s.modCore c f).pos = s.pos := rfl
@[simp] theorem State.modCore_otp (s : State) (c : CoreId) (f : Core → Core) : (s.modCore c f).otp = s.otp := rfl
@[simp] theorem State.modCore_upd (s : State) (c : CoreId) (f : Core → Core) : (s.modCore c f).upd = s.upd := rfl
@[simp] theorem State.modCore_glb (s : State) (c : CoreId) (f : Core → Core) : (s.modCore c f).glb = s.glb := rfl
@[simp] theorem State.modCore_hbs (s : State) (c : CoreId) (f : Core → Core) : (s.modCore c f).hbs = s.hbs := rfl
@[simp] theorem State.modCore_tmb (s : State) (c : CoreId) (f : Core → Core) : (s.modCore c f).tmb = s.tmb := rfl
@[simp] theorem State.modCore_pmv (s : State) (c : CoreId) (f : Core → Core) : (s.modCore c f).pmv = s.pmv := rfl
@[simp] theorem State.modCore_hsel (s : State) (c : CoreId) (f : Core → Core) : (s.modCore c f).hsel = s.hsel := rfl
@[simp] theorem State.modCore_pins (s : State) (c : CoreId) (f : Core → Core) : (s.modCore c f).pins = s.pins := rfl
@[simp] theorem State.modCore_faultLog (s : State) (c : CoreId) (f : Core → Core) : (s.modCore c f).faultLog = s.faultLog := rfl
@[simp] theorem State.modCore_phase (s : State) (c : CoreId) (f : Core → Core) : (s.modCore c f).phase = s.phase := rfl
@[simp] theorem State.modCore_bootArg (s : State) (c : CoreId) (f : Core → Core) : (s.modCore c f).bootArg = s.bootArg := rfl
@[simp] theorem State.modCore_now (s : State) (c : CoreId) (f : Core → Core) : (s.modCore c f).now = s.now := rfl
@[simp] theorem State.modCore_us (s : State) (c : CoreId) (f : Core → Core) : (s.modCore c f).us = s.us := rfl
@[simp] theorem State.modCore_ramBad (s : State) (c : CoreId) (f : Core → Core) : (s.modCore c f).ramBad = s.ramBad := rfl
@[simp] theorem State.modCore_dbgHalt (s : State) (c : CoreId) (f : Core → Core) : (s.modCore c f).dbgHalt = s.dbgHalt := rfl
@[simp] theorem State.modCore_freeCtr (s : State) (c : CoreId) (f : Core → Core) : (s.modCore c f).freeCtr = s.freeCtr := rfl
@[simp] theorem State.modCore_pending (s : State) (c : CoreId) (f : Core → Core) : (s.modCore c f).pending = s.pending := rfl
@[simp] theorem State.modCore_port (s : State) (c : CoreId) (f : Core → Core) (q : PortId) : (s.modCore c f).port q = s.port q := rfl
@[simp] theorem State.modTc_cores (s : State) (p : PortId) (f : Tc → Tc) : (s.modTc p f).cores = s.cores := rfl
@[simp] theorem State.modTc_sram (s : State) (p : PortId) (f : Tc → Tc) : (s.modTc p f).sram = s.sram := rfl
@[simp] theorem State.modTc_ldg (s : State) (p : PortId) (f : Tc → Tc) : (s.modTc p f).ldg = s.ldg := rfl
@[simp] theorem State.modTc_fab (s : State) (p : PortId) (f : Tc → Tc) : (s.modTc p f).fab = s.fab := rfl
@[simp] theorem State.modTc_fed (s : State) (p : PortId) (f : Tc → Tc) : (s.modTc p f).fed = s.fed := rfl
@[simp] theorem State.modTc_flg (s : State) (p : PortId) (f : Tc → Tc) : (s.modTc p f).flg = s.flg := rfl
@[simp] theorem State.modTc_rcv (s : State) (p : PortId) (f : Tc → Tc) : (s.modTc p f).rcv = s.rcv := rfl
@[simp] theorem State.modTc_pos (s : State) (p : PortId) (f : Tc → Tc) : (s.modTc p f).pos = s.pos := rfl
@[simp] theorem State.modTc_otp (s : State) (p : PortId) (f : Tc → Tc) : (s.modTc p f).otp = s.otp := rfl
@[simp] theorem State.modTc_upd (s : State) (p : PortId) (f : Tc → Tc) : (s.modTc p f).upd = s.upd := rfl
@[simp] theorem State.modTc_glb (s : State) (p : PortId) (f : Tc → Tc) : (s.modTc p f).glb = s.glb := rfl
@[simp] theorem State.modTc_hbs (s : State) (p : PortId) (f : Tc → Tc) : (s.modTc p f).hbs = s.hbs := rfl
@[simp] theorem State.modTc_tmb (s : State) (p : PortId) (f : Tc → Tc) : (s.modTc p f).tmb = s.tmb := rfl
@[simp] theorem State.modTc_pmv (s : State) (p : PortId) (f : Tc → Tc) : (s.modTc p f).pmv = s.pmv := rfl
@[simp] theorem State.modTc_hsel (s : State) (p : PortId) (f : Tc → Tc) : (s.modTc p f).hsel = s.hsel := rfl
@[simp] theorem State.modTc_pins (s : State) (p : PortId) (f : Tc → Tc) : (s.modTc p f).pins = s.pins := rfl
@[simp] theorem State.modTc_faultLog (s : State) (p : PortId) (f : Tc → Tc) : (s.modTc p f).faultLog = s.faultLog := rfl
@[simp] theorem State.modTc_phase (s : State) (p : PortId) (f : Tc → Tc) : (s.modTc p f).phase = s.phase := rfl
@[simp] theorem State.modTc_bootArg (s : State) (p : PortId) (f : Tc → Tc) : (s.modTc p f).bootArg = s.bootArg := rfl
@[simp] theorem State.modTc_now (s : State) (p : PortId) (f : Tc → Tc) : (s.modTc p f).now = s.now := rfl
@[simp] theorem State.modTc_us (s : State) (p : PortId) (f : Tc → Tc) : (s.modTc p f).us = s.us := rfl
@[simp] theorem State.modTc_ramBad (s : State) (p : PortId) (f : Tc → Tc) : (s.modTc p f).ramBad = s.ramBad := rfl
@[simp] theorem State.modTc_dbgHalt (s : State) (p : PortId) (f : Tc → Tc) : (s.modTc p f).dbgHalt = s.dbgHalt := rfl
@[simp] theorem State.modTc_freeCtr (s : State) (p : PortId) (f : Tc → Tc) : (s.modTc p f).freeCtr = s.freeCtr := rfl
@[simp] theorem State.modTc_pending (s : State) (p : PortId) (f : Tc → Tc) : (s.modTc p f).pending = s.pending := rfl
@[simp] theorem State.modTc_core (s : State) (p : PortId) (f : Tc → Tc) (d : CoreId) : (s.modTc p f).core d = s.core d := rfl
@[simp] theorem State.modPd_cores (s : State) (p : PortId) (f : Phy → Phy) : (s.modPd p f).cores = s.cores := rfl
@[simp] theorem State.modPd_sram (s : State) (p : PortId) (f : Phy → Phy) : (s.modPd p f).sram = s.sram := rfl
@[simp] theorem State.modPd_ldg (s : State) (p : PortId) (f : Phy → Phy) : (s.modPd p f).ldg = s.ldg := rfl
@[simp] theorem State.modPd_fab (s : State) (p : PortId) (f : Phy → Phy) : (s.modPd p f).fab = s.fab := rfl
@[simp] theorem State.modPd_fed (s : State) (p : PortId) (f : Phy → Phy) : (s.modPd p f).fed = s.fed := rfl
@[simp] theorem State.modPd_flg (s : State) (p : PortId) (f : Phy → Phy) : (s.modPd p f).flg = s.flg := rfl
@[simp] theorem State.modPd_rcv (s : State) (p : PortId) (f : Phy → Phy) : (s.modPd p f).rcv = s.rcv := rfl
@[simp] theorem State.modPd_pos (s : State) (p : PortId) (f : Phy → Phy) : (s.modPd p f).pos = s.pos := rfl
@[simp] theorem State.modPd_otp (s : State) (p : PortId) (f : Phy → Phy) : (s.modPd p f).otp = s.otp := rfl
@[simp] theorem State.modPd_upd (s : State) (p : PortId) (f : Phy → Phy) : (s.modPd p f).upd = s.upd := rfl
@[simp] theorem State.modPd_glb (s : State) (p : PortId) (f : Phy → Phy) : (s.modPd p f).glb = s.glb := rfl
@[simp] theorem State.modPd_hbs (s : State) (p : PortId) (f : Phy → Phy) : (s.modPd p f).hbs = s.hbs := rfl
@[simp] theorem State.modPd_tmb (s : State) (p : PortId) (f : Phy → Phy) : (s.modPd p f).tmb = s.tmb := rfl
@[simp] theorem State.modPd_pmv (s : State) (p : PortId) (f : Phy → Phy) : (s.modPd p f).pmv = s.pmv := rfl
@[simp] theorem State.modPd_hsel (s : State) (p : PortId) (f : Phy → Phy) : (s.modPd p f).hsel = s.hsel := rfl
@[simp] theorem State.modPd_pins (s : State) (p : PortId) (f : Phy → Phy) : (s.modPd p f).pins = s.pins := rfl
@[simp] theorem State.modPd_faultLog (s : State) (p : PortId) (f : Phy → Phy) : (s.modPd p f).faultLog = s.faultLog := rfl
@[simp] theorem State.modPd_phase (s : State) (p : PortId) (f : Phy → Phy) : (s.modPd p f).phase = s.phase := rfl
@[simp] theorem State.modPd_bootArg (s : State) (p : PortId) (f : Phy → Phy) : (s.modPd p f).bootArg = s.bootArg := rfl
@[simp] theorem State.modPd_now (s : State) (p : PortId) (f : Phy → Phy) : (s.modPd p f).now = s.now := rfl
@[simp] theorem State.modPd_us (s : State) (p : PortId) (f : Phy → Phy) : (s.modPd p f).us = s.us := rfl
@[simp] theorem State.modPd_ramBad (s : State) (p : PortId) (f : Phy → Phy) : (s.modPd p f).ramBad = s.ramBad := rfl
@[simp] theorem State.modPd_dbgHalt (s : State) (p : PortId) (f : Phy → Phy) : (s.modPd p f).dbgHalt = s.dbgHalt := rfl
@[simp] theorem State.modPd_freeCtr (s : State) (p : PortId) (f : Phy → Phy) : (s.modPd p f).freeCtr = s.freeCtr := rfl
@[simp] theorem State.modPd_pending (s : State) (p : PortId) (f : Phy → Phy) : (s.modPd p f).pending = s.pending := rfl
@[simp] theorem State.modPd_core (s : State) (p : PortId) (f : Phy → Phy) (d : CoreId) : (s.modPd p f).core d = s.core d := rfl
@[simp] theorem State.modCt_cores (s : State) (p : PortId) (f : Ct → Ct) : (s.modCt p f).cores = s.cores := rfl
@[simp] theorem State.modCt_sram (s : State) (p : PortId) (f : Ct → Ct) : (s.modCt p f).sram = s.sram := rfl
@[simp] theorem State.modCt_ldg (s : State) (p : PortId) (f : Ct → Ct) : (s.modCt p f).ldg = s.ldg := rfl
@[simp] theorem State.modCt_fab (s : State) (p : PortId) (f : Ct → Ct) : (s.modCt p f).fab = s.fab := rfl
@[simp] theorem State.modCt_fed (s : State) (p : PortId) (f : Ct → Ct) : (s.modCt p f).fed = s.fed := rfl
@[simp] theorem State.modCt_flg (s : State) (p : PortId) (f : Ct → Ct) : (s.modCt p f).flg = s.flg := rfl
@[simp] theorem State.modCt_rcv (s : State) (p : PortId) (f : Ct → Ct) : (s.modCt p f).rcv = s.rcv := rfl
@[simp] theorem State.modCt_pos (s : State) (p : PortId) (f : Ct → Ct) : (s.modCt p f).pos = s.pos := rfl
@[simp] theorem State.modCt_otp (s : State) (p : PortId) (f : Ct → Ct) : (s.modCt p f).otp = s.otp := rfl
@[simp] theorem State.modCt_upd (s : State) (p : PortId) (f : Ct → Ct) : (s.modCt p f).upd = s.upd := rfl
@[simp] theorem State.modCt_glb (s : State) (p : PortId) (f : Ct → Ct) : (s.modCt p f).glb = s.glb := rfl
@[simp] theorem State.modCt_hbs (s : State) (p : PortId) (f : Ct → Ct) : (s.modCt p f).hbs = s.hbs := rfl
@[simp] theorem State.modCt_tmb (s : State) (p : PortId) (f : Ct → Ct) : (s.modCt p f).tmb = s.tmb := rfl
@[simp] theorem State.modCt_pmv (s : State) (p : PortId) (f : Ct → Ct) : (s.modCt p f).pmv = s.pmv := rfl
@[simp] theorem State.modCt_hsel (s : State) (p : PortId) (f : Ct → Ct) : (s.modCt p f).hsel = s.hsel := rfl
@[simp] theorem State.modCt_pins (s : State) (p : PortId) (f : Ct → Ct) : (s.modCt p f).pins = s.pins := rfl
@[simp] theorem State.modCt_faultLog (s : State) (p : PortId) (f : Ct → Ct) : (s.modCt p f).faultLog = s.faultLog := rfl
@[simp] theorem State.modCt_phase (s : State) (p : PortId) (f : Ct → Ct) : (s.modCt p f).phase = s.phase := rfl
@[simp] theorem State.modCt_bootArg (s : State) (p : PortId) (f : Ct → Ct) : (s.modCt p f).bootArg = s.bootArg := rfl
@[simp] theorem State.modCt_now (s : State) (p : PortId) (f : Ct → Ct) : (s.modCt p f).now = s.now := rfl
@[simp] theorem State.modCt_us (s : State) (p : PortId) (f : Ct → Ct) : (s.modCt p f).us = s.us := rfl
@[simp] theorem State.modCt_ramBad (s : State) (p : PortId) (f : Ct → Ct) : (s.modCt p f).ramBad = s.ramBad := rfl
@[simp] theorem State.modCt_dbgHalt (s : State) (p : PortId) (f : Ct → Ct) : (s.modCt p f).dbgHalt = s.dbgHalt := rfl
@[simp] theorem State.modCt_freeCtr (s : State) (p : PortId) (f : Ct → Ct) : (s.modCt p f).freeCtr = s.freeCtr := rfl
@[simp] theorem State.modCt_pending (s : State) (p : PortId) (f : Ct → Ct) : (s.modCt p f).pending = s.pending := rfl
@[simp] theorem State.modCt_core (s : State) (p : PortId) (f : Ct → Ct) (d : CoreId) : (s.modCt p f).core d = s.core d := rfl
@[simp] theorem State.modPw_cores (s : State) (p : PortId) (f : Pw → Pw) : (s.modPw p f).cores = s.cores := rfl
@[simp] theorem State.modPw_sram (s : State) (p : PortId) (f : Pw → Pw) : (s.modPw p f).sram = s.sram := rfl
@[simp] theorem State.modPw_ldg (s : State) (p : PortId) (f : Pw → Pw) : (s.modPw p f).ldg = s.ldg := rfl
@[simp] theorem State.modPw_fab (s : State) (p : PortId) (f : Pw → Pw) : (s.modPw p f).fab = s.fab := rfl
@[simp] theorem State.modPw_fed (s : State) (p : PortId) (f : Pw → Pw) : (s.modPw p f).fed = s.fed := rfl
@[simp] theorem State.modPw_flg (s : State) (p : PortId) (f : Pw → Pw) : (s.modPw p f).flg = s.flg := rfl
@[simp] theorem State.modPw_rcv (s : State) (p : PortId) (f : Pw → Pw) : (s.modPw p f).rcv = s.rcv := rfl
@[simp] theorem State.modPw_pos (s : State) (p : PortId) (f : Pw → Pw) : (s.modPw p f).pos = s.pos := rfl
@[simp] theorem State.modPw_otp (s : State) (p : PortId) (f : Pw → Pw) : (s.modPw p f).otp = s.otp := rfl
@[simp] theorem State.modPw_upd (s : State) (p : PortId) (f : Pw → Pw) : (s.modPw p f).upd = s.upd := rfl
@[simp] theorem State.modPw_glb (s : State) (p : PortId) (f : Pw → Pw) : (s.modPw p f).glb = s.glb := rfl
@[simp] theorem State.modPw_hbs (s : State) (p : PortId) (f : Pw → Pw) : (s.modPw p f).hbs = s.hbs := rfl
@[simp] theorem State.modPw_tmb (s : State) (p : PortId) (f : Pw → Pw) : (s.modPw p f).tmb = s.tmb := rfl
@[simp] theorem State.modPw_pmv (s : State) (p : PortId) (f : Pw → Pw) : (s.modPw p f).pmv = s.pmv := rfl
@[simp] theorem State.modPw_hsel (s : State) (p : PortId) (f : Pw → Pw) : (s.modPw p f).hsel = s.hsel := rfl
@[simp] theorem State.modPw_pins (s : State) (p : PortId) (f : Pw → Pw) : (s.modPw p f).pins = s.pins := rfl
@[simp] theorem State.modPw_faultLog (s : State) (p : PortId) (f : Pw → Pw) : (s.modPw p f).faultLog = s.faultLog := rfl
@[simp] theorem State.modPw_phase (s : State) (p : PortId) (f : Pw → Pw) : (s.modPw p f).phase = s.phase := rfl
@[simp] theorem State.modPw_bootArg (s : State) (p : PortId) (f : Pw → Pw) : (s.modPw p f).bootArg = s.bootArg := rfl
@[simp] theorem State.modPw_now (s : State) (p : PortId) (f : Pw → Pw) : (s.modPw p f).now = s.now := rfl
@[simp] theorem State.modPw_us (s : State) (p : PortId) (f : Pw → Pw) : (s.modPw p f).us = s.us := rfl
@[simp] theorem State.modPw_ramBad (s : State) (p : PortId) (f : Pw → Pw) : (s.modPw p f).ramBad = s.ramBad := rfl
@[simp] theorem State.modPw_dbgHalt (s : State) (p : PortId) (f : Pw → Pw) : (s.modPw p f).dbgHalt = s.dbgHalt := rfl
@[simp] theorem State.modPw_freeCtr (s : State) (p : PortId) (f : Pw → Pw) : (s.modPw p f).freeCtr = s.freeCtr := rfl
@[simp] theorem State.modPw_pending (s : State) (p : PortId) (f : Pw → Pw) : (s.modPw p f).pending = s.pending := rfl
@[simp] theorem State.modPw_core (s : State) (p : PortId) (f : Pw → Pw) (d : CoreId) : (s.modPw p f).core d = s.core d := rfl
@[simp] theorem State.modSp_cores (s : State) (p : PortId) (f : Sp → Sp) : (s.modSp p f).cores = s.cores := rfl
@[simp] theorem State.modSp_sram (s : State) (p : PortId) (f : Sp → Sp) : (s.modSp p f).sram = s.sram := rfl
@[simp] theorem State.modSp_ldg (s : State) (p : PortId) (f : Sp → Sp) : (s.modSp p f).ldg = s.ldg := rfl
@[simp] theorem State.modSp_fab (s : State) (p : PortId) (f : Sp → Sp) : (s.modSp p f).fab = s.fab := rfl
@[simp] theorem State.modSp_fed (s : State) (p : PortId) (f : Sp → Sp) : (s.modSp p f).fed = s.fed := rfl
@[simp] theorem State.modSp_flg (s : State) (p : PortId) (f : Sp → Sp) : (s.modSp p f).flg = s.flg := rfl
@[simp] theorem State.modSp_rcv (s : State) (p : PortId) (f : Sp → Sp) : (s.modSp p f).rcv = s.rcv := rfl
@[simp] theorem State.modSp_pos (s : State) (p : PortId) (f : Sp → Sp) : (s.modSp p f).pos = s.pos := rfl
@[simp] theorem State.modSp_otp (s : State) (p : PortId) (f : Sp → Sp) : (s.modSp p f).otp = s.otp := rfl
@[simp] theorem State.modSp_upd (s : State) (p : PortId) (f : Sp → Sp) : (s.modSp p f).upd = s.upd := rfl
@[simp] theorem State.modSp_glb (s : State) (p : PortId) (f : Sp → Sp) : (s.modSp p f).glb = s.glb := rfl
@[simp] theorem State.modSp_hbs (s : State) (p : PortId) (f : Sp → Sp) : (s.modSp p f).hbs = s.hbs := rfl
@[simp] theorem State.modSp_tmb (s : State) (p : PortId) (f : Sp → Sp) : (s.modSp p f).tmb = s.tmb := rfl
@[simp] theorem State.modSp_pmv (s : State) (p : PortId) (f : Sp → Sp) : (s.modSp p f).pmv = s.pmv := rfl
@[simp] theorem State.modSp_hsel (s : State) (p : PortId) (f : Sp → Sp) : (s.modSp p f).hsel = s.hsel := rfl
@[simp] theorem State.modSp_pins (s : State) (p : PortId) (f : Sp → Sp) : (s.modSp p f).pins = s.pins := rfl
@[simp] theorem State.modSp_faultLog (s : State) (p : PortId) (f : Sp → Sp) : (s.modSp p f).faultLog = s.faultLog := rfl
@[simp] theorem State.modSp_phase (s : State) (p : PortId) (f : Sp → Sp) : (s.modSp p f).phase = s.phase := rfl
@[simp] theorem State.modSp_bootArg (s : State) (p : PortId) (f : Sp → Sp) : (s.modSp p f).bootArg = s.bootArg := rfl
@[simp] theorem State.modSp_now (s : State) (p : PortId) (f : Sp → Sp) : (s.modSp p f).now = s.now := rfl
@[simp] theorem State.modSp_us (s : State) (p : PortId) (f : Sp → Sp) : (s.modSp p f).us = s.us := rfl
@[simp] theorem State.modSp_ramBad (s : State) (p : PortId) (f : Sp → Sp) : (s.modSp p f).ramBad = s.ramBad := rfl
@[simp] theorem State.modSp_dbgHalt (s : State) (p : PortId) (f : Sp → Sp) : (s.modSp p f).dbgHalt = s.dbgHalt := rfl
@[simp] theorem State.modSp_freeCtr (s : State) (p : PortId) (f : Sp → Sp) : (s.modSp p f).freeCtr = s.freeCtr := rfl
@[simp] theorem State.modSp_pending (s : State) (p : PortId) (f : Sp → Sp) : (s.modSp p f).pending = s.pending := rfl
@[simp] theorem State.modSp_core (s : State) (p : PortId) (f : Sp → Sp) (d : CoreId) : (s.modSp p f).core d = s.core d := rfl
@[simp] theorem State.modMn_cores (s : State) (p : PortId) (f : Mn → Mn) : (s.modMn p f).cores = s.cores := rfl
@[simp] theorem State.modMn_sram (s : State) (p : PortId) (f : Mn → Mn) : (s.modMn p f).sram = s.sram := rfl
@[simp] theorem State.modMn_ldg (s : State) (p : PortId) (f : Mn → Mn) : (s.modMn p f).ldg = s.ldg := rfl
@[simp] theorem State.modMn_fab (s : State) (p : PortId) (f : Mn → Mn) : (s.modMn p f).fab = s.fab := rfl
@[simp] theorem State.modMn_fed (s : State) (p : PortId) (f : Mn → Mn) : (s.modMn p f).fed = s.fed := rfl
@[simp] theorem State.modMn_flg (s : State) (p : PortId) (f : Mn → Mn) : (s.modMn p f).flg = s.flg := rfl
@[simp] theorem State.modMn_rcv (s : State) (p : PortId) (f : Mn → Mn) : (s.modMn p f).rcv = s.rcv := rfl
@[simp] theorem State.modMn_pos (s : State) (p : PortId) (f : Mn → Mn) : (s.modMn p f).pos = s.pos := rfl
@[simp] theorem State.modMn_otp (s : State) (p : PortId) (f : Mn → Mn) : (s.modMn p f).otp = s.otp := rfl
@[simp] theorem State.modMn_upd (s : State) (p : PortId) (f : Mn → Mn) : (s.modMn p f).upd = s.upd := rfl
@[simp] theorem State.modMn_glb (s : State) (p : PortId) (f : Mn → Mn) : (s.modMn p f).glb = s.glb := rfl
@[simp] theorem State.modMn_hbs (s : State) (p : PortId) (f : Mn → Mn) : (s.modMn p f).hbs = s.hbs := rfl
@[simp] theorem State.modMn_tmb (s : State) (p : PortId) (f : Mn → Mn) : (s.modMn p f).tmb = s.tmb := rfl
@[simp] theorem State.modMn_pmv (s : State) (p : PortId) (f : Mn → Mn) : (s.modMn p f).pmv = s.pmv := rfl
@[simp] theorem State.modMn_hsel (s : State) (p : PortId) (f : Mn → Mn) : (s.modMn p f).hsel = s.hsel := rfl
@[simp] theorem State.modMn_pins (s : State) (p : PortId) (f : Mn → Mn) : (s.modMn p f).pins = s.pins := rfl
@[simp] theorem State.modMn_faultLog (s : State) (p : PortId) (f : Mn → Mn) : (s.modMn p f).faultLog = s.faultLog := rfl
@[simp] theorem State.modMn_phase (s : State) (p : PortId) (f : Mn → Mn) : (s.modMn p f).phase = s.phase := rfl
@[simp] theorem State.modMn_bootArg (s : State) (p : PortId) (f : Mn → Mn) : (s.modMn p f).bootArg = s.bootArg := rfl
@[simp] theorem State.modMn_now (s : State) (p : PortId) (f : Mn → Mn) : (s.modMn p f).now = s.now := rfl
@[simp] theorem State.modMn_us (s : State) (p : PortId) (f : Mn → Mn) : (s.modMn p f).us = s.us := rfl
@[simp] theorem State.modMn_ramBad (s : State) (p : PortId) (f : Mn → Mn) : (s.modMn p f).ramBad = s.ramBad := rfl
@[simp] theorem State.modMn_dbgHalt (s : State) (p : PortId) (f : Mn → Mn) : (s.modMn p f).dbgHalt = s.dbgHalt := rfl
@[simp] theorem State.modMn_freeCtr (s : State) (p : PortId) (f : Mn → Mn) : (s.modMn p f).freeCtr = s.freeCtr := rfl
@[simp] theorem State.modMn_pending (s : State) (p : PortId) (f : Mn → Mn) : (s.modMn p f).pending = s.pending := rfl
@[simp] theorem State.modMn_core (s : State) (p : PortId) (f : Mn → Mn) (d : CoreId) : (s.modMn p f).core d = s.core d := rfl
@[simp] theorem State.modMs_cores (s : State) (p : PortId) (f : Ms → Ms) : (s.modMs p f).cores = s.cores := rfl
@[simp] theorem State.modMs_sram (s : State) (p : PortId) (f : Ms → Ms) : (s.modMs p f).sram = s.sram := rfl
@[simp] theorem State.modMs_ldg (s : State) (p : PortId) (f : Ms → Ms) : (s.modMs p f).ldg = s.ldg := rfl
@[simp] theorem State.modMs_fab (s : State) (p : PortId) (f : Ms → Ms) : (s.modMs p f).fab = s.fab := rfl
@[simp] theorem State.modMs_fed (s : State) (p : PortId) (f : Ms → Ms) : (s.modMs p f).fed = s.fed := rfl
@[simp] theorem State.modMs_flg (s : State) (p : PortId) (f : Ms → Ms) : (s.modMs p f).flg = s.flg := rfl
@[simp] theorem State.modMs_rcv (s : State) (p : PortId) (f : Ms → Ms) : (s.modMs p f).rcv = s.rcv := rfl
@[simp] theorem State.modMs_pos (s : State) (p : PortId) (f : Ms → Ms) : (s.modMs p f).pos = s.pos := rfl
@[simp] theorem State.modMs_otp (s : State) (p : PortId) (f : Ms → Ms) : (s.modMs p f).otp = s.otp := rfl
@[simp] theorem State.modMs_upd (s : State) (p : PortId) (f : Ms → Ms) : (s.modMs p f).upd = s.upd := rfl
@[simp] theorem State.modMs_glb (s : State) (p : PortId) (f : Ms → Ms) : (s.modMs p f).glb = s.glb := rfl
@[simp] theorem State.modMs_hbs (s : State) (p : PortId) (f : Ms → Ms) : (s.modMs p f).hbs = s.hbs := rfl
@[simp] theorem State.modMs_tmb (s : State) (p : PortId) (f : Ms → Ms) : (s.modMs p f).tmb = s.tmb := rfl
@[simp] theorem State.modMs_pmv (s : State) (p : PortId) (f : Ms → Ms) : (s.modMs p f).pmv = s.pmv := rfl
@[simp] theorem State.modMs_hsel (s : State) (p : PortId) (f : Ms → Ms) : (s.modMs p f).hsel = s.hsel := rfl
@[simp] theorem State.modMs_pins (s : State) (p : PortId) (f : Ms → Ms) : (s.modMs p f).pins = s.pins := rfl
@[simp] theorem State.modMs_faultLog (s : State) (p : PortId) (f : Ms → Ms) : (s.modMs p f).faultLog = s.faultLog := rfl
@[simp] theorem State.modMs_phase (s : State) (p : PortId) (f : Ms → Ms) : (s.modMs p f).phase = s.phase := rfl
@[simp] theorem State.modMs_bootArg (s : State) (p : PortId) (f : Ms → Ms) : (s.modMs p f).bootArg = s.bootArg := rfl
@[simp] theorem State.modMs_now (s : State) (p : PortId) (f : Ms → Ms) : (s.modMs p f).now = s.now := rfl
@[simp] theorem State.modMs_us (s : State) (p : PortId) (f : Ms → Ms) : (s.modMs p f).us = s.us := rfl
@[simp] theorem State.modMs_ramBad (s : State) (p : PortId) (f : Ms → Ms) : (s.modMs p f).ramBad = s.ramBad := rfl
@[simp] theorem State.modMs_dbgHalt (s : State) (p : PortId) (f : Ms → Ms) : (s.modMs p f).dbgHalt = s.dbgHalt := rfl
@[simp] theorem State.modMs_freeCtr (s : State) (p : PortId) (f : Ms → Ms) : (s.modMs p f).freeCtr = s.freeCtr := rfl
@[simp] theorem State.modMs_pending (s : State) (p : PortId) (f : Ms → Ms) : (s.modMs p f).pending = s.pending := rfl
@[simp] theorem State.modMs_core (s : State) (p : PortId) (f : Ms → Ms) (d : CoreId) : (s.modMs p f).core d = s.core d := rfl
@[simp] theorem State.modQ_cores (s : State) (p : PortId) (k : Fin 8) (f : Queue → Queue) : (s.modQ p k f).cores = s.cores := rfl
@[simp] theorem State.modQ_sram (s : State) (p : PortId) (k : Fin 8) (f : Queue → Queue) : (s.modQ p k f).sram = s.sram := rfl
@[simp] theorem State.modQ_ldg (s : State) (p : PortId) (k : Fin 8) (f : Queue → Queue) : (s.modQ p k f).ldg = s.ldg := rfl
@[simp] theorem State.modQ_fab (s : State) (p : PortId) (k : Fin 8) (f : Queue → Queue) : (s.modQ p k f).fab = s.fab := rfl
@[simp] theorem State.modQ_fed (s : State) (p : PortId) (k : Fin 8) (f : Queue → Queue) : (s.modQ p k f).fed = s.fed := rfl
@[simp] theorem State.modQ_flg (s : State) (p : PortId) (k : Fin 8) (f : Queue → Queue) : (s.modQ p k f).flg = s.flg := rfl
@[simp] theorem State.modQ_rcv (s : State) (p : PortId) (k : Fin 8) (f : Queue → Queue) : (s.modQ p k f).rcv = s.rcv := rfl
@[simp] theorem State.modQ_pos (s : State) (p : PortId) (k : Fin 8) (f : Queue → Queue) : (s.modQ p k f).pos = s.pos := rfl
@[simp] theorem State.modQ_otp (s : State) (p : PortId) (k : Fin 8) (f : Queue → Queue) : (s.modQ p k f).otp = s.otp := rfl
@[simp] theorem State.modQ_upd (s : State) (p : PortId) (k : Fin 8) (f : Queue → Queue) : (s.modQ p k f).upd = s.upd := rfl
@[simp] theorem State.modQ_glb (s : State) (p : PortId) (k : Fin 8) (f : Queue → Queue) : (s.modQ p k f).glb = s.glb := rfl
@[simp] theorem State.modQ_hbs (s : State) (p : PortId) (k : Fin 8) (f : Queue → Queue) : (s.modQ p k f).hbs = s.hbs := rfl
@[simp] theorem State.modQ_tmb (s : State) (p : PortId) (k : Fin 8) (f : Queue → Queue) : (s.modQ p k f).tmb = s.tmb := rfl
@[simp] theorem State.modQ_pmv (s : State) (p : PortId) (k : Fin 8) (f : Queue → Queue) : (s.modQ p k f).pmv = s.pmv := rfl
@[simp] theorem State.modQ_hsel (s : State) (p : PortId) (k : Fin 8) (f : Queue → Queue) : (s.modQ p k f).hsel = s.hsel := rfl
@[simp] theorem State.modQ_pins (s : State) (p : PortId) (k : Fin 8) (f : Queue → Queue) : (s.modQ p k f).pins = s.pins := rfl
@[simp] theorem State.modQ_faultLog (s : State) (p : PortId) (k : Fin 8) (f : Queue → Queue) : (s.modQ p k f).faultLog = s.faultLog := rfl
@[simp] theorem State.modQ_phase (s : State) (p : PortId) (k : Fin 8) (f : Queue → Queue) : (s.modQ p k f).phase = s.phase := rfl
@[simp] theorem State.modQ_bootArg (s : State) (p : PortId) (k : Fin 8) (f : Queue → Queue) : (s.modQ p k f).bootArg = s.bootArg := rfl
@[simp] theorem State.modQ_now (s : State) (p : PortId) (k : Fin 8) (f : Queue → Queue) : (s.modQ p k f).now = s.now := rfl
@[simp] theorem State.modQ_us (s : State) (p : PortId) (k : Fin 8) (f : Queue → Queue) : (s.modQ p k f).us = s.us := rfl
@[simp] theorem State.modQ_ramBad (s : State) (p : PortId) (k : Fin 8) (f : Queue → Queue) : (s.modQ p k f).ramBad = s.ramBad := rfl
@[simp] theorem State.modQ_dbgHalt (s : State) (p : PortId) (k : Fin 8) (f : Queue → Queue) : (s.modQ p k f).dbgHalt = s.dbgHalt := rfl
@[simp] theorem State.modQ_freeCtr (s : State) (p : PortId) (k : Fin 8) (f : Queue → Queue) : (s.modQ p k f).freeCtr = s.freeCtr := rfl
@[simp] theorem State.modQ_pending (s : State) (p : PortId) (k : Fin 8) (f : Queue → Queue) : (s.modQ p k f).pending = s.pending := rfl
@[simp] theorem State.modQ_core (s : State) (p : PortId) (k : Fin 8) (f : Queue → Queue) (d : CoreId) : (s.modQ p k f).core d = s.core d := rfl
@[simp] theorem State.modLdg_ports (s : State) (f : Ldg → Ldg) : (s.modLdg f).ports = s.ports := rfl
@[simp] theorem State.modLdg_cores (s : State) (f : Ldg → Ldg) : (s.modLdg f).cores = s.cores := rfl
@[simp] theorem State.modLdg_sram (s : State) (f : Ldg → Ldg) : (s.modLdg f).sram = s.sram := rfl
@[simp] theorem State.modLdg_fab (s : State) (f : Ldg → Ldg) : (s.modLdg f).fab = s.fab := rfl
@[simp] theorem State.modLdg_fed (s : State) (f : Ldg → Ldg) : (s.modLdg f).fed = s.fed := rfl
@[simp] theorem State.modLdg_flg (s : State) (f : Ldg → Ldg) : (s.modLdg f).flg = s.flg := rfl
@[simp] theorem State.modLdg_rcv (s : State) (f : Ldg → Ldg) : (s.modLdg f).rcv = s.rcv := rfl
@[simp] theorem State.modLdg_pos (s : State) (f : Ldg → Ldg) : (s.modLdg f).pos = s.pos := rfl
@[simp] theorem State.modLdg_otp (s : State) (f : Ldg → Ldg) : (s.modLdg f).otp = s.otp := rfl
@[simp] theorem State.modLdg_upd (s : State) (f : Ldg → Ldg) : (s.modLdg f).upd = s.upd := rfl
@[simp] theorem State.modLdg_glb (s : State) (f : Ldg → Ldg) : (s.modLdg f).glb = s.glb := rfl
@[simp] theorem State.modLdg_hbs (s : State) (f : Ldg → Ldg) : (s.modLdg f).hbs = s.hbs := rfl
@[simp] theorem State.modLdg_tmb (s : State) (f : Ldg → Ldg) : (s.modLdg f).tmb = s.tmb := rfl
@[simp] theorem State.modLdg_pmv (s : State) (f : Ldg → Ldg) : (s.modLdg f).pmv = s.pmv := rfl
@[simp] theorem State.modLdg_hsel (s : State) (f : Ldg → Ldg) : (s.modLdg f).hsel = s.hsel := rfl
@[simp] theorem State.modLdg_pins (s : State) (f : Ldg → Ldg) : (s.modLdg f).pins = s.pins := rfl
@[simp] theorem State.modLdg_faultLog (s : State) (f : Ldg → Ldg) : (s.modLdg f).faultLog = s.faultLog := rfl
@[simp] theorem State.modLdg_phase (s : State) (f : Ldg → Ldg) : (s.modLdg f).phase = s.phase := rfl
@[simp] theorem State.modLdg_bootArg (s : State) (f : Ldg → Ldg) : (s.modLdg f).bootArg = s.bootArg := rfl
@[simp] theorem State.modLdg_now (s : State) (f : Ldg → Ldg) : (s.modLdg f).now = s.now := rfl
@[simp] theorem State.modLdg_us (s : State) (f : Ldg → Ldg) : (s.modLdg f).us = s.us := rfl
@[simp] theorem State.modLdg_ramBad (s : State) (f : Ldg → Ldg) : (s.modLdg f).ramBad = s.ramBad := rfl
@[simp] theorem State.modLdg_dbgHalt (s : State) (f : Ldg → Ldg) : (s.modLdg f).dbgHalt = s.dbgHalt := rfl
@[simp] theorem State.modLdg_freeCtr (s : State) (f : Ldg → Ldg) : (s.modLdg f).freeCtr = s.freeCtr := rfl
@[simp] theorem State.modLdg_pending (s : State) (f : Ldg → Ldg) : (s.modLdg f).pending = s.pending := rfl
@[simp] theorem State.modLdg_core (s : State) (f : Ldg → Ldg) (d : CoreId) : (s.modLdg f).core d = s.core d := rfl
@[simp] theorem State.modLdg_port (s : State) (f : Ldg → Ldg) (q : PortId) : (s.modLdg f).port q = s.port q := rfl
@[simp] theorem State.modFab_ports (s : State) (f : Fab → Fab) : (s.modFab f).ports = s.ports := rfl
@[simp] theorem State.modFab_cores (s : State) (f : Fab → Fab) : (s.modFab f).cores = s.cores := rfl
@[simp] theorem State.modFab_sram (s : State) (f : Fab → Fab) : (s.modFab f).sram = s.sram := rfl
@[simp] theorem State.modFab_ldg (s : State) (f : Fab → Fab) : (s.modFab f).ldg = s.ldg := rfl
@[simp] theorem State.modFab_fed (s : State) (f : Fab → Fab) : (s.modFab f).fed = s.fed := rfl
@[simp] theorem State.modFab_flg (s : State) (f : Fab → Fab) : (s.modFab f).flg = s.flg := rfl
@[simp] theorem State.modFab_rcv (s : State) (f : Fab → Fab) : (s.modFab f).rcv = s.rcv := rfl
@[simp] theorem State.modFab_pos (s : State) (f : Fab → Fab) : (s.modFab f).pos = s.pos := rfl
@[simp] theorem State.modFab_otp (s : State) (f : Fab → Fab) : (s.modFab f).otp = s.otp := rfl
@[simp] theorem State.modFab_upd (s : State) (f : Fab → Fab) : (s.modFab f).upd = s.upd := rfl
@[simp] theorem State.modFab_glb (s : State) (f : Fab → Fab) : (s.modFab f).glb = s.glb := rfl
@[simp] theorem State.modFab_hbs (s : State) (f : Fab → Fab) : (s.modFab f).hbs = s.hbs := rfl
@[simp] theorem State.modFab_tmb (s : State) (f : Fab → Fab) : (s.modFab f).tmb = s.tmb := rfl
@[simp] theorem State.modFab_pmv (s : State) (f : Fab → Fab) : (s.modFab f).pmv = s.pmv := rfl
@[simp] theorem State.modFab_hsel (s : State) (f : Fab → Fab) : (s.modFab f).hsel = s.hsel := rfl
@[simp] theorem State.modFab_pins (s : State) (f : Fab → Fab) : (s.modFab f).pins = s.pins := rfl
@[simp] theorem State.modFab_faultLog (s : State) (f : Fab → Fab) : (s.modFab f).faultLog = s.faultLog := rfl
@[simp] theorem State.modFab_phase (s : State) (f : Fab → Fab) : (s.modFab f).phase = s.phase := rfl
@[simp] theorem State.modFab_bootArg (s : State) (f : Fab → Fab) : (s.modFab f).bootArg = s.bootArg := rfl
@[simp] theorem State.modFab_now (s : State) (f : Fab → Fab) : (s.modFab f).now = s.now := rfl
@[simp] theorem State.modFab_us (s : State) (f : Fab → Fab) : (s.modFab f).us = s.us := rfl
@[simp] theorem State.modFab_ramBad (s : State) (f : Fab → Fab) : (s.modFab f).ramBad = s.ramBad := rfl
@[simp] theorem State.modFab_dbgHalt (s : State) (f : Fab → Fab) : (s.modFab f).dbgHalt = s.dbgHalt := rfl
@[simp] theorem State.modFab_freeCtr (s : State) (f : Fab → Fab) : (s.modFab f).freeCtr = s.freeCtr := rfl
@[simp] theorem State.modFab_pending (s : State) (f : Fab → Fab) : (s.modFab f).pending = s.pending := rfl
@[simp] theorem State.modFab_core (s : State) (f : Fab → Fab) (d : CoreId) : (s.modFab f).core d = s.core d := rfl
@[simp] theorem State.modFab_port (s : State) (f : Fab → Fab) (q : PortId) : (s.modFab f).port q = s.port q := rfl
@[simp] theorem State.modFed_ports (s : State) (f : Fed → Fed) : (s.modFed f).ports = s.ports := rfl
@[simp] theorem State.modFed_cores (s : State) (f : Fed → Fed) : (s.modFed f).cores = s.cores := rfl
@[simp] theorem State.modFed_sram (s : State) (f : Fed → Fed) : (s.modFed f).sram = s.sram := rfl
@[simp] theorem State.modFed_ldg (s : State) (f : Fed → Fed) : (s.modFed f).ldg = s.ldg := rfl
@[simp] theorem State.modFed_fab (s : State) (f : Fed → Fed) : (s.modFed f).fab = s.fab := rfl
@[simp] theorem State.modFed_flg (s : State) (f : Fed → Fed) : (s.modFed f).flg = s.flg := rfl
@[simp] theorem State.modFed_rcv (s : State) (f : Fed → Fed) : (s.modFed f).rcv = s.rcv := rfl
@[simp] theorem State.modFed_pos (s : State) (f : Fed → Fed) : (s.modFed f).pos = s.pos := rfl
@[simp] theorem State.modFed_otp (s : State) (f : Fed → Fed) : (s.modFed f).otp = s.otp := rfl
@[simp] theorem State.modFed_upd (s : State) (f : Fed → Fed) : (s.modFed f).upd = s.upd := rfl
@[simp] theorem State.modFed_glb (s : State) (f : Fed → Fed) : (s.modFed f).glb = s.glb := rfl
@[simp] theorem State.modFed_hbs (s : State) (f : Fed → Fed) : (s.modFed f).hbs = s.hbs := rfl
@[simp] theorem State.modFed_tmb (s : State) (f : Fed → Fed) : (s.modFed f).tmb = s.tmb := rfl
@[simp] theorem State.modFed_pmv (s : State) (f : Fed → Fed) : (s.modFed f).pmv = s.pmv := rfl
@[simp] theorem State.modFed_hsel (s : State) (f : Fed → Fed) : (s.modFed f).hsel = s.hsel := rfl
@[simp] theorem State.modFed_pins (s : State) (f : Fed → Fed) : (s.modFed f).pins = s.pins := rfl
@[simp] theorem State.modFed_faultLog (s : State) (f : Fed → Fed) : (s.modFed f).faultLog = s.faultLog := rfl
@[simp] theorem State.modFed_phase (s : State) (f : Fed → Fed) : (s.modFed f).phase = s.phase := rfl
@[simp] theorem State.modFed_bootArg (s : State) (f : Fed → Fed) : (s.modFed f).bootArg = s.bootArg := rfl
@[simp] theorem State.modFed_now (s : State) (f : Fed → Fed) : (s.modFed f).now = s.now := rfl
@[simp] theorem State.modFed_us (s : State) (f : Fed → Fed) : (s.modFed f).us = s.us := rfl
@[simp] theorem State.modFed_ramBad (s : State) (f : Fed → Fed) : (s.modFed f).ramBad = s.ramBad := rfl
@[simp] theorem State.modFed_dbgHalt (s : State) (f : Fed → Fed) : (s.modFed f).dbgHalt = s.dbgHalt := rfl
@[simp] theorem State.modFed_freeCtr (s : State) (f : Fed → Fed) : (s.modFed f).freeCtr = s.freeCtr := rfl
@[simp] theorem State.modFed_pending (s : State) (f : Fed → Fed) : (s.modFed f).pending = s.pending := rfl
@[simp] theorem State.modFed_core (s : State) (f : Fed → Fed) (d : CoreId) : (s.modFed f).core d = s.core d := rfl
@[simp] theorem State.modFed_port (s : State) (f : Fed → Fed) (q : PortId) : (s.modFed f).port q = s.port q := rfl
@[simp] theorem State.modFlg_ports (s : State) (f : Flg → Flg) : (s.modFlg f).ports = s.ports := rfl
@[simp] theorem State.modFlg_cores (s : State) (f : Flg → Flg) : (s.modFlg f).cores = s.cores := rfl
@[simp] theorem State.modFlg_sram (s : State) (f : Flg → Flg) : (s.modFlg f).sram = s.sram := rfl
@[simp] theorem State.modFlg_ldg (s : State) (f : Flg → Flg) : (s.modFlg f).ldg = s.ldg := rfl
@[simp] theorem State.modFlg_fab (s : State) (f : Flg → Flg) : (s.modFlg f).fab = s.fab := rfl
@[simp] theorem State.modFlg_fed (s : State) (f : Flg → Flg) : (s.modFlg f).fed = s.fed := rfl
@[simp] theorem State.modFlg_rcv (s : State) (f : Flg → Flg) : (s.modFlg f).rcv = s.rcv := rfl
@[simp] theorem State.modFlg_pos (s : State) (f : Flg → Flg) : (s.modFlg f).pos = s.pos := rfl
@[simp] theorem State.modFlg_otp (s : State) (f : Flg → Flg) : (s.modFlg f).otp = s.otp := rfl
@[simp] theorem State.modFlg_upd (s : State) (f : Flg → Flg) : (s.modFlg f).upd = s.upd := rfl
@[simp] theorem State.modFlg_glb (s : State) (f : Flg → Flg) : (s.modFlg f).glb = s.glb := rfl
@[simp] theorem State.modFlg_hbs (s : State) (f : Flg → Flg) : (s.modFlg f).hbs = s.hbs := rfl
@[simp] theorem State.modFlg_tmb (s : State) (f : Flg → Flg) : (s.modFlg f).tmb = s.tmb := rfl
@[simp] theorem State.modFlg_pmv (s : State) (f : Flg → Flg) : (s.modFlg f).pmv = s.pmv := rfl
@[simp] theorem State.modFlg_hsel (s : State) (f : Flg → Flg) : (s.modFlg f).hsel = s.hsel := rfl
@[simp] theorem State.modFlg_pins (s : State) (f : Flg → Flg) : (s.modFlg f).pins = s.pins := rfl
@[simp] theorem State.modFlg_faultLog (s : State) (f : Flg → Flg) : (s.modFlg f).faultLog = s.faultLog := rfl
@[simp] theorem State.modFlg_phase (s : State) (f : Flg → Flg) : (s.modFlg f).phase = s.phase := rfl
@[simp] theorem State.modFlg_bootArg (s : State) (f : Flg → Flg) : (s.modFlg f).bootArg = s.bootArg := rfl
@[simp] theorem State.modFlg_now (s : State) (f : Flg → Flg) : (s.modFlg f).now = s.now := rfl
@[simp] theorem State.modFlg_us (s : State) (f : Flg → Flg) : (s.modFlg f).us = s.us := rfl
@[simp] theorem State.modFlg_ramBad (s : State) (f : Flg → Flg) : (s.modFlg f).ramBad = s.ramBad := rfl
@[simp] theorem State.modFlg_dbgHalt (s : State) (f : Flg → Flg) : (s.modFlg f).dbgHalt = s.dbgHalt := rfl
@[simp] theorem State.modFlg_freeCtr (s : State) (f : Flg → Flg) : (s.modFlg f).freeCtr = s.freeCtr := rfl
@[simp] theorem State.modFlg_pending (s : State) (f : Flg → Flg) : (s.modFlg f).pending = s.pending := rfl
@[simp] theorem State.modFlg_core (s : State) (f : Flg → Flg) (d : CoreId) : (s.modFlg f).core d = s.core d := rfl
@[simp] theorem State.modFlg_port (s : State) (f : Flg → Flg) (q : PortId) : (s.modFlg f).port q = s.port q := rfl
@[simp] theorem State.modRec_ports (s : State) (f : Rec → Rec) : (s.modRec f).ports = s.ports := rfl
@[simp] theorem State.modRec_cores (s : State) (f : Rec → Rec) : (s.modRec f).cores = s.cores := rfl
@[simp] theorem State.modRec_sram (s : State) (f : Rec → Rec) : (s.modRec f).sram = s.sram := rfl
@[simp] theorem State.modRec_ldg (s : State) (f : Rec → Rec) : (s.modRec f).ldg = s.ldg := rfl
@[simp] theorem State.modRec_fab (s : State) (f : Rec → Rec) : (s.modRec f).fab = s.fab := rfl
@[simp] theorem State.modRec_fed (s : State) (f : Rec → Rec) : (s.modRec f).fed = s.fed := rfl
@[simp] theorem State.modRec_flg (s : State) (f : Rec → Rec) : (s.modRec f).flg = s.flg := rfl
@[simp] theorem State.modRec_pos (s : State) (f : Rec → Rec) : (s.modRec f).pos = s.pos := rfl
@[simp] theorem State.modRec_otp (s : State) (f : Rec → Rec) : (s.modRec f).otp = s.otp := rfl
@[simp] theorem State.modRec_upd (s : State) (f : Rec → Rec) : (s.modRec f).upd = s.upd := rfl
@[simp] theorem State.modRec_glb (s : State) (f : Rec → Rec) : (s.modRec f).glb = s.glb := rfl
@[simp] theorem State.modRec_hbs (s : State) (f : Rec → Rec) : (s.modRec f).hbs = s.hbs := rfl
@[simp] theorem State.modRec_tmb (s : State) (f : Rec → Rec) : (s.modRec f).tmb = s.tmb := rfl
@[simp] theorem State.modRec_pmv (s : State) (f : Rec → Rec) : (s.modRec f).pmv = s.pmv := rfl
@[simp] theorem State.modRec_hsel (s : State) (f : Rec → Rec) : (s.modRec f).hsel = s.hsel := rfl
@[simp] theorem State.modRec_pins (s : State) (f : Rec → Rec) : (s.modRec f).pins = s.pins := rfl
@[simp] theorem State.modRec_faultLog (s : State) (f : Rec → Rec) : (s.modRec f).faultLog = s.faultLog := rfl
@[simp] theorem State.modRec_phase (s : State) (f : Rec → Rec) : (s.modRec f).phase = s.phase := rfl
@[simp] theorem State.modRec_bootArg (s : State) (f : Rec → Rec) : (s.modRec f).bootArg = s.bootArg := rfl
@[simp] theorem State.modRec_now (s : State) (f : Rec → Rec) : (s.modRec f).now = s.now := rfl
@[simp] theorem State.modRec_us (s : State) (f : Rec → Rec) : (s.modRec f).us = s.us := rfl
@[simp] theorem State.modRec_ramBad (s : State) (f : Rec → Rec) : (s.modRec f).ramBad = s.ramBad := rfl
@[simp] theorem State.modRec_dbgHalt (s : State) (f : Rec → Rec) : (s.modRec f).dbgHalt = s.dbgHalt := rfl
@[simp] theorem State.modRec_freeCtr (s : State) (f : Rec → Rec) : (s.modRec f).freeCtr = s.freeCtr := rfl
@[simp] theorem State.modRec_pending (s : State) (f : Rec → Rec) : (s.modRec f).pending = s.pending := rfl
@[simp] theorem State.modRec_core (s : State) (f : Rec → Rec) (d : CoreId) : (s.modRec f).core d = s.core d := rfl
@[simp] theorem State.modRec_port (s : State) (f : Rec → Rec) (q : PortId) : (s.modRec f).port q = s.port q := rfl
@[simp] theorem State.modOtp_ports (s : State) (f : Otp → Otp) : (s.modOtp f).ports = s.ports := rfl
@[simp] theorem State.modOtp_cores (s : State) (f : Otp → Otp) : (s.modOtp f).cores = s.cores := rfl
@[simp] theorem State.modOtp_sram (s : State) (f : Otp → Otp) : (s.modOtp f).sram = s.sram := rfl
@[simp] theorem State.modOtp_ldg (s : State) (f : Otp → Otp) : (s.modOtp f).ldg = s.ldg := rfl
@[simp] theorem State.modOtp_fab (s : State) (f : Otp → Otp) : (s.modOtp f).fab = s.fab := rfl
@[simp] theorem State.modOtp_fed (s : State) (f : Otp → Otp) : (s.modOtp f).fed = s.fed := rfl
@[simp] theorem State.modOtp_flg (s : State) (f : Otp → Otp) : (s.modOtp f).flg = s.flg := rfl
@[simp] theorem State.modOtp_rcv (s : State) (f : Otp → Otp) : (s.modOtp f).rcv = s.rcv := rfl
@[simp] theorem State.modOtp_pos (s : State) (f : Otp → Otp) : (s.modOtp f).pos = s.pos := rfl
@[simp] theorem State.modOtp_upd (s : State) (f : Otp → Otp) : (s.modOtp f).upd = s.upd := rfl
@[simp] theorem State.modOtp_glb (s : State) (f : Otp → Otp) : (s.modOtp f).glb = s.glb := rfl
@[simp] theorem State.modOtp_hbs (s : State) (f : Otp → Otp) : (s.modOtp f).hbs = s.hbs := rfl
@[simp] theorem State.modOtp_tmb (s : State) (f : Otp → Otp) : (s.modOtp f).tmb = s.tmb := rfl
@[simp] theorem State.modOtp_pmv (s : State) (f : Otp → Otp) : (s.modOtp f).pmv = s.pmv := rfl
@[simp] theorem State.modOtp_hsel (s : State) (f : Otp → Otp) : (s.modOtp f).hsel = s.hsel := rfl
@[simp] theorem State.modOtp_pins (s : State) (f : Otp → Otp) : (s.modOtp f).pins = s.pins := rfl
@[simp] theorem State.modOtp_faultLog (s : State) (f : Otp → Otp) : (s.modOtp f).faultLog = s.faultLog := rfl
@[simp] theorem State.modOtp_phase (s : State) (f : Otp → Otp) : (s.modOtp f).phase = s.phase := rfl
@[simp] theorem State.modOtp_bootArg (s : State) (f : Otp → Otp) : (s.modOtp f).bootArg = s.bootArg := rfl
@[simp] theorem State.modOtp_now (s : State) (f : Otp → Otp) : (s.modOtp f).now = s.now := rfl
@[simp] theorem State.modOtp_us (s : State) (f : Otp → Otp) : (s.modOtp f).us = s.us := rfl
@[simp] theorem State.modOtp_ramBad (s : State) (f : Otp → Otp) : (s.modOtp f).ramBad = s.ramBad := rfl
@[simp] theorem State.modOtp_dbgHalt (s : State) (f : Otp → Otp) : (s.modOtp f).dbgHalt = s.dbgHalt := rfl
@[simp] theorem State.modOtp_freeCtr (s : State) (f : Otp → Otp) : (s.modOtp f).freeCtr = s.freeCtr := rfl
@[simp] theorem State.modOtp_pending (s : State) (f : Otp → Otp) : (s.modOtp f).pending = s.pending := rfl
@[simp] theorem State.modOtp_core (s : State) (f : Otp → Otp) (d : CoreId) : (s.modOtp f).core d = s.core d := rfl
@[simp] theorem State.modOtp_port (s : State) (f : Otp → Otp) (q : PortId) : (s.modOtp f).port q = s.port q := rfl
@[simp] theorem State.modUpd_ports (s : State) (f : Upd → Upd) : (s.modUpd f).ports = s.ports := rfl
@[simp] theorem State.modUpd_cores (s : State) (f : Upd → Upd) : (s.modUpd f).cores = s.cores := rfl
@[simp] theorem State.modUpd_sram (s : State) (f : Upd → Upd) : (s.modUpd f).sram = s.sram := rfl
@[simp] theorem State.modUpd_ldg (s : State) (f : Upd → Upd) : (s.modUpd f).ldg = s.ldg := rfl
@[simp] theorem State.modUpd_fab (s : State) (f : Upd → Upd) : (s.modUpd f).fab = s.fab := rfl
@[simp] theorem State.modUpd_fed (s : State) (f : Upd → Upd) : (s.modUpd f).fed = s.fed := rfl
@[simp] theorem State.modUpd_flg (s : State) (f : Upd → Upd) : (s.modUpd f).flg = s.flg := rfl
@[simp] theorem State.modUpd_rcv (s : State) (f : Upd → Upd) : (s.modUpd f).rcv = s.rcv := rfl
@[simp] theorem State.modUpd_pos (s : State) (f : Upd → Upd) : (s.modUpd f).pos = s.pos := rfl
@[simp] theorem State.modUpd_otp (s : State) (f : Upd → Upd) : (s.modUpd f).otp = s.otp := rfl
@[simp] theorem State.modUpd_glb (s : State) (f : Upd → Upd) : (s.modUpd f).glb = s.glb := rfl
@[simp] theorem State.modUpd_hbs (s : State) (f : Upd → Upd) : (s.modUpd f).hbs = s.hbs := rfl
@[simp] theorem State.modUpd_tmb (s : State) (f : Upd → Upd) : (s.modUpd f).tmb = s.tmb := rfl
@[simp] theorem State.modUpd_pmv (s : State) (f : Upd → Upd) : (s.modUpd f).pmv = s.pmv := rfl
@[simp] theorem State.modUpd_hsel (s : State) (f : Upd → Upd) : (s.modUpd f).hsel = s.hsel := rfl
@[simp] theorem State.modUpd_pins (s : State) (f : Upd → Upd) : (s.modUpd f).pins = s.pins := rfl
@[simp] theorem State.modUpd_faultLog (s : State) (f : Upd → Upd) : (s.modUpd f).faultLog = s.faultLog := rfl
@[simp] theorem State.modUpd_phase (s : State) (f : Upd → Upd) : (s.modUpd f).phase = s.phase := rfl
@[simp] theorem State.modUpd_bootArg (s : State) (f : Upd → Upd) : (s.modUpd f).bootArg = s.bootArg := rfl
@[simp] theorem State.modUpd_now (s : State) (f : Upd → Upd) : (s.modUpd f).now = s.now := rfl
@[simp] theorem State.modUpd_us (s : State) (f : Upd → Upd) : (s.modUpd f).us = s.us := rfl
@[simp] theorem State.modUpd_ramBad (s : State) (f : Upd → Upd) : (s.modUpd f).ramBad = s.ramBad := rfl
@[simp] theorem State.modUpd_dbgHalt (s : State) (f : Upd → Upd) : (s.modUpd f).dbgHalt = s.dbgHalt := rfl
@[simp] theorem State.modUpd_freeCtr (s : State) (f : Upd → Upd) : (s.modUpd f).freeCtr = s.freeCtr := rfl
@[simp] theorem State.modUpd_pending (s : State) (f : Upd → Upd) : (s.modUpd f).pending = s.pending := rfl
@[simp] theorem State.modUpd_core (s : State) (f : Upd → Upd) (d : CoreId) : (s.modUpd f).core d = s.core d := rfl
@[simp] theorem State.modUpd_port (s : State) (f : Upd → Upd) (q : PortId) : (s.modUpd f).port q = s.port q := rfl
@[simp] theorem State.modGlb_ports (s : State) (f : Glb → Glb) : (s.modGlb f).ports = s.ports := rfl
@[simp] theorem State.modGlb_cores (s : State) (f : Glb → Glb) : (s.modGlb f).cores = s.cores := rfl
@[simp] theorem State.modGlb_sram (s : State) (f : Glb → Glb) : (s.modGlb f).sram = s.sram := rfl
@[simp] theorem State.modGlb_ldg (s : State) (f : Glb → Glb) : (s.modGlb f).ldg = s.ldg := rfl
@[simp] theorem State.modGlb_fab (s : State) (f : Glb → Glb) : (s.modGlb f).fab = s.fab := rfl
@[simp] theorem State.modGlb_fed (s : State) (f : Glb → Glb) : (s.modGlb f).fed = s.fed := rfl
@[simp] theorem State.modGlb_flg (s : State) (f : Glb → Glb) : (s.modGlb f).flg = s.flg := rfl
@[simp] theorem State.modGlb_rcv (s : State) (f : Glb → Glb) : (s.modGlb f).rcv = s.rcv := rfl
@[simp] theorem State.modGlb_pos (s : State) (f : Glb → Glb) : (s.modGlb f).pos = s.pos := rfl
@[simp] theorem State.modGlb_otp (s : State) (f : Glb → Glb) : (s.modGlb f).otp = s.otp := rfl
@[simp] theorem State.modGlb_upd (s : State) (f : Glb → Glb) : (s.modGlb f).upd = s.upd := rfl
@[simp] theorem State.modGlb_hbs (s : State) (f : Glb → Glb) : (s.modGlb f).hbs = s.hbs := rfl
@[simp] theorem State.modGlb_tmb (s : State) (f : Glb → Glb) : (s.modGlb f).tmb = s.tmb := rfl
@[simp] theorem State.modGlb_pmv (s : State) (f : Glb → Glb) : (s.modGlb f).pmv = s.pmv := rfl
@[simp] theorem State.modGlb_hsel (s : State) (f : Glb → Glb) : (s.modGlb f).hsel = s.hsel := rfl
@[simp] theorem State.modGlb_pins (s : State) (f : Glb → Glb) : (s.modGlb f).pins = s.pins := rfl
@[simp] theorem State.modGlb_faultLog (s : State) (f : Glb → Glb) : (s.modGlb f).faultLog = s.faultLog := rfl
@[simp] theorem State.modGlb_phase (s : State) (f : Glb → Glb) : (s.modGlb f).phase = s.phase := rfl
@[simp] theorem State.modGlb_bootArg (s : State) (f : Glb → Glb) : (s.modGlb f).bootArg = s.bootArg := rfl
@[simp] theorem State.modGlb_now (s : State) (f : Glb → Glb) : (s.modGlb f).now = s.now := rfl
@[simp] theorem State.modGlb_us (s : State) (f : Glb → Glb) : (s.modGlb f).us = s.us := rfl
@[simp] theorem State.modGlb_ramBad (s : State) (f : Glb → Glb) : (s.modGlb f).ramBad = s.ramBad := rfl
@[simp] theorem State.modGlb_dbgHalt (s : State) (f : Glb → Glb) : (s.modGlb f).dbgHalt = s.dbgHalt := rfl
@[simp] theorem State.modGlb_freeCtr (s : State) (f : Glb → Glb) : (s.modGlb f).freeCtr = s.freeCtr := rfl
@[simp] theorem State.modGlb_pending (s : State) (f : Glb → Glb) : (s.modGlb f).pending = s.pending := rfl
@[simp] theorem State.modGlb_core (s : State) (f : Glb → Glb) (d : CoreId) : (s.modGlb f).core d = s.core d := rfl
@[simp] theorem State.modGlb_port (s : State) (f : Glb → Glb) (q : PortId) : (s.modGlb f).port q = s.port q := rfl
@[simp] theorem State.modHbs_ports (s : State) (f : Hbs → Hbs) : (s.modHbs f).ports = s.ports := rfl
@[simp] theorem State.modHbs_cores (s : State) (f : Hbs → Hbs) : (s.modHbs f).cores = s.cores := rfl
@[simp] theorem State.modHbs_sram (s : State) (f : Hbs → Hbs) : (s.modHbs f).sram = s.sram := rfl
@[simp] theorem State.modHbs_ldg (s : State) (f : Hbs → Hbs) : (s.modHbs f).ldg = s.ldg := rfl
@[simp] theorem State.modHbs_fab (s : State) (f : Hbs → Hbs) : (s.modHbs f).fab = s.fab := rfl
@[simp] theorem State.modHbs_fed (s : State) (f : Hbs → Hbs) : (s.modHbs f).fed = s.fed := rfl
@[simp] theorem State.modHbs_flg (s : State) (f : Hbs → Hbs) : (s.modHbs f).flg = s.flg := rfl
@[simp] theorem State.modHbs_rcv (s : State) (f : Hbs → Hbs) : (s.modHbs f).rcv = s.rcv := rfl
@[simp] theorem State.modHbs_pos (s : State) (f : Hbs → Hbs) : (s.modHbs f).pos = s.pos := rfl
@[simp] theorem State.modHbs_otp (s : State) (f : Hbs → Hbs) : (s.modHbs f).otp = s.otp := rfl
@[simp] theorem State.modHbs_upd (s : State) (f : Hbs → Hbs) : (s.modHbs f).upd = s.upd := rfl
@[simp] theorem State.modHbs_glb (s : State) (f : Hbs → Hbs) : (s.modHbs f).glb = s.glb := rfl
@[simp] theorem State.modHbs_tmb (s : State) (f : Hbs → Hbs) : (s.modHbs f).tmb = s.tmb := rfl
@[simp] theorem State.modHbs_pmv (s : State) (f : Hbs → Hbs) : (s.modHbs f).pmv = s.pmv := rfl
@[simp] theorem State.modHbs_hsel (s : State) (f : Hbs → Hbs) : (s.modHbs f).hsel = s.hsel := rfl
@[simp] theorem State.modHbs_pins (s : State) (f : Hbs → Hbs) : (s.modHbs f).pins = s.pins := rfl
@[simp] theorem State.modHbs_faultLog (s : State) (f : Hbs → Hbs) : (s.modHbs f).faultLog = s.faultLog := rfl
@[simp] theorem State.modHbs_phase (s : State) (f : Hbs → Hbs) : (s.modHbs f).phase = s.phase := rfl
@[simp] theorem State.modHbs_bootArg (s : State) (f : Hbs → Hbs) : (s.modHbs f).bootArg = s.bootArg := rfl
@[simp] theorem State.modHbs_now (s : State) (f : Hbs → Hbs) : (s.modHbs f).now = s.now := rfl
@[simp] theorem State.modHbs_us (s : State) (f : Hbs → Hbs) : (s.modHbs f).us = s.us := rfl
@[simp] theorem State.modHbs_ramBad (s : State) (f : Hbs → Hbs) : (s.modHbs f).ramBad = s.ramBad := rfl
@[simp] theorem State.modHbs_dbgHalt (s : State) (f : Hbs → Hbs) : (s.modHbs f).dbgHalt = s.dbgHalt := rfl
@[simp] theorem State.modHbs_freeCtr (s : State) (f : Hbs → Hbs) : (s.modHbs f).freeCtr = s.freeCtr := rfl
@[simp] theorem State.modHbs_pending (s : State) (f : Hbs → Hbs) : (s.modHbs f).pending = s.pending := rfl
@[simp] theorem State.modHbs_core (s : State) (f : Hbs → Hbs) (d : CoreId) : (s.modHbs f).core d = s.core d := rfl
@[simp] theorem State.modHbs_port (s : State) (f : Hbs → Hbs) (q : PortId) : (s.modHbs f).port q = s.port q := rfl
@[simp] theorem State.modTmb_ports (s : State) (f : Tmb → Tmb) : (s.modTmb f).ports = s.ports := rfl
@[simp] theorem State.modTmb_cores (s : State) (f : Tmb → Tmb) : (s.modTmb f).cores = s.cores := rfl
@[simp] theorem State.modTmb_sram (s : State) (f : Tmb → Tmb) : (s.modTmb f).sram = s.sram := rfl
@[simp] theorem State.modTmb_ldg (s : State) (f : Tmb → Tmb) : (s.modTmb f).ldg = s.ldg := rfl
@[simp] theorem State.modTmb_fab (s : State) (f : Tmb → Tmb) : (s.modTmb f).fab = s.fab := rfl
@[simp] theorem State.modTmb_fed (s : State) (f : Tmb → Tmb) : (s.modTmb f).fed = s.fed := rfl
@[simp] theorem State.modTmb_flg (s : State) (f : Tmb → Tmb) : (s.modTmb f).flg = s.flg := rfl
@[simp] theorem State.modTmb_rcv (s : State) (f : Tmb → Tmb) : (s.modTmb f).rcv = s.rcv := rfl
@[simp] theorem State.modTmb_pos (s : State) (f : Tmb → Tmb) : (s.modTmb f).pos = s.pos := rfl
@[simp] theorem State.modTmb_otp (s : State) (f : Tmb → Tmb) : (s.modTmb f).otp = s.otp := rfl
@[simp] theorem State.modTmb_upd (s : State) (f : Tmb → Tmb) : (s.modTmb f).upd = s.upd := rfl
@[simp] theorem State.modTmb_glb (s : State) (f : Tmb → Tmb) : (s.modTmb f).glb = s.glb := rfl
@[simp] theorem State.modTmb_hbs (s : State) (f : Tmb → Tmb) : (s.modTmb f).hbs = s.hbs := rfl
@[simp] theorem State.modTmb_pmv (s : State) (f : Tmb → Tmb) : (s.modTmb f).pmv = s.pmv := rfl
@[simp] theorem State.modTmb_hsel (s : State) (f : Tmb → Tmb) : (s.modTmb f).hsel = s.hsel := rfl
@[simp] theorem State.modTmb_pins (s : State) (f : Tmb → Tmb) : (s.modTmb f).pins = s.pins := rfl
@[simp] theorem State.modTmb_faultLog (s : State) (f : Tmb → Tmb) : (s.modTmb f).faultLog = s.faultLog := rfl
@[simp] theorem State.modTmb_phase (s : State) (f : Tmb → Tmb) : (s.modTmb f).phase = s.phase := rfl
@[simp] theorem State.modTmb_bootArg (s : State) (f : Tmb → Tmb) : (s.modTmb f).bootArg = s.bootArg := rfl
@[simp] theorem State.modTmb_now (s : State) (f : Tmb → Tmb) : (s.modTmb f).now = s.now := rfl
@[simp] theorem State.modTmb_us (s : State) (f : Tmb → Tmb) : (s.modTmb f).us = s.us := rfl
@[simp] theorem State.modTmb_ramBad (s : State) (f : Tmb → Tmb) : (s.modTmb f).ramBad = s.ramBad := rfl
@[simp] theorem State.modTmb_dbgHalt (s : State) (f : Tmb → Tmb) : (s.modTmb f).dbgHalt = s.dbgHalt := rfl
@[simp] theorem State.modTmb_freeCtr (s : State) (f : Tmb → Tmb) : (s.modTmb f).freeCtr = s.freeCtr := rfl
@[simp] theorem State.modTmb_pending (s : State) (f : Tmb → Tmb) : (s.modTmb f).pending = s.pending := rfl
@[simp] theorem State.modTmb_core (s : State) (f : Tmb → Tmb) (d : CoreId) : (s.modTmb f).core d = s.core d := rfl
@[simp] theorem State.modTmb_port (s : State) (f : Tmb → Tmb) (q : PortId) : (s.modTmb f).port q = s.port q := rfl
@[simp] theorem State.modPins_ports (s : State) (f : Pins → Pins) : (s.modPins f).ports = s.ports := rfl
@[simp] theorem State.modPins_cores (s : State) (f : Pins → Pins) : (s.modPins f).cores = s.cores := rfl
@[simp] theorem State.modPins_sram (s : State) (f : Pins → Pins) : (s.modPins f).sram = s.sram := rfl
@[simp] theorem State.modPins_ldg (s : State) (f : Pins → Pins) : (s.modPins f).ldg = s.ldg := rfl
@[simp] theorem State.modPins_fab (s : State) (f : Pins → Pins) : (s.modPins f).fab = s.fab := rfl
@[simp] theorem State.modPins_fed (s : State) (f : Pins → Pins) : (s.modPins f).fed = s.fed := rfl
@[simp] theorem State.modPins_flg (s : State) (f : Pins → Pins) : (s.modPins f).flg = s.flg := rfl
@[simp] theorem State.modPins_rcv (s : State) (f : Pins → Pins) : (s.modPins f).rcv = s.rcv := rfl
@[simp] theorem State.modPins_pos (s : State) (f : Pins → Pins) : (s.modPins f).pos = s.pos := rfl
@[simp] theorem State.modPins_otp (s : State) (f : Pins → Pins) : (s.modPins f).otp = s.otp := rfl
@[simp] theorem State.modPins_upd (s : State) (f : Pins → Pins) : (s.modPins f).upd = s.upd := rfl
@[simp] theorem State.modPins_glb (s : State) (f : Pins → Pins) : (s.modPins f).glb = s.glb := rfl
@[simp] theorem State.modPins_hbs (s : State) (f : Pins → Pins) : (s.modPins f).hbs = s.hbs := rfl
@[simp] theorem State.modPins_tmb (s : State) (f : Pins → Pins) : (s.modPins f).tmb = s.tmb := rfl
@[simp] theorem State.modPins_pmv (s : State) (f : Pins → Pins) : (s.modPins f).pmv = s.pmv := rfl
@[simp] theorem State.modPins_hsel (s : State) (f : Pins → Pins) : (s.modPins f).hsel = s.hsel := rfl
@[simp] theorem State.modPins_faultLog (s : State) (f : Pins → Pins) : (s.modPins f).faultLog = s.faultLog := rfl
@[simp] theorem State.modPins_phase (s : State) (f : Pins → Pins) : (s.modPins f).phase = s.phase := rfl
@[simp] theorem State.modPins_bootArg (s : State) (f : Pins → Pins) : (s.modPins f).bootArg = s.bootArg := rfl
@[simp] theorem State.modPins_now (s : State) (f : Pins → Pins) : (s.modPins f).now = s.now := rfl
@[simp] theorem State.modPins_us (s : State) (f : Pins → Pins) : (s.modPins f).us = s.us := rfl
@[simp] theorem State.modPins_ramBad (s : State) (f : Pins → Pins) : (s.modPins f).ramBad = s.ramBad := rfl
@[simp] theorem State.modPins_dbgHalt (s : State) (f : Pins → Pins) : (s.modPins f).dbgHalt = s.dbgHalt := rfl
@[simp] theorem State.modPins_freeCtr (s : State) (f : Pins → Pins) : (s.modPins f).freeCtr = s.freeCtr := rfl
@[simp] theorem State.modPins_pending (s : State) (f : Pins → Pins) : (s.modPins f).pending = s.pending := rfl
@[simp] theorem State.modPins_core (s : State) (f : Pins → Pins) (d : CoreId) : (s.modPins f).core d = s.core d := rfl
@[simp] theorem State.modPins_port (s : State) (f : Pins → Pins) (q : PortId) : (s.modPins f).port q = s.port q := rfl
@[simp] theorem State.modPmv_ports (s : State) (p : PortId) (f : PmvPort → PmvPort) : (s.modPmv p f).ports = s.ports := rfl
@[simp] theorem State.modPmv_cores (s : State) (p : PortId) (f : PmvPort → PmvPort) : (s.modPmv p f).cores = s.cores := rfl
@[simp] theorem State.modPmv_sram (s : State) (p : PortId) (f : PmvPort → PmvPort) : (s.modPmv p f).sram = s.sram := rfl
@[simp] theorem State.modPmv_ldg (s : State) (p : PortId) (f : PmvPort → PmvPort) : (s.modPmv p f).ldg = s.ldg := rfl
@[simp] theorem State.modPmv_fab (s : State) (p : PortId) (f : PmvPort → PmvPort) : (s.modPmv p f).fab = s.fab := rfl
@[simp] theorem State.modPmv_fed (s : State) (p : PortId) (f : PmvPort → PmvPort) : (s.modPmv p f).fed = s.fed := rfl
@[simp] theorem State.modPmv_flg (s : State) (p : PortId) (f : PmvPort → PmvPort) : (s.modPmv p f).flg = s.flg := rfl
@[simp] theorem State.modPmv_rcv (s : State) (p : PortId) (f : PmvPort → PmvPort) : (s.modPmv p f).rcv = s.rcv := rfl
@[simp] theorem State.modPmv_pos (s : State) (p : PortId) (f : PmvPort → PmvPort) : (s.modPmv p f).pos = s.pos := rfl
@[simp] theorem State.modPmv_otp (s : State) (p : PortId) (f : PmvPort → PmvPort) : (s.modPmv p f).otp = s.otp := rfl
@[simp] theorem State.modPmv_upd (s : State) (p : PortId) (f : PmvPort → PmvPort) : (s.modPmv p f).upd = s.upd := rfl
@[simp] theorem State.modPmv_glb (s : State) (p : PortId) (f : PmvPort → PmvPort) : (s.modPmv p f).glb = s.glb := rfl
@[simp] theorem State.modPmv_hbs (s : State) (p : PortId) (f : PmvPort → PmvPort) : (s.modPmv p f).hbs = s.hbs := rfl
@[simp] theorem State.modPmv_tmb (s : State) (p : PortId) (f : PmvPort → PmvPort) : (s.modPmv p f).tmb = s.tmb := rfl
@[simp] theorem State.modPmv_hsel (s : State) (p : PortId) (f : PmvPort → PmvPort) : (s.modPmv p f).hsel = s.hsel := rfl
@[simp] theorem State.modPmv_pins (s : State) (p : PortId) (f : PmvPort → PmvPort) : (s.modPmv p f).pins = s.pins := rfl
@[simp] theorem State.modPmv_faultLog (s : State) (p : PortId) (f : PmvPort → PmvPort) : (s.modPmv p f).faultLog = s.faultLog := rfl
@[simp] theorem State.modPmv_phase (s : State) (p : PortId) (f : PmvPort → PmvPort) : (s.modPmv p f).phase = s.phase := rfl
@[simp] theorem State.modPmv_bootArg (s : State) (p : PortId) (f : PmvPort → PmvPort) : (s.modPmv p f).bootArg = s.bootArg := rfl
@[simp] theorem State.modPmv_now (s : State) (p : PortId) (f : PmvPort → PmvPort) : (s.modPmv p f).now = s.now := rfl
@[simp] theorem State.modPmv_us (s : State) (p : PortId) (f : PmvPort → PmvPort) : (s.modPmv p f).us = s.us := rfl
@[simp] theorem State.modPmv_ramBad (s : State) (p : PortId) (f : PmvPort → PmvPort) : (s.modPmv p f).ramBad = s.ramBad := rfl
@[simp] theorem State.modPmv_dbgHalt (s : State) (p : PortId) (f : PmvPort → PmvPort) : (s.modPmv p f).dbgHalt = s.dbgHalt := rfl
@[simp] theorem State.modPmv_freeCtr (s : State) (p : PortId) (f : PmvPort → PmvPort) : (s.modPmv p f).freeCtr = s.freeCtr := rfl
@[simp] theorem State.modPmv_pending (s : State) (p : PortId) (f : PmvPort → PmvPort) : (s.modPmv p f).pending = s.pending := rfl
@[simp] theorem State.modPmv_core (s : State) (p : PortId) (f : PmvPort → PmvPort) (d : CoreId) : (s.modPmv p f).core d = s.core d := rfl
@[simp] theorem State.modPmv_port (s : State) (p : PortId) (f : PmvPort → PmvPort) (q : PortId) : (s.modPmv p f).port q = s.port q := rfl
@[simp] theorem State.modUnit_ports (s : State) (c : CoreId) (f : FlagUnit → FlagUnit) : (s.modUnit c f).ports = s.ports := rfl
@[simp] theorem State.modUnit_cores (s : State) (c : CoreId) (f : FlagUnit → FlagUnit) : (s.modUnit c f).cores = s.cores := rfl
@[simp] theorem State.modUnit_sram (s : State) (c : CoreId) (f : FlagUnit → FlagUnit) : (s.modUnit c f).sram = s.sram := rfl
@[simp] theorem State.modUnit_ldg (s : State) (c : CoreId) (f : FlagUnit → FlagUnit) : (s.modUnit c f).ldg = s.ldg := rfl
@[simp] theorem State.modUnit_fab (s : State) (c : CoreId) (f : FlagUnit → FlagUnit) : (s.modUnit c f).fab = s.fab := rfl
@[simp] theorem State.modUnit_fed (s : State) (c : CoreId) (f : FlagUnit → FlagUnit) : (s.modUnit c f).fed = s.fed := rfl
@[simp] theorem State.modUnit_rcv (s : State) (c : CoreId) (f : FlagUnit → FlagUnit) : (s.modUnit c f).rcv = s.rcv := rfl
@[simp] theorem State.modUnit_pos (s : State) (c : CoreId) (f : FlagUnit → FlagUnit) : (s.modUnit c f).pos = s.pos := rfl
@[simp] theorem State.modUnit_otp (s : State) (c : CoreId) (f : FlagUnit → FlagUnit) : (s.modUnit c f).otp = s.otp := rfl
@[simp] theorem State.modUnit_upd (s : State) (c : CoreId) (f : FlagUnit → FlagUnit) : (s.modUnit c f).upd = s.upd := rfl
@[simp] theorem State.modUnit_glb (s : State) (c : CoreId) (f : FlagUnit → FlagUnit) : (s.modUnit c f).glb = s.glb := rfl
@[simp] theorem State.modUnit_hbs (s : State) (c : CoreId) (f : FlagUnit → FlagUnit) : (s.modUnit c f).hbs = s.hbs := rfl
@[simp] theorem State.modUnit_tmb (s : State) (c : CoreId) (f : FlagUnit → FlagUnit) : (s.modUnit c f).tmb = s.tmb := rfl
@[simp] theorem State.modUnit_pmv (s : State) (c : CoreId) (f : FlagUnit → FlagUnit) : (s.modUnit c f).pmv = s.pmv := rfl
@[simp] theorem State.modUnit_hsel (s : State) (c : CoreId) (f : FlagUnit → FlagUnit) : (s.modUnit c f).hsel = s.hsel := rfl
@[simp] theorem State.modUnit_pins (s : State) (c : CoreId) (f : FlagUnit → FlagUnit) : (s.modUnit c f).pins = s.pins := rfl
@[simp] theorem State.modUnit_faultLog (s : State) (c : CoreId) (f : FlagUnit → FlagUnit) : (s.modUnit c f).faultLog = s.faultLog := rfl
@[simp] theorem State.modUnit_phase (s : State) (c : CoreId) (f : FlagUnit → FlagUnit) : (s.modUnit c f).phase = s.phase := rfl
@[simp] theorem State.modUnit_bootArg (s : State) (c : CoreId) (f : FlagUnit → FlagUnit) : (s.modUnit c f).bootArg = s.bootArg := rfl
@[simp] theorem State.modUnit_now (s : State) (c : CoreId) (f : FlagUnit → FlagUnit) : (s.modUnit c f).now = s.now := rfl
@[simp] theorem State.modUnit_us (s : State) (c : CoreId) (f : FlagUnit → FlagUnit) : (s.modUnit c f).us = s.us := rfl
@[simp] theorem State.modUnit_ramBad (s : State) (c : CoreId) (f : FlagUnit → FlagUnit) : (s.modUnit c f).ramBad = s.ramBad := rfl
@[simp] theorem State.modUnit_dbgHalt (s : State) (c : CoreId) (f : FlagUnit → FlagUnit) : (s.modUnit c f).dbgHalt = s.dbgHalt := rfl
@[simp] theorem State.modUnit_freeCtr (s : State) (c : CoreId) (f : FlagUnit → FlagUnit) : (s.modUnit c f).freeCtr = s.freeCtr := rfl
@[simp] theorem State.modUnit_pending (s : State) (c : CoreId) (f : FlagUnit → FlagUnit) : (s.modUnit c f).pending = s.pending := rfl
@[simp] theorem State.modUnit_core (s : State) (c : CoreId) (f : FlagUnit → FlagUnit) (d : CoreId) : (s.modUnit c f).core d = s.core d := rfl
@[simp] theorem State.modUnit_port (s : State) (c : CoreId) (f : FlagUnit → FlagUnit) (q : PortId) : (s.modUnit c f).port q = s.port q := rfl
@[simp] theorem State.modLdg_self (s : State) (f : Ldg → Ldg) : (s.modLdg f).ldg = f s.ldg := rfl
@[simp] theorem State.modFab_self (s : State) (f : Fab → Fab) : (s.modFab f).fab = f s.fab := rfl
@[simp] theorem State.modFed_self (s : State) (f : Fed → Fed) : (s.modFed f).fed = f s.fed := rfl
@[simp] theorem State.modFlg_self (s : State) (f : Flg → Flg) : (s.modFlg f).flg = f s.flg := rfl
@[simp] theorem State.modRec_self (s : State) (f : Rec → Rec) : (s.modRec f).rcv = f s.rcv := rfl
@[simp] theorem State.modOtp_self (s : State) (f : Otp → Otp) : (s.modOtp f).otp = f s.otp := rfl
@[simp] theorem State.modUpd_self (s : State) (f : Upd → Upd) : (s.modUpd f).upd = f s.upd := rfl
@[simp] theorem State.modGlb_self (s : State) (f : Glb → Glb) : (s.modGlb f).glb = f s.glb := rfl
@[simp] theorem State.modHbs_self (s : State) (f : Hbs → Hbs) : (s.modHbs f).hbs = f s.hbs := rfl
@[simp] theorem State.modTmb_self (s : State) (f : Tmb → Tmb) : (s.modTmb f).tmb = f s.tmb := rfl
@[simp] theorem State.modPins_self (s : State) (f : Pins → Pins) : (s.modPins f).pins = f s.pins := rfl

/-! ### What an update of one block of a port reads back -/

@[simp] theorem State.modTc_port_same (s : State) (p : PortId) (f : Tc → Tc) :
    (s.modTc p f).port p = { s.port p with tc := f (s.port p).tc } := by simp [State.modTc]
theorem State.modTc_port_ne (s : State) {p q : PortId} (f : Tc → Tc) (h : q ≠ p) :
    (s.modTc p f).port q = s.port q := by simp [State.modTc, State.port_modPort_ne s _ h]
@[simp] theorem State.modPd_port_same (s : State) (p : PortId) (f : Phy → Phy) :
    (s.modPd p f).port p = { s.port p with pd := f (s.port p).pd } := by simp [State.modPd]
theorem State.modPd_port_ne (s : State) {p q : PortId} (f : Phy → Phy) (h : q ≠ p) :
    (s.modPd p f).port q = s.port q := by simp [State.modPd, State.port_modPort_ne s _ h]
@[simp] theorem State.modCt_port_same (s : State) (p : PortId) (f : Ct → Ct) :
    (s.modCt p f).port p = { s.port p with ct := f (s.port p).ct } := by simp [State.modCt]
theorem State.modCt_port_ne (s : State) {p q : PortId} (f : Ct → Ct) (h : q ≠ p) :
    (s.modCt p f).port q = s.port q := by simp [State.modCt, State.port_modPort_ne s _ h]
@[simp] theorem State.modPw_port_same (s : State) (p : PortId) (f : Pw → Pw) :
    (s.modPw p f).port p = { s.port p with pw := f (s.port p).pw } := by simp [State.modPw]
theorem State.modPw_port_ne (s : State) {p q : PortId} (f : Pw → Pw) (h : q ≠ p) :
    (s.modPw p f).port q = s.port q := by simp [State.modPw, State.port_modPort_ne s _ h]
@[simp] theorem State.modSp_port_same (s : State) (p : PortId) (f : Sp → Sp) :
    (s.modSp p f).port p = { s.port p with sp := f (s.port p).sp } := by simp [State.modSp]
theorem State.modSp_port_ne (s : State) {p q : PortId} (f : Sp → Sp) (h : q ≠ p) :
    (s.modSp p f).port q = s.port q := by simp [State.modSp, State.port_modPort_ne s _ h]
@[simp] theorem State.modMn_port_same (s : State) (p : PortId) (f : Mn → Mn) :
    (s.modMn p f).port p = { s.port p with mn := f (s.port p).mn } := by simp [State.modMn]
theorem State.modMn_port_ne (s : State) {p q : PortId} (f : Mn → Mn) (h : q ≠ p) :
    (s.modMn p f).port q = s.port q := by simp [State.modMn, State.port_modPort_ne s _ h]
@[simp] theorem State.modMs_port_same (s : State) (p : PortId) (f : Ms → Ms) :
    (s.modMs p f).port p = { s.port p with ms := f (s.port p).ms } := by simp [State.modMs]
theorem State.modMs_port_ne (s : State) {p q : PortId} (f : Ms → Ms) (h : q ≠ p) :
    (s.modMs p f).port q = s.port q := by simp [State.modMs, State.port_modPort_ne s _ h]
@[simp] theorem State.modQ_port_same (s : State) (p : PortId) (k : Fin 8) (f : Queue → Queue) :
    (s.modQ p k f).port p = { s.port p with qs := (s.port p).qs.set k (f (s.port p).qs[k]) } := by simp [State.modQ]
theorem State.modQ_port_ne (s : State) {p q : PortId} (k : Fin 8) (f : Queue → Queue) (h : q ≠ p) :
    (s.modQ p k f).port q = s.port q := by simp [State.modQ, State.port_modPort_ne s _ h]

/-! ### Whether a port or a core is present -/

theorem State.present_eq (s t : State) (h : t.otp = s.otp) (p : PortId) : t.present p = s.present p := by
  simp [State.present, State.ehen, h]

theorem State.corePresent_eq (s t : State) (h : t.otp = s.otp) (c : CoreId) : t.corePresent c = s.corePresent c := by
  simp [State.corePresent, State.ehen, h]

end Sys2Proof.Machine
end

