-- ==== Sys2Proof/Laws/Frames.lean ====
section
/-! SUPPORT. The frames `onlyPort`, `onlyCore` and `onlyPortCore`: they hold of every update of that port or core, and of one
after the other. -/

namespace Sys2Proof.Machine

/-! ### As an existence -/

theorem onlyPort_iff {p : PortId} {s t : State} : onlyPort p s t ↔ ∃ P, t = { s with ports := s.ports.set p P } := by
  constructor
  · intro h; exact ⟨_, h⟩
  · rintro ⟨P, rfl⟩; simp [onlyPort, State.port]

theorem onlyCore_iff {c : CoreId} {s t : State} : onlyCore c s t ↔ ∃ C, t = { s with cores := s.cores.set c C } := by
  constructor
  · intro h; exact ⟨_, h⟩
  · rintro ⟨C, rfl⟩; simp [onlyCore, State.core]

theorem onlyPortCore_iff {p : PortId} {s t : State} :
    onlyPortCore p s t ↔ ∃ P C, t = { s with ports := s.ports.set p P, cores := s.cores.set (fileCore p) C } := by
  constructor
  · intro h; exact ⟨_, _, h⟩
  · rintro ⟨P, C, rfl⟩; simp [onlyPortCore, State.port, State.core]

theorem ports_set_self (v : Vector Port 8) (p : PortId) : v.set p v[p] = v := by simp

theorem cores_set_self (v : Vector Core 9) (c : CoreId) : v.set c v[c] = v := by simp

/-! ### Of themselves, one after the other -/

theorem onlyPort.refl (p : PortId) (s : State) : onlyPort p s s :=
  onlyPort_iff.2 ⟨s.ports[p], by rw [ports_set_self]⟩

theorem onlyCore.refl (c : CoreId) (s : State) : onlyCore c s s :=
  onlyCore_iff.2 ⟨s.cores[c], by rw [cores_set_self]⟩

theorem onlyPortCore.refl (p : PortId) (s : State) : onlyPortCore p s s :=
  onlyPortCore_iff.2 ⟨s.ports[p], s.cores[fileCore p], by rw [ports_set_self, cores_set_self]⟩

theorem onlyPort.trans {p : PortId} {s t u : State} (h : onlyPort p s t) (k : onlyPort p t u) : onlyPort p s u := by
  obtain ⟨P, rfl⟩ := onlyPort_iff.1 h
  obtain ⟨Q, rfl⟩ := onlyPort_iff.1 k
  exact onlyPort_iff.2 ⟨Q, by simp⟩

theorem onlyCore.trans {c : CoreId} {s t u : State} (h : onlyCore c s t) (k : onlyCore c t u) : onlyCore c s u := by
  obtain ⟨C, rfl⟩ := onlyCore_iff.1 h
  obtain ⟨D, rfl⟩ := onlyCore_iff.1 k
  exact onlyCore_iff.2 ⟨D, by simp⟩

theorem onlyPortCore.trans {p : PortId} {s t u : State} (h : onlyPortCore p s t) (k : onlyPortCore p t u) :
    onlyPortCore p s u := by
  obtain ⟨P, C, rfl⟩ := onlyPortCore_iff.1 h
  obtain ⟨Q, D, rfl⟩ := onlyPortCore_iff.1 k
  exact onlyPortCore_iff.2 ⟨Q, D, by simp⟩

theorem onlyPort.toPortCore {p : PortId} {s t : State} (h : onlyPort p s t) : onlyPortCore p s t := by
  obtain ⟨P, rfl⟩ := onlyPort_iff.1 h
  exact onlyPortCore_iff.2 ⟨P, s.cores[fileCore p], by rw [cores_set_self]⟩

theorem onlyCore.toPortCore {p : PortId} {s t : State} (h : onlyCore (fileCore p) s t) : onlyPortCore p s t := by
  obtain ⟨C, rfl⟩ := onlyCore_iff.1 h
  exact onlyPortCore_iff.2 ⟨s.ports[p], C, by rw [ports_set_self]⟩

theorem onlyPort.ite {p : PortId} {s t u : State} {b : Prop} [Decidable b] (h : onlyPort p s t) (k : onlyPort p s u) :
    onlyPort p s (if b then t else u) := by split <;> assumption

theorem onlyPortCore.ite {p : PortId} {s t u : State} {b : Prop} [Decidable b] (h : onlyPortCore p s t)
    (k : onlyPortCore p s u) : onlyPortCore p s (if b then t else u) := by split <;> assumption

/-! ### Of every update -/

theorem onlyPort.modPort {p : PortId} {s t : State} (h : onlyPort p s t) (f : Port → Port) : onlyPort p s (t.modPort p f) :=
  h.trans (onlyPort_iff.2 ⟨_, rfl⟩)
theorem onlyCore.modCore {c : CoreId} {s t : State} (h : onlyCore c s t) (f : Core → Core) : onlyCore c s (t.modCore c f) :=
  h.trans (onlyCore_iff.2 ⟨_, rfl⟩)
theorem onlyPortCore.modPort {p : PortId} {s t : State} (h : onlyPortCore p s t) (f : Port → Port) :
    onlyPortCore p s (t.modPort p f) := h.trans (onlyPort_iff.2 ⟨_, rfl⟩).toPortCore
theorem onlyPortCore.modCore {p : PortId} {s t : State} (h : onlyPortCore p s t) (f : Core → Core) :
    onlyPortCore p s (t.modCore (fileCore p) f) := h.trans (onlyCore_iff.2 ⟨_, rfl⟩).toPortCore
theorem onlyPort.modTc {p : PortId} {s t : State} (h : onlyPort p s t) (f : Tc → Tc) :
    onlyPort p s (t.modTc p f) := h.modPort _
theorem onlyPortCore.modTc {p : PortId} {s t : State} (h : onlyPortCore p s t) (f : Tc → Tc) :
    onlyPortCore p s (t.modTc p f) := h.modPort _
theorem onlyPort.modPd {p : PortId} {s t : State} (h : onlyPort p s t) (f : Phy → Phy) :
    onlyPort p s (t.modPd p f) := h.modPort _
theorem onlyPortCore.modPd {p : PortId} {s t : State} (h : onlyPortCore p s t) (f : Phy → Phy) :
    onlyPortCore p s (t.modPd p f) := h.modPort _
theorem onlyPort.modCt {p : PortId} {s t : State} (h : onlyPort p s t) (f : Ct → Ct) :
    onlyPort p s (t.modCt p f) := h.modPort _
theorem onlyPortCore.modCt {p : PortId} {s t : State} (h : onlyPortCore p s t) (f : Ct → Ct) :
    onlyPortCore p s (t.modCt p f) := h.modPort _
theorem onlyPort.modPw {p : PortId} {s t : State} (h : onlyPort p s t) (f : Pw → Pw) :
    onlyPort p s (t.modPw p f) := h.modPort _
theorem onlyPortCore.modPw {p : PortId} {s t : State} (h : onlyPortCore p s t) (f : Pw → Pw) :
    onlyPortCore p s (t.modPw p f) := h.modPort _
theorem onlyPort.modSp {p : PortId} {s t : State} (h : onlyPort p s t) (f : Sp → Sp) :
    onlyPort p s (t.modSp p f) := h.modPort _
theorem onlyPortCore.modSp {p : PortId} {s t : State} (h : onlyPortCore p s t) (f : Sp → Sp) :
    onlyPortCore p s (t.modSp p f) := h.modPort _
theorem onlyPort.modMn {p : PortId} {s t : State} (h : onlyPort p s t) (f : Mn → Mn) :
    onlyPort p s (t.modMn p f) := h.modPort _
theorem onlyPortCore.modMn {p : PortId} {s t : State} (h : onlyPortCore p s t) (f : Mn → Mn) :
    onlyPortCore p s (t.modMn p f) := h.modPort _
theorem onlyPort.modMs {p : PortId} {s t : State} (h : onlyPort p s t) (f : Ms → Ms) :
    onlyPort p s (t.modMs p f) := h.modPort _
theorem onlyPortCore.modMs {p : PortId} {s t : State} (h : onlyPortCore p s t) (f : Ms → Ms) :
    onlyPortCore p s (t.modMs p f) := h.modPort _
theorem onlyPort.modQ {p : PortId} {s t : State} (h : onlyPort p s t) (k : Fin 8) (f : Queue → Queue) :
    onlyPort p s (t.modQ p k f) := h.modPort _
theorem onlyPortCore.modQ {p : PortId} {s t : State} (h : onlyPortCore p s t) (k : Fin 8) (f : Queue → Queue) :
    onlyPortCore p s (t.modQ p k f) := h.modPort _

/-! ### What a frame gives -/

theorem onlyPortCore.otherPorts {p : PortId} {s t : State} (h : onlyPortCore p s t) : otherPorts p s t := by
  obtain ⟨P, C, rfl⟩ := onlyPortCore_iff.1 h
  intro q hq
  have h' : p.val ≠ q.val := fun e => hq (Fin.ext e.symm)
  simp [State.port, h']

theorem onlyPortCore.pending {p : PortId} {s t : State} (h : onlyPortCore p s t) : t.pending = s.pending := by
  obtain ⟨P, C, rfl⟩ := onlyPortCore_iff.1 h; rfl

theorem onlyPortCore.otp {p : PortId} {s t : State} (h : onlyPortCore p s t) : t.otp = s.otp := by
  obtain ⟨P, C, rfl⟩ := onlyPortCore_iff.1 h; rfl

end Sys2Proof.Machine
end

