-- ==== Sys2Proof/Laws/Events.lean ====
section
/-! SUPPORT. Raising an event changes only the core it is raised on (and, for a refused HOSTCMD, that core's port); it
leaves the running handler, its stacks, registers and memory alone. -/

namespace Sys2Proof.Machine

/-- What raising an event leaves alone in a core. -/
def SameRun (C D : Core) : Prop :=
  D.run = C.run ∧ D.ret = C.ret ∧ D.loops = C.loops ∧ D.g = C.g ∧ D.pc = C.pc ∧ D.data = C.data ∧ D.code = C.code ∧
    D.image = C.image ∧ D.st = C.st ∧ D.timers = C.timers

theorem SameRun.refl (C : Core) : SameRun C C := by simp [SameRun]

theorem Core.hold_same (C : Core) (r : Raised) : SameRun C (C.hold r) := by
  unfold Core.hold; split
  · exact .refl _
  · split <;> simp [SameRun]

theorem Core.pend_same (C : Core) (j : Job) : SameRun C (C.pend j) := by simp [SameRun, Core.pend]

theorem Core.unhandled_same (C : Core) : SameRun C C.unhandled := by simp [SameRun, Core.unhandled]

theorem State.raiseCrit_onlyCore (s : State) (c : CoreId) (r : Raised) (m : Option (Sop × Half)) :
    onlyCore c s (s.raiseCrit c r m) := by
  unfold State.raiseCrit; split <;> exact (onlyCore.refl _ _).modCore _

theorem State.raiseCrit_same (s : State) (c : CoreId) (r : Raised) (m : Option (Sop × Half)) :
    SameRun (s.core c) ((s.raiseCrit c r m).core c) := by
  unfold State.raiseCrit; split
  · simpa using Core.hold_same _ _
  · simp only [State.core_modCore_same]
    split
    · exact Core.unhandled_same _
    · exact Core.pend_same _ _

theorem State.raiseCoal_onlyCore (s : State) (c : CoreId) (k : Nat) (a : Word) : onlyCore c s (s.raiseCoal c k a) := by
  unfold State.raiseCoal; split
  · exact (onlyCore.refl _ _).modCore _
  · split
    · exact ((onlyCore.refl _ _).modCore _).trans (State.raiseCrit_onlyCore _ _ _ _)
    · exact (onlyCore.refl _ _).modCore _

theorem SameRun.trans {C D E : Core} (h : SameRun C D) (k : SameRun D E) : SameRun C E := by
  unfold SameRun at *; simp_all

theorem State.raiseCoal_same (s : State) (c : CoreId) (k : Nat) (a : Word) :
    SameRun (s.core c) ((s.raiseCoal c k a).core c) := by
  unfold State.raiseCoal; split
  · simpa using Core.hold_same _ _
  · split
    · refine SameRun.trans ?_ (State.raiseCrit_same _ _ _ _)
      simp [SameRun]
    · simp [SameRun]

/-! ### On the frame of a port and its core -/

theorem onlyPortCore.raiseCrit {p : PortId} {s t : State} (h : onlyPortCore p s t) (r : Raised) (m : Option (Sop × Half)) :
    onlyPortCore p s (t.raiseCrit (fileCore p) r m) := h.trans (State.raiseCrit_onlyCore _ _ _ _).toPortCore
theorem onlyPortCore.raiseCoal {p : PortId} {s t : State} (h : onlyPortCore p s t) (k : Nat) (a : Word) :
    onlyPortCore p s (t.raiseCoal (fileCore p) k a) := h.trans (State.raiseCoal_onlyCore _ _ _ _).toPortCore
theorem onlyPortCore.tcEvt {p : PortId} {s t : State} (h : onlyPortCore p s t) (b : Nat) : onlyPortCore p s (t.tcEvt p b) :=
  (h.modTc _).raiseCoal _ _
theorem onlyPortCore.pwEvt {p : PortId} {s t : State} (h : onlyPortCore p s t) (b : Nat) : onlyPortCore p s (t.pwEvt p b) :=
  (h.modPw _).raiseCoal _ _
theorem onlyPortCore.cEvt {p : PortId} {s t : State} (h : onlyPortCore p s t) (b : Nat) : onlyPortCore p s (t.cEvt p b) :=
  (h.modCt _).raiseCoal _ _
theorem onlyPortCore.mnEvt {p : PortId} {s t : State} (h : onlyPortCore p s t) (b : Nat) : onlyPortCore p s (t.mnEvt p b) :=
  (h.modMn _).raiseCoal _ _
theorem onlyPortCore.spEvt {p : PortId} {s t : State} (h : onlyPortCore p s t) (b : Nat) : onlyPortCore p s (t.spEvt p b) :=
  (h.modSp _).raiseCoal _ _
theorem onlyPortCore.linkEvt {p : PortId} {s t : State} (h : onlyPortCore p s t) (b : Nat) :
    onlyPortCore p s (t.linkEvt p b) := (h.modPd _).raiseCoal _ _

/-! ### The port after an event -/

@[simp] theorem State.raiseCrit_port (s : State) (c : CoreId) (r : Raised) (m : Option (Sop × Half)) (q : PortId) :
    (s.raiseCrit c r m).port q = s.port q := by
  obtain ⟨C, h⟩ := onlyCore_iff.1 (s.raiseCrit_onlyCore c r m); rw [h]; rfl
@[simp] theorem State.raiseCoal_port (s : State) (c : CoreId) (k : Nat) (a : Word) (q : PortId) :
    (s.raiseCoal c k a).port q = s.port q := by
  obtain ⟨C, h⟩ := onlyCore_iff.1 (s.raiseCoal_onlyCore c k a); rw [h]; rfl
@[simp] theorem State.tcEvt_port (s : State) (p : PortId) (b : Nat) : (s.tcEvt p b).port p =
    { s.port p with tc := { (s.port p).tc with evt := setB (s.port p).tc.evt b true } } := by simp [State.tcEvt]
@[simp] theorem State.pwEvt_port (s : State) (p : PortId) (b : Nat) : (s.pwEvt p b).port p =
    { s.port p with pw := { (s.port p).pw with evt := setB (s.port p).pw.evt b true } } := by simp [State.pwEvt]
@[simp] theorem State.cEvt_port (s : State) (p : PortId) (b : Nat) : (s.cEvt p b).port p =
    { s.port p with ct := { (s.port p).ct with cevt := setB (s.port p).ct.cevt b true } } := by simp [State.cEvt]
@[simp] theorem State.mnEvt_port (s : State) (p : PortId) (b : Nat) : (s.mnEvt p b).port p =
    { s.port p with mn := { (s.port p).mn with evt := setB (s.port p).mn.evt b true } } := by simp [State.mnEvt]
@[simp] theorem State.spEvt_port (s : State) (p : PortId) (b : Nat) : (s.spEvt p b).port p =
    { s.port p with sp := { (s.port p).sp with evt := setB (s.port p).sp.evt b true } } := by simp [State.spEvt]
@[simp] theorem State.linkEvt_port (s : State) (p : PortId) (b : Nat) : (s.linkEvt p b).port p =
    { s.port p with pd := { (s.port p).pd with evt := setB (s.port p).pd.evt b true } } := by simp [State.linkEvt]

/-! ### Bits of an event register -/

theorem setB_bit {w : Nat} (x : BitVec w) (i : Nat) (b : Bool) (h : i < w) (j : Nat) :
    (setB x i b).getLsbD j = if j = i then b else x.getLsbD j := by
  have hw : 0 < w := by omega
  by_cases hj : j = i
  · subst hj
    cases b <;> simp [setB, setF, h]
  · have h2 : j < i ∨ ¬ j - i = 0 := by omega
    have hx : x.getLsbD j = true → j < w := BitVec.lt_of_getLsbD
    cases b <;> rcases h2 with h2 | h2 <;> simp [setB, setF, hj, h2, hw]
    all_goals (cases hb : x.getLsbD j <;> simp_all)

end Sys2Proof.Machine
end

