-- ==== Sys2Proof/Laws/Exec.lean ====
section
/-! SUPPORT. The runner every Paltein instruction goes through: what it answers for each thing a body can answer. -/

namespace Sys2Proof.Machine

/-! ### Registers of a core -/

@[simp] theorem Core.setG_run (C : Core) (r : BitVec 4) (v : Word) : (C.setG r v).run = C.run := by
  unfold Core.setG; split <;> rfl
@[simp] theorem Core.setG_pc (C : Core) (r : BitVec 4) (v : Word) : (C.setG r v).pc = C.pc := by
  unfold Core.setG; split <;> rfl
@[simp] theorem Core.setG_ret (C : Core) (r : BitVec 4) (v : Word) : (C.setG r v).ret = C.ret := by
  unfold Core.setG; split <;> rfl
@[simp] theorem Core.setG_loops (C : Core) (r : BitVec 4) (v : Word) : (C.setG r v).loops = C.loops := by
  unfold Core.setG; split <;> rfl

@[simp] theorem Core.setGs_run (l : List (BitVec 4 × Word)) (C : Core) : (C.setGs l).run = C.run := by
  unfold Core.setGs
  induction l generalizing C with
  | nil => rfl
  | cons x t ih => simp [ih]

@[simp] theorem State.putG_eq (s : State) (c : CoreId) (r : BitVec 4) (v : Word) :
    s.putG c r v = s.modCore c fun C => C.setG r v := rfl

/-! ### The runner -/

/-- A body that answers ok: its state, gone on to the next word in sequence. -/
theorem State.exec_ok {s s1 : State} {c : CoreId} {h h1 : Handler} {w : Word} {body : State → Exec}
    (hr : Ready s c h w) (hb : body s = .ok s1) (hrun : (s1.core c).run = some h1)
    (hret : (s1.core c).ret = (s.core c).ret) (hloops : (s1.core c).loops = (s.core c).loops) :
    s.exec c w body = s1.modCore c fun C =>
      (({ C with pc := BitVec.ofNat 18 (s.seqEnd c).pc, loops := (s.seqEnd c).loops } : Core).setGs
        (s.seqEnd c).writes).addSteps (wordCost w false + (s.seqEnd c).cost) := by
  obtain ⟨⟨h1', h2, h3, h4, h7, h8, h5⟩, h6⟩ := hr
  have h4' : ¬ (s.core c).codeEnd ≤ (s.core c).pc.toNat := by omega
  have h6' : ¬ h.bound < h.steps + (wordCost w false + (s.seqEnd c).cost) := by omega
  simp only [State.exec, h1', h2, h3, h7, h4', h8, h5, hb, Option.isSome_none, Bool.or_self, Bool.false_eq_true, if_false]
  unfold State.seqEnd at h6'
  simp only [State.goOn, if_true, hret, hloops, h6', if_false, hrun, Option.isNone_some, State.seqEnd, Bool.false_eq_true]

/-- ... and, where the body leaves the handler alone, the core gone on. -/
theorem State.exec_onward {s s1 : State} {c : CoreId} {h : Handler} {w : Word} {body : State → Exec}
    (hr : Ready s c h w) (hb : body s = .ok s1) (hrun : (s1.core c).run = some h)
    (hret : (s1.core c).ret = (s.core c).ret) (hloops : (s1.core c).loops = (s.core c).loops) :
    s.exec c w body =
      s1.modCore c fun C => C.onward h (s.seqEnd c) (wordCost w false + (s.seqEnd c).cost) := by
  rw [State.exec_ok hr hb hrun hret hloops]
  have hx : (s1.cores[c]).run = some h := hrun
  simp only [State.modCore, Core.onward, Core.addSteps, Core.setGs_run, hx, Option.map_some]

/-- A body that writes v to g[d] and nothing else. -/
theorem State.exec_wrote {s : State} {c : CoreId} {h : Handler} {w : Word} {body : State → Exec} {d : BitVec 4} {v : Word}
    (hr : Ready s c h w) (hb : body s = .ok (s.putG c d v)) : s.exec c w body = s.wrote c h w d v := by
  rw [State.exec_onward hr hb (by simp [hr.1.1]) (by simp) (by simp)]
  rfl

/-- A body that goes to word t. -/
theorem State.exec_to {s s1 : State} {c : CoreId} {h : Handler} {w : Word} {body : State → Exec} {t : Nat} {falls taken : Bool}
    (hat : At s c h w) (hb : body s = .to s1 t falls taken) (hrun : (s1.core c).run = some h)
    (e : LoopEnd) (he : e = if falls then endLoops (s1.core c).ret.length t (s1.core c).loops else { pc := t, loops := (s1.core c).loops })
    (hs : h.steps + (wordCost w taken + e.cost) ≤ h.bound) :
    s.exec c w body = s1.modCore c fun C => C.onward h e (wordCost w taken + e.cost) := by
  obtain ⟨h1', h2, h3, h4, h7, h8, h5⟩ := hat
  have h4' : ¬ (s.core c).codeEnd ≤ (s.core c).pc.toNat := by omega
  have h6' : ¬ h.bound < h.steps + (wordCost w taken + e.cost) := by omega
  simp only [State.exec, h1', h2, h3, h7, h4', h8, h5, hb, Option.isSome_none, Bool.or_self, Bool.false_eq_true, if_false]
  simp only [State.goOn, ← he, h6', if_false, hrun, Option.isNone_some, Bool.false_eq_true]
  have hx : (s1.cores[c]).run = some h := hrun
  simp only [State.modCore, Core.onward, Core.addSteps, Core.setGs_run, hx, Option.map_some]

/-- A body that ends the handler, outside a premove. -/
theorem State.exec_done {s s1 : State} {c : CoreId} {h : Handler} {w : Word} {body : State → Exec}
    (hat : At s c h w) (hb : body s = .done s1) (hs : h.steps + wordCost w false ≤ h.bound) (hp : h.premove = false) :
    s.exec c w body = s1.endHandler c h := by
  obtain ⟨h1', h2, h3, h4, h7, h8, h5⟩ := hat
  have h4' : ¬ (s.core c).codeEnd ≤ (s.core c).pc.toNat := by omega
  have h6' : ¬ h.bound < h.steps + wordCost w false := by omega
  simp [State.exec, h1', h2, h3, h7, h4', h8, h5, hb, h6', hp]

/-- A body that faults. -/
theorem State.exec_fault {s : State} {c : CoreId} {h : Handler} {w : Word} {body : State → Exec} {k : Nat}
    (hat : At s c h w) (hb : body s = .fault k) (hs : h.steps + wordCost w false ≤ h.bound) :
    s.exec c w body = s.fault c k := by
  obtain ⟨h1', h2, h3, h4, h7, h8, h5⟩ := hat
  have h4' : ¬ (s.core c).codeEnd ≤ (s.core c).pc.toNat := by omega
  have h6' : ¬ h.bound < h.steps + wordCost w false := by omega
  simp [State.exec, h1', h2, h3, h7, h4', h8, h5, hb, h6']

/-- A fault outside a premove, with a FAULT slot in the table: the handler is aborted and FAULT is pending (R122, R124). -/
theorem State.fault_taken {s : State} {c : CoreId} {h : Handler} {k n : Nat} (hr : (s.core c).run = some h) (hm : MayFault s c h n) (hk : k < 16) :
    FaultTaken s c h k n (s.fault c k) := by
  obtain ⟨h1, h2, h2', h2'', h3⟩ := hm
  have e : s.fault c k = s.modCore c fun C =>
     let C0 := C.faultRecord h k s.now
     let C1 := { C0.complete h.job s.now with run := none, ret := [], loops := [] }
     C1.pend { C1.mkJob s.now { cls := 13, arg := BitVec.ofNat 32 k } n h.job.nc with deadline := h.job.deadline } := by
    unfold State.fault
    rw [hr]
    have h4 : ((s.modCore c fun C => C.faultRecord h k s.now).core c).slotFor 13 none = some n := by
      rw [State.core_modCore_same]; exact h3
    simp only [h1, h2, if_false, Bool.false_eq_true, h4, State.modCore_modCore]
  rw [e]
  refine ⟨(onlyCore.refl _ _).modCore _, ?_⟩
  rw [State.core_modCore_same]
  have hc : ∀ C : Core, ∀ j now, (C.complete j now).data = C.data ∧ (C.complete j now).jobs = C.jobs ∧
      (C.complete j now).g = C.g ∧ (C.complete j now).cr.fpc = C.cr.fpc ∧ (C.complete j now).cr.fault = C.cr.fault := by
    intro C j now; unfold Core.complete; split <;> simp
  obtain ⟨c1, c2, c3, c4, c5⟩ := hc ((s.core c).faultRecord h k s.now) h.job s.now
  refine ⟨rfl, ⟨_, congrArg (fun l => l ++ [_]) c2, rfl, rfl, rfl, rfl, rfl, rfl, rfl⟩, c3, rfl, rfl, c1, c4, ?_⟩
  show (Core.complete _ _ _).cr.fault.toNat / 2^16 = k
  rw [c5]
  simp [Core.faultRecord, h1, bitAt]
  omega

end Sys2Proof.Machine
end

