-- ==== Sys2Proof/Laws/Memory.lean ====
section
/-! SUPPORT. Sparse memory: a read after a write, and the canonical form, which every operation keeps and the state after
reset has. -/

namespace Sys2Proof.Machine

/-! ### The canonical form is kept -/

theorem Mem.wfAbove_mono (d : Byte) : ∀ (m : Cells) {lo lo' : Nat}, lo' ≤ lo → Mem.wfAbove d lo m = true →
    Mem.wfAbove d lo' m = true
  | [], _, _, _, _ => rfl
  | (a, b) :: t, lo, lo', h, hw => by
    simp only [Mem.wfAbove, Bool.and_eq_true, decide_eq_true_eq] at hw ⊢
    exact ⟨⟨by omega, hw.1.2⟩, hw.2⟩

theorem Mem.write_wfAbove (d : Byte) : ∀ (m : Cells) (lo x : Nat) (v : Byte), lo ≤ x → Mem.wfAbove d lo m = true →
    Mem.wfAbove d lo (Mem.write d m x v) = true
  | [], lo, x, v, h, _ => by
    unfold Mem.write; split <;> simp_all [Mem.wfAbove]
  | (a, b) :: t, lo, x, v, h, hw => by
    simp only [Mem.wfAbove, Bool.and_eq_true, decide_eq_true_eq] at hw
    obtain ⟨⟨h1, h2⟩, h3⟩ := hw
    unfold Mem.write
    split
    · rename_i hx
      split
      · simp [Mem.wfAbove, h1, h2, h3]
      · rename_i hv
        have : x + 1 ≤ a := hx
        simp [Mem.wfAbove, h, hv, h2, h3, this]
    · split
      · rename_i hx hxa
        subst hxa
        split
        · exact Mem.wfAbove_mono d t (by omega) h3
        · rename_i hv
          simp [Mem.wfAbove, h, hv, h3]
      · rename_i hx hxa
        have := Mem.write_wfAbove d t (a + 1) x v (by omega) h3
        simp [Mem.wfAbove, h1, h2, this]

/-- A write keeps the canonical form. -/
theorem Mem.write_wf (d : Byte) (m : Cells) (x : Nat) (v : Byte) (h : Mem.wf d m = true) : Mem.wf d (Mem.write d m x v) = true :=
  Mem.write_wfAbove d m 0 x v (Nat.zero_le _) h

/-- A write of several bytes keeps the canonical form. -/
theorem Mem.writes_wf (d : Byte) : ∀ (b : List Byte) (m : Cells) (a : Nat), Mem.wf d m = true → Mem.wf d (Mem.writes d m a b) = true
  | [], _, _, h => h
  | v :: b, m, a, h => Mem.writes_wf d b _ _ (Mem.write_wf d m a v h)

/-- Every memory of the state after reset is in its canonical form. -/
theorem State.reset_memOk : State.reset.memOk := by
  refine ⟨fun c => ?_, rfl, rfl⟩
  have h : State.reset.core c = ({} : Core) := by
    simp [State.core, State.reset]
  rw [h]; exact ⟨rfl, rfl⟩

/-! ### A read after a write -/

theorem Mem.read_below (d : Byte) : ∀ (m : Cells) (lo x : Nat), Mem.wfAbove d lo m = true → x < lo → Mem.read d m x = d
  | [], _, _, _, _ => rfl
  | (a, b) :: t, lo, x, hw, hx => by
    simp only [Mem.wfAbove, Bool.and_eq_true, decide_eq_true_eq] at hw
    unfold Mem.read
    rw [if_neg (by omega), if_pos (by omega)]

theorem Mem.read_write (d : Byte) : ∀ (m : Cells) (lo x y : Nat) (v : Byte), Mem.wfAbove d lo m = true →
    Mem.read d (Mem.write d m x v) y = if y = x then v else Mem.read d m y
  | [], lo, x, y, v, _ => by
    unfold Mem.write
    split
    · rename_i h; subst h; simp [Mem.read]
    · simp [Mem.read]
  | (a, b) :: t, lo, x, y, v, hw => by
    simp only [Mem.wfAbove, Bool.and_eq_true, decide_eq_true_eq] at hw
    obtain ⟨⟨h1, h2⟩, h3⟩ := hw
    unfold Mem.write
    split
    · rename_i hx
      split
      · rename_i hv; subst hv
        by_cases hy : y = x
        · subst hy; rw [if_pos rfl]; unfold Mem.read; rw [if_neg (by omega), if_pos (by omega)]
        · rw [if_neg hy]
      · rw [Mem.read]
        by_cases hy : y = x
        · simp [hy]
        · rw [if_neg hy, if_neg hy]
          by_cases hlt : y < x
          · rw [if_pos hlt]; unfold Mem.read; rw [if_neg (by omega), if_pos (by omega)]
          · rw [if_neg hlt]
    · split
      · rename_i hx hxa
        subst hxa
        split
        · rename_i hv; subst hv
          by_cases hy : y = x
          · subst hy; rw [if_pos rfl]; exact Mem.read_below _ t _ _ h3 (by omega)
          · rw [if_neg hy, Mem.read, if_neg hy]
            by_cases hlt : y < x
            · rw [if_pos hlt]; exact Mem.read_below _ t _ _ h3 (by omega)
            · rw [if_neg hlt]
        · by_cases hy : y = x
          · simp [Mem.read, hy]
          · simp [Mem.read, hy]
      · rename_i hx hxa
        rw [Mem.read]
        by_cases hya : y = a
        · rw [if_pos hya, if_neg (by omega), Mem.read, if_pos hya]
        · rw [if_neg hya]
          by_cases hlt : y < a
          · rw [if_pos hlt, if_neg (by omega), Mem.read, if_neg hya, if_pos hlt]
          · rw [if_neg hlt, Mem.read_write d t (a + 1) x y v h3, Mem.read.eq_2, if_neg hya, if_neg hlt]

/-- A byte after a write of several: the byte written, or what it was. -/
theorem Mem.read_writes (d : Byte) : ∀ (b : List Byte) (m : Cells) (a y : Nat), Mem.wf d m = true →
    Mem.read d (Mem.writes d m a b) y = if a ≤ y ∧ y < a + b.length then b.getD (y - a) 0 else Mem.read d m y
  | [], m, a, y, _ => by
    rw [if_neg (by simp)]; rfl
  | v :: b, m, a, y, h => by
    have hw := Mem.write_wf d m a v h
    rw [Mem.writes, Mem.read_writes d b _ _ _ hw, Mem.read_write d m 0 a y v h]
    by_cases h1 : y = a
    · subst h1
      rw [if_neg (by omega), if_pos rfl, if_pos (by simp only [List.length_cons]; omega), Nat.sub_self]; rfl
    · by_cases h2 : a + 1 ≤ y ∧ y < a + 1 + b.length
      · rw [if_pos h2, if_pos (by simp; omega)]
        have : y - a = (y - (a + 1)) + 1 := by omega
        rw [this]; simp
      · rw [if_neg h2, if_neg h1, if_neg (by simp; omega)]

end Sys2Proof.Machine
end

