-- ==== Sys2Proof/Laws/Operands.lean ====
section
/-! SUPPORT. Stored bytes and the data space: what a store outside the register window changes, and what a byte reads as
after it (R89, R90). -/

namespace Sys2Proof.Machine

/-- A store outside the register window leaves the handler and its stacks alone. -/
theorem State.storeBytes_keeps {s : State} {c : CoreId} {h : Handler} (a : Nat) (b : List Byte)
    (hr : (s.core c).run = some h) (hreg : region (isArb c) a ≠ .regs) : Keeps s (s.storeBytes c a b) c h := by
  unfold State.storeBytes Keeps
  cases hx : region (isArb c) a <;> simp_all
  exact ⟨hr, rfl, rfl⟩

/-- A store outside the register window changes only the two memories. -/
theorem State.storeBytes_frame (s : State) (c : CoreId) (a : Nat) (b : List Byte) (hreg : region (isArb c) a ≠ .regs) :
    s.storeBytes c a b = { s with
      cores := s.cores.set c { s.core c with data := ((s.storeBytes c a b).core c).data }, sram := (s.storeBytes c a b).sram } := by
  have hs : s.cores.set c s.cores[c] = s.cores := by simp
  have h0 : s = { s with cores := s.cores.set c s.cores[c], sram := s.sram } := by rw [hs]
  unfold State.storeBytes
  cases hx : region (isArb c) a
  · simp [State.core, State.modCore]
  · simp [State.core, State.modCore]
  · exact h0
  · show ({ s with sram := _ } : State) = { s with cores := s.cores.set c s.cores[c], sram := _ }
    rw [hs]
  · exact absurd hx hreg
  · exact h0

theorem State.inPremove_eq {s : State} {c : CoreId} {h : Handler} (hr : (s.core c).run = some h) : s.inPremove c = h.premove := by
  simp [State.inPremove, hr]

/-- A load of mapped bytes outside the register window, or in a premove, is a plain read. -/
theorem State.loadBytes_plain {s : State} {c : CoreId} {h : Handler} (a n : Nat) (hr : (s.core c).run = some h)
    (hp : region (isArb c) a ≠ .regs ∨ h.premove = true) :
    s.loadBytes c a n = ((List.range n).map fun i => s.dataByte c (a + i), s) := by
  have h1 := State.inPremove_eq hr
  unfold State.loadBytes
  rcases hp with hp | hp <;> simp [hp, h1]

/-- No core but the arbiter has a file core's number. -/
@[simp] theorem isArb_fileCore (p : PortId) : isArb (fileCore p) = false := by
  revert p; decide

/-- The port of a file core. -/
@[simp] theorem corePort_fileCore (p : PortId) : corePort (fileCore p) = some p := by
  revert p; decide

@[simp] theorem corePort_arbiter : corePort arbiterId = none := rfl

end Sys2Proof.Machine
end

