-- ==== Sys2Proof/Laws/Words.lean ====
section
/-! SUPPORT. Fields of the five word forms: a form's fields read back from its word (R93). -/

namespace Sys2Proof.Machine

theorem fld_extract {w : Nat} (x : BitVec w) (lo n : Nat) : fld x lo n = (x.extractLsb' lo n).toNat := by
  simp [fld]

theorem extract_low {a b : Nat} (x : BitVec a) (y : BitVec b) : (x ++ y).extractLsb' 0 b = y := by
  apply BitVec.eq_of_getLsbD_eq; intro i hi
  simp [hi, BitVec.getLsbD_append]

theorem extract_high {a b : Nat} (x : BitVec a) (y : BitVec b) : (x ++ y).extractLsb' b a = x := by
  apply BitVec.eq_of_getLsbD_eq; intro i hi
  simp [hi, BitVec.getLsbD_append]

theorem extract_above {a b lo n : Nat} (x : BitVec a) (y : BitVec b) (h : b ≤ lo) :
    (x ++ y).extractLsb' lo n = x.extractLsb' (lo - b) n := by
  apply BitVec.eq_of_getLsbD_eq; intro i hi
  have h1 : ¬ lo + i < b := by omega
  have h2 : lo + i - b = lo - b + i := by omega
  simp [BitVec.getLsbD_append, hi, h1, h2]

@[simp] theorem decA_encA (op : Nat) (f : FormA) : decA (encA op f) = f := by
  cases f with | mk d a b sub => 
  simp only [decA, encA, FormA.mk.injEq]
  refine ⟨?_, ?_, ?_, extract_low _ _⟩
  · rw [extract_above _ _ (by omega), extract_above _ _ (by omega), extract_above _ _ (by omega)]; exact extract_low _ _
  · rw [extract_above _ _ (by omega), extract_above _ _ (by omega)]; exact extract_low _ _
  · rw [extract_above _ _ (by omega)]; exact extract_low _ _

@[simp] theorem decI_encI (op : Nat) (f : FormI) : decI (encI op f) = f := by
  cases f with | mk d a imm =>
  simp only [decI, encI, FormI.mk.injEq]
  refine ⟨?_, ?_, extract_low _ _⟩
  · rw [extract_above _ _ (by omega), extract_above _ _ (by omega)]; exact extract_low _ _
  · rw [extract_above _ _ (by omega)]; exact extract_low _ _

@[simp] theorem decB_encB (op : Nat) (f : FormB) : decB (encB op f) = f := by
  cases f with | mk d a b sub =>
  simp only [decB, encB, FormB.mk.injEq]
  refine ⟨?_, ?_, ?_, extract_low _ _⟩
  · rw [extract_above _ _ (by omega), extract_above _ _ (by omega), extract_above _ _ (by omega)]; exact extract_low _ _
  · rw [extract_above _ _ (by omega), extract_above _ _ (by omega)]; exact extract_low _ _
  · rw [extract_above _ _ (by omega)]; exact extract_low _ _

@[simp] theorem decL_encL (op : Nat) (f : FormL) : decL (encL op f) = f := by
  cases f with | mk d a imm =>
  simp only [decL, encL, FormL.mk.injEq]
  refine ⟨?_, ?_, extract_low _ _⟩
  · rw [extract_above _ _ (by omega), extract_above _ _ (by omega)]; exact extract_low _ _
  · rw [extract_above _ _ (by omega)]; exact extract_low _ _

@[simp] theorem decQ_encQ (op : Nat) (f : FormQ) : decQ (encQ op f) = f := by
  cases f with | mk d a n sub =>
  simp only [decQ, encQ, FormQ.mk.injEq]
  refine ⟨?_, ?_, ?_, extract_low _ _⟩
  · rw [extract_above _ _ (by omega), extract_above _ _ (by omega), extract_above _ _ (by omega)]; exact extract_low _ _
  · rw [extract_above _ _ (by omega), extract_above _ _ (by omega)]; exact extract_low _ _
  · rw [extract_above _ _ (by omega)]; exact extract_low _ _

/-! ### The opcode -/

@[simp] theorem wOp_encA (op : Nat) (f : FormA) : wOp (encA op f) = op % 64 := by
  rw [wOp, fld_extract, encA, extract_above _ _ (by omega), extract_above _ _ (by omega), extract_above _ _ (by omega),
    extract_above _ _ (by omega), BitVec.extractLsb'_eq_self]; simp
@[simp] theorem wOp_encB (op : Nat) (f : FormB) : wOp (encB op f) = op % 64 := by
  rw [wOp, fld_extract, encB, extract_above _ _ (by omega), extract_above _ _ (by omega), extract_above _ _ (by omega),
    extract_above _ _ (by omega), BitVec.extractLsb'_eq_self]; simp
@[simp] theorem wOp_encQ (op : Nat) (f : FormQ) : wOp (encQ op f) = op % 64 := by
  rw [wOp, fld_extract, encQ, extract_above _ _ (by omega), extract_above _ _ (by omega), extract_above _ _ (by omega),
    extract_above _ _ (by omega), BitVec.extractLsb'_eq_self]; simp
@[simp] theorem wOp_encI (op : Nat) (f : FormI) : wOp (encI op f) = op % 64 := by
  rw [wOp, fld_extract, encI, extract_above _ _ (by omega), extract_above _ _ (by omega),
    extract_above _ _ (by omega), BitVec.extractLsb'_eq_self]; simp
@[simp] theorem wOp_encL (op : Nat) (f : FormL) : wOp (encL op f) = op % 64 := by
  rw [wOp, fld_extract, encL, extract_above _ _ (by omega), extract_above _ _ (by omega),
    extract_above _ _ (by omega), BitVec.extractLsb'_eq_self]; simp

/-! ### Little-endian numbers -/

theorem leBytes_succ (n v : Nat) : leBytes (n + 1) v = BitVec.ofNat 8 v :: leBytes n (v >>> 8) := by
  simp only [leBytes, List.range_succ_eq_map, List.map_cons, List.map_map, Nat.mul_zero, Nat.shiftRight_zero, List.cons.injEq,
    true_and]
  apply List.map_congr_left
  intro i _
  simp [Nat.mul_succ, Nat.add_comm, ← Nat.shiftRight_add]

/-- The bytes of a number read back as the number. -/
theorem ofLe_leBytes (n v : Nat) : ofLe (leBytes n v) = v % 256 ^ n := by
  induction n generalizing v with
  | zero => simp [leBytes, ofLe, Nat.mod_one]
  | succ n ih =>
    rw [leBytes_succ, ofLe, ih, Nat.pow_succ', Nat.mod_mul]
    simp [Nat.shiftRight_eq_div_pow]

end Sys2Proof.Machine
end

