-- ==== Sys2Proof/Tests/Slice0.lean ====
section
/-! SUPPORT. Tests: a concrete state and operands that meet the hypotheses of every statement of Certificates/Slice0 (the
value of each range at its edge), words decoded as the spec encodes them, an ill-formed command for each check of
WellFormed, and a few numbers of the spec. Nothing here is imported by the model. -/

open Sys2Proof Sys2Proof.Machine

-- One theorem after the other: their evaluations together ask for more threads and memory than a check may use.
set_option Elab.async false

namespace Sys2Proof.Tests

/-! ### States the tests run on -/

/-- A live four-port device: fuses read, supplies present, both flash devices there. -/
def up : State :=
  let o := State.reset.otp
  { State.reset with
    phase := .live, us := 5000, otp := { o with sensed := true, shadow := o.shadow.set 32 3 }
    pins := { State.reset.pins with v5 := 5000, vhv := 48000, vhold := 11000, vioOk := true }
    upd := { State.reset.upd with dev0 := true, dev1 := true } }

/-- A handler table entry of 3 steps at word 0. -/
def entryOf (cls flags : Byte) : HEntry :=
  { entry := 0, cls, flags, msop := 0, mtype := 0, mindo := 0, tmin := 0, deadline := 50000, declared := 3, reserved := false }

/-- An image of three words whose slots are, in order, of classes 0, 1 (frames of type 2), 7, 13, 0x10, 0x20, 0x22, 0x27 and
a continuation slot of class 2. -/
def image : LoadedImage :=
  let t := [entryOf 0 1, { entryOf 1 1 with msop := 0x11, mtype := 2 }, entryOf 7 1, entryOf 13 1, entryOf 16 3, entryOf 32 1,
    entryOf 34 1, entryOf 39 1, entryOf 2 5, entryOf 3 1]
  { slots := t.map fun e => some { e, bound := 3, occ := 10, ded := 50000 }, codeEnd := 1000, ncmax := 4, table := t }

/-- A handler of class 2 that has taken no step, and the same as a premove of class 1. -/
def hd : Handler := { job := { cls := 2, slot := 8, id := 7, deadline := 9000, time := 4990 }, bound := 500, start := 4995 }
def hp : Handler := { hd with job := { hd.job with cls := 1, slot := 1, inRx := true, queue := 0 }, premove := true }

/-- Core c runs handler h, with its registers a multiple of 64 from 0x3000 on and image `image`. -/
def runs (c : CoreId) (h : Handler) : State :=
  up.modCore c fun C => { C with
    image := some image, st := .running, pc := 20, run := some h, nextId := 9
    g := Vector.ofFn fun i => BitVec.ofNat 32 (if i.val = 0 then 0 else if i.val < 8 then 0x3000 + 64 * i.val else i.val - 8) }

/-- Every core holds `image` and is free. -/
def ready : State := { up with cores := up.cores.map fun C => { C with image := some image, st := .running } }

/-- Port 0 is an attached source with a running 9 V contract; port 1 an attached sink. -/
def src : State := up.modPort 0 fun P => { P with
  tc := { P.tc with st := .attachedSrc, pres := .rp, cc1 := .rd, committed := true }
  ct := { P.ct with attpr := true, concfg := 0x10100, conv := 9000, coni := 3000 }
  pw := { P.pw with mode := .sourceOn, phase := .running, ga := true, gb := true, vbPin := 9000 }
  sp := { P.sp with cen := true, dir := true, vset := 9000, ramp := 9000 } }
def snk : State := up.modPort 0 fun P => { P with
  tc := { P.tc with st := .attachedSnk, pres := .rd, cc1 := .rp30 }
  pw := { P.pw with mode := .idealDiode, phase := .running, ga := true, pg := true } }

/-! ### The commands one by one -/

theorem witness_StepRunsFront : ({ up with pending := [.averageUpdate, .take] }).pending = .averageUpdate :: [.take] := by
  decide +kernel

theorem witness_IdleStepIsOneMicrosecond :
    up.pending = [] ∧ up.phase ≠ .unpowered ∧ up.phase ≠ .startMode ∧ up.phase ≠ .parked ∧ up.flg.proxies = [] ∧ up.upd.step ≠ .files ∧
      (up.port 0).pw.pgDue = false ∧
      (let W := ((src.modPw 0 fun w => { w with pgDue := true, pgCnt := 8 }).port 0).pw
       up.present 0 = true ∧ W.pgDue = true ∧ W.pgn ≤ W.pgCnt) := by decide +kernel

theorem witness_PalteinRoundTrip : encodeWord (.actGateSourceOn 8 ⟨15, 15, 59, 0⟩) = some (8, 0xFBFFB000) ∧
    (Instr.actGateSourceOn 8 ⟨15, 15, 59, 0⟩).wf = true := by decide +kernel

theorem witness_RegisterRowsWriteD : ∀ op ∈ registerRows.map fun r => r.2.1, Ready (runs 0 hd) 0 hd (encA op ⟨1, 2, 0, 0⟩) ∧
    Ready (runs 8 hd) 8 hd (encA op ⟨0, 15, 15, 0⟩) := by simp only [Ready, At]; decide +kernel

theorem witness_ImmediateRowsWriteD : ∀ op ∈ immediateRows.map fun r => r.2.1, Ready (runs 0 hd) 0 hd (encI op ⟨1, 0, 31⟩) := by
  simp only [Ready, At]; decide +kernel

theorem witness_FieldRowsWriteD : Ready (runs 0 hd) 0 hd (encA 0x2B ⟨1, 2, 0, 31⟩) ∧ Ready (runs 0 hd) 0 hd (encA 0x2C ⟨1, 2, 0, 992⟩) ∧
    Ready (runs 0 hd) 0 hd (encA 0x2D ⟨1, 2, 0, 31⟩) ∧ Ready (runs 0 hd) 0 hd (encA 0x36 ⟨1, 0, 0, 0⟩) := by
  simp only [Ready, At]; decide +kernel

theorem witness_LoadsReadData : ∀ row ∈ loadRows.map fun r => (r.2.1, r.2.2.1),
    (let s := runs 0 hp
     let f : FormI := ⟨1, 0, 0x37FC⟩
     Ready s 0 hp (encI row.1 f) ∧ s.readFault 0 row.2 (s.addr 0 f) row.2 = 0 ∧ region (isArb 0) (s.addr 0 f) ≠ .regs ∧
      hp.premove = true) ∧
    (let s := (runs 0 hd).modCore 0 fun C => { C with g := C.g.set 2 0x100000 }
     let f : FormI := ⟨1, 2, 0x8⟩
     Ready s 0 hd (encI row.1 f) ∧ s.readFault 0 row.2 (s.addr 0 f) row.2 = 0 ∧ region (isArb 0) (s.addr 0 f) = .regs ∧
      hd.premove = false ∧ Keeps s (s.coreLoad (s.addr 0 f - 0x100000) row.2).2 0 hd) := by
  simp only [Ready, At, Keeps]; decide +kernel

theorem witness_StoresStoreBytes : ∀ row ∈ storeRows.map fun r => (r.2.1, r.2.2),
    (let s := runs 0 hp
     let f : FormI := ⟨1, 0, 0x3FFC⟩
     Ready s 0 hp (encI row.1 f) ∧ region (isArb 0) (s.addr 0 f) = .scratch ∧
      storeFault 0 (s.core 0).codeEnd row.2 (s.addr 0 f) row.2 = 0) ∧
    (let s := (runs 8 hd).modCore 8 fun C => { C with g := C.g.set 2 0x100000 }
     let f : FormI := ⟨1, 2, 0x8A0⟩
     let t := s.storeBytes 8 (s.addr 8 f) ((List.range row.2).map fun i => byteOf (s.gr 8 f.d).toNat i)
     Ready s 8 hd (encI row.1 f) ∧ hd.premove = false ∧ storeFault 8 (s.core 8).codeEnd row.2 (s.addr 8 f) row.2 = 0 ∧
      Keeps s t 8 hd) := by
  simp only [Ready, At, Keeps]; decide +kernel

theorem witness_StoredBytesReadBack :
    let s := runs 0 hd
    ([1, 2] : List Byte) ≠ [] ∧ Mem.wf 0 (s.core 0).data = true ∧ (s.core 0).run = some hd ∧ hd.staged = [] ∧
      storeFault 0 (s.core 0).codeEnd 2 0x87FFE 2 = 0 ∧ region (isArb 0) 0x87FFE ≠ .regs := by decide +kernel

theorem witness_MisalignedAccessesFault :
    (∀ row ∈ (loadRows.map fun r => (r.2.1, r.2.2.1)).filter fun r => decide (r.2 ≠ 1), let s := runs 0 hd; let f : FormI := ⟨1, 0, 0x3801⟩
      MayFault s 0 hd 3 ∧ Ready s 0 hd (encI row.1 f) ∧ s.addr 0 f % row.2 ≠ 0) ∧
    (∀ row ∈ (storeRows.map fun r => (r.2.1, r.2.2)).filter fun r => decide (r.2 ≠ 1), let s := runs 8 hd; let f : FormI := ⟨1, 0, 0x3FFFF⟩
      MayFault s 8 hd 3 ∧ Ready s 8 hd (encI row.1 f) ∧ s.addr 8 f % row.2 ≠ 0) := by
  simp only [MayFault, Ready, At]; decide +kernel

theorem witness_BranchesGoWhereTheySay :
    (let s := runs 0 { hd with steps := 499 }; let h : Handler := { hd with steps := 499 }; let f : FormB := ⟨1, 1, 2, 1⟩
     At s 0 h (encB 0x2E f) ∧ ¬ branchHolds f.cond.toNat (s.gr 0 f.a) (s.gr 0 f.b) ∧ h.steps + 1 + (s.seqEnd 0).cost ≤ h.bound) ∧
    (∀ f ∈ ([⟨0, 0, 0, 1⟩, ⟨1, 1, 1, 1⟩, ⟨2, 1, 2, 1⟩, ⟨3, 1, 2, 1⟩, ⟨4, 1, 1, 1⟩, ⟨5, 1, 2, 1⟩, ⟨6, 1, 1, 1⟩, ⟨7, 1, 1, 0x3FFF⟩, ⟨8, 9, 8, 1⟩] :
        List FormB), let h : Handler := { hd with steps := 498 }; let s := runs 0 h
     At s 0 h (encB 0x2E f) ∧ branchHolds f.cond.toNat (s.gr 0 f.a) (s.gr 0 f.b) ∧ h.steps + 2 ≤ h.bound) := by
  simp only [At, branchHolds]; decide +kernel

theorem witness_LoopsRunTheirCount :
    (let s := runs 0 { hd with steps := 497 }; let h : Handler := { hd with steps := 497 }; let f : FormL := ⟨8, 5, 1⟩; let C := s.core 0
     At s 0 h (encL 0x2F f) ∧ min (s.gr 0 f.ctr).toNat f.max.toNat = 0 ∧
      h.steps + 3 + (endLoops C.ret.length (C.pc.toNat + 1 + f.len.toNat) C.loops).cost ≤ h.bound) ∧
    (let s := runs 0 { hd with steps := 499 }; let h : Handler := { hd with steps := 499 }; let f : FormL := ⟨9, 1, 1⟩
     At s 0 h (encL 0x2F f) ∧ min (s.gr 0 f.ctr).toNat f.max.toNat ≠ 0 ∧ (s.core 0).loops.length < 32 ∧ h.steps + 1 ≤ h.bound) ∧
    (let l : LoopFrame := { first := 3, last := 4, left := 2, ctr := 1, depth := 0 }; l.depth = 0 ∧ 5 = l.last.toNat + 1 ∧ 1 < l.left) ∧
    (let l : LoopFrame := { first := 3, last := 4, left := 1, ctr := 1, depth := 0 }; l.depth = 0 ∧ 5 = l.last.toNat + 1 ∧ l.left ≤ 1) := by
  simp only [At]; decide +kernel

/-- A core with n return addresses. -/
def deep (c : CoreId) (h : Handler) (n : Nat) : State := (runs c h).modCore c fun C => { C with ret := List.replicate n 9 }

theorem witness_CallsAndReturns :
    (let h : Handler := { hd with steps := 497 }; let s := deep 0 h 7; let f : FormI := ⟨0, 0, 999⟩
     At s 0 h (encI 0x30 f) ∧ h.steps + 3 ≤ h.bound ∧ f.imm.toNat < (s.core 0).codeEnd ∧ (s.core 0).ret.length < 8) ∧
    (let s := deep 0 hd 8; let f : FormI := ⟨0, 0, 0⟩
     At s 0 hd (encI 0x30 f) ∧ hd.steps + 3 ≤ hd.bound ∧ f.imm.toNat < (s.core 0).codeEnd ∧ 8 ≤ (s.core 0).ret.length ∧ MayFault s 0 hd 3) ∧
    (let s := deep 0 hd 1; At s 0 hd (encA 0x31 ⟨0, 0, 0, 0⟩) ∧ (s.core 0).ret = 9 :: [] ∧
      hd.steps + 3 + (endLoops 0 9 ((s.core 0).loops.dropWhile fun l => decide (l.depth = 1))).cost ≤ hd.bound) ∧
    (let s := runs 0 hd; At s 0 hd (encA 0x31 ⟨0, 0, 0, 0⟩) ∧ (s.core 0).ret = [] ∧ hd.steps + 3 ≤ hd.bound ∧ MayFault s 0 hd 3) := by
  simp only [At, MayFault]; decide +kernel

theorem witness_HandlersEnd :
    (let h : Handler := { hd with steps := 499 }; let s := runs 0 h
     (s.core 0).st ≠ .loading ∧ At s 0 h (encA 0x32 ⟨0, 0, 0, 0⟩) ∧ h.steps + 1 ≤ h.bound) ∧
    (let s := runs 0 hd; let f : FormQ := ⟨0, 0, 8, 128⟩
     (s.core 0).st ≠ .loading ∧ At s 0 hd (encQ 0x33 f) ∧ hd.steps + 3 ≤ hd.bound ∧ hd.premove = false) ∧
    (let s := runs 0 hp; let f : FormQ := ⟨0, 0, 8, 128⟩
     (s.core 0).st ≠ .loading ∧ At s 0 hp (encQ 0x33 f) ∧ hp.steps + 3 ≤ hp.bound ∧ hp.premove = true ∧ hp.eff < 32 ∧ hp.sto ≤ 64) := by
  simp only [At]; decide +kernel

theorem witness_IllegalAndOverstepFault :
    (let s := runs 0 hd; let i : Instr := .add 0 ⟨1, 1, 1, 1⟩; let w : Word := encA 1 ⟨1, 1, 1, 1⟩
     encodeWord i = some (0, w) ∧ (s.core 0).run = some hd ∧ hd.ended = false ∧ hd.stall = none ∧
      (s.core 0).pc.toNat < (s.core 0).codeEnd ∧ s.halted 0 = false ∧ MayFault s 0 hd 3 ∧ s.fetchBad 0 = false ∧ s.illegal 0 w = true ∧
      ({ s with ramBad := [.code 0 20] } : State).fetchBad 0 = true) ∧
    (let h : Handler := { hd with steps := 500 }; let s := runs 0 h; let i : Instr := .add 0 ⟨1, 1, 1, 0⟩; let w : Word := encA 1 ⟨1, 1, 1, 0⟩
     encodeWord i = some (0, w) ∧ (s.core 0).run = some h ∧ h.ended = false ∧ h.stall = none ∧
      (s.core 0).pc.toNat < (s.core 0).codeEnd ∧ s.halted 0 = false ∧ MayFault s 0 h 3 ∧ s.fetchBad 0 = false ∧ s.illegal 0 w = false ∧ h.bound < h.steps + wordCost w false) := by
  simp only [MayFault]; decide +kernel

theorem witness_TimersAreArmed :
    (let s := runs 0 hd; let f : FormQ := ⟨0, 1, 7, 0⟩
     Ready s 0 hd (encQ 0x34 (selBit f 0 false)) ∧ Ready s 0 hd (encQ 0x34 (selBit f 0 true)) ∧ Ready s 0 hd (encQ 0x35 ⟨0, 0, 7, 0⟩) ∧
      hd.premove = false) ∧
    (let s := runs 0 hp; let f : FormQ := ⟨0, 1, 0, 0⟩
     Ready s 0 hp (encQ 0x34 (selBit f 0 false)) ∧ Ready s 0 hp (encQ 0x34 (selBit f 0 true)) ∧ Ready s 0 hp (encQ 0x35 ⟨0, 0, 0, 0⟩) ∧
      hp.premove = true ∧ hp.eff < 32 ∧ hp.sto ≤ 64 ∧ (s.seqEnd 0).writes = []) := by
  simp only [Ready, At]; decide +kernel

/-! ### Queues, ledger, actuators, SYS -/

/-- A queue entry with sequence number n. -/
def entry (n : Byte) : Entry := { st := .received, seq := n, hdr := 0x1042, len := 4 }

/-- Core 0 runs handler h on a source port whose queue k holds the entries given. -/
def queued (h : Handler) (k : Fin 8) (l : List Entry) : State :=
  let s := runs 0 h
  ({ s with ports := src.ports }.modQ 0 k fun q => { q with ents := l }).modPd 0 fun d => { d with qsctl := 0, ctl := 0x12 }

def full : List Entry := List.replicate 8 (entry 3)

theorem witness_QpushAppendsAnEntry :
    (∀ k ∈ ([1, 3, 5, 7, 0, 2, 4, 6] : List (Fin 8)), ∀ l ∈ [[], full.take 7, full],
      let s := queued hd k l; let f : FormQ := ⟨8, 1, BitVec.ofNat 6 k.val, 0⟩; let a := (s.gr 0 f.a).toNat
      Ready s 0 hd (encQ 0x37 f) ∧ hd.premove = false ∧ f.n.toNat = k.val ∧ s.readFault 0 4 a 40 = 0 ∧ region false a ≠ .regs ∧
        s.present 0 = true ∧ (s.port 0).tc.attached = true ∧ (s.queue 0 k).ents = l ∧ (s.port 0).pd.qsctl.getLsbD 0 = false) ∧
    ((queued hd 1 []).port 0).sopEnabled (qSop 1) = true ∧
    (∀ k ∈ ([3, 5] : List (Fin 8)), let s := ((queued hd k []).modPd 0 fun d => { d with ctl := 0x00D2 }).modTc 0 fun t => { t with vconn := true }
      (s.port 0).sopEnabled (qSop k) = true ∧ (s.port 0).tc.attached = true) ∧ full.length = 8 := by
  simp only [Ready, At]; decide +kernel

theorem witness_QpopTakesTheHead :
    ∀ k : Fin 8, ∀ l ∈ [[], [entry 1], full],
      let s := queued hd k l; let f : FormQ := ⟨8, 1, BitVec.ofNat 6 k.val, 0⟩; let a := (s.gr 0 f.a).toNat
      Ready s 0 hd (encQ 0x38 f) ∧ hd.premove = false ∧ f.n.toNat = k.val ∧ storeFault 0 (s.core 0).codeEnd 4 a 40 = 0 ∧
        region false a ≠ .regs ∧ s.present 0 = true ∧ (s.queue 0 k).ents = l := by
  simp only [Ready, At]; decide +kernel

theorem witness_QpeekCopiesAnEntry :
    (∀ q ∈ [(4, 3), (4, 9), (0, 3)], let h : Handler := { hd with job := { hd.job with queue := q.1, seq := q.2 } }
      let s := queued h 4 full; let f : FormQ := ⟨8, 1, 4, 0x870⟩; let a := (s.gr 0 f.a).toNat
      h.premove = false ∧ f.n.toNat = 4 ∧ storeFault 0 (s.core 0).codeEnd 4 a 40 = 0 ∧ region false a ≠ .regs ∧ s.present 0 = true ∧
        Ready s 0 h (encQ 0x39 (selBit f 11 true)) ∧
        ((q = (4, 3) → h.job.queue = 4 ∧ ((s.queue 0 4).ents.find? fun e => decide (e.seq = h.job.seq)) = some (entry 3)) ∧
          (q = (4, 9) → h.job.queue = 4 ∧ ∀ e ∈ (s.queue 0 4).ents, e.seq ≠ h.job.seq) ∧ (q = (0, 3) → h.job.queue ≠ 4))) ∧
    (∀ n ∈ [0, 7], let s := queued hd 7 (full.take (8 - n)); let f : FormQ := ⟨8, 1, 7, BitVec.ofNat 12 n⟩
      Ready s 0 hd (encQ 0x39 (selBit f 11 false)) ∧ f.sub.toNat % 8 = n ∧
        (n = 0 → (s.queue 0 7).ents[n]? = some (entry 3)) ∧ (n = 7 → (s.queue 0 7).ents.length ≤ n)) := by
  simp only [Ready, At]; decide +kernel

/-- Core c runs handler h; port 0 holds a grant of 27 W and a reservation of 1 W; the feeds give the power given. -/
def ledger (c : CoreId) (h : Handler) (feed : Word) (amt : Word) : State :=
  ((runs c h).modLdg fun l => { l with grant := l.grant.set 0 27000, rsvF := l.rsvF.set 0 1000 }).modFed (fun f => { f with
    cfg := 0x14140A07, f1 := { f.f1 with cap := feed, good := true, on := true } }) |>.modCore c fun C => { C with g := C.g.set 1 amt }

theorem witness_LedgerOperations :
    (let s := ledger 0 hd 0 0xFFFFFF; let f : FormQ := ⟨8, 1, 8, 0⟩
     hd.premove = false ∧ ledgerPort 0 f.n.toNat 0 = some 0 ∧ s.present 0 = true ∧
      Ready s 0 hd (encQ 0x3A f) ∧ Ready s 0 hd (encQ 0x3B f) ∧ Ready s 0 hd (encQ 0x3C (selBit f 0 false)) ∧
      Ready s 0 hd (encQ 0x3C (selBit f 0 true)) ∧ s.ceil 0 < s.ldg.grant[0] + s.ldg.rsv 0 + (s.gr 0 f.a).toNat ∧
      s.ldg.rsv 0 < (s.gr 0 f.a).toNat ∧ s.gr 0 f.a ≠ 0xFFFFFFFF ∧ s.ldg.grant[0] < (s.gr 0 f.a).toNat) ∧
    (let s := ledger 0 hd 0 1; let f : FormQ := ⟨8, 1, 8, 0⟩; let amt := (s.gr 0 f.a).toNat
     s.ldg.grant[0] + s.ldg.rsv 0 + amt ≤ s.ceil 0 ∧ 0 < amt ∧ s.pAvail < s.used + amt ∧ amt ≤ s.ldg.rsv 0 ∧ amt ≤ s.ldg.grant[0]) ∧
    (let s := ledger 8 hd 0 0; let f : FormQ := ⟨8, 1, 0, 0⟩; let amt := (s.gr 8 f.a).toNat
     ledgerPort 8 f.n.toNat 0 = some 0 ∧ Ready s 8 hd (encQ 0x3A f) ∧ s.ldg.grant[0] + s.ldg.rsv 0 + amt ≤ s.ceil 0 ∧ amt = 0) ∧
    (let s := (ledger 0 hd 0 5000).modLdg fun l => { l with cfg := 0x1902 }; let t := s.modFab fun f => { f with xin := 90000 }
     let f : FormQ := ⟨8, 1, 8, 0⟩; let amt := (t.gr 0 f.a).toNat
     t.ldg.grant[0] + t.ldg.rsv 0 + amt ≤ t.ceil 0 ∧ t.used + amt ≤ t.pAvail ∧ 0 < amt) ∧
    (∀ n ∈ lrdRows.map fun r => r.2.1,
      (let s := runs 0 hd; let f : FormQ := ⟨8, 8, 63, 0⟩
       Ready s 0 hd (encQ 0x3D (selSub f 0 4 n)) ∧ ledgerPort 0 f.n.toNat (s.gr 0 f.a) = some 0 ∧ s.present 0 = true ∧ hd.premove = false) ∧
      (let s := (runs 0 hd).modCore 0 fun C => { C with g := C.g.set 8 15 }; let f : FormQ := ⟨8, 8, 63, 0⟩
       Ready s 0 hd (encQ 0x3D (selSub f 0 4 n)) ∧ ledgerPort 0 f.n.toNat (s.gr 0 f.a) = none) ∧
      (let s := (runs 0 hd).modOtp fun o => { o with shadow := o.shadow.set 32 2 }; let f : FormQ := ⟨8, 0, 7, 0⟩
       Ready s 0 hd (encQ 0x3D (selSub f 0 4 n)) ∧ ledgerPort 0 f.n.toNat (s.gr 0 f.a) = some 7 ∧ s.present 7 = false)) ∧
    (let s := runs 0 hp; let f : FormQ := ⟨8, 0, 7, 0⟩
     Ready s 0 hp (encQ 0x3D (selSub f 0 4 5)) ∧ ledgerPort 0 f.n.toNat (s.gr 0 f.a) = some 7 ∧ s.present 7 = true ∧
      hp.premove = true) := by
  simp only [Ready, At]; and_intros <;> decide +kernel

/-- The arbiter runs handler hd with g1 = v, port 0 as in s. -/
def arbiterOn (s : State) (v : Word) : State := { s with cores := ((runs 8 hd).modCore 8 fun C => { C with g := C.g.set 1 v }).cores }

theorem witness_ArbiterActuatorWrites :
    (let s := arbiterOn src 0; let f : FormQ := ⟨8, 1, 3, 0⟩
     Ready s arbiterId hd (encQ 0x3E (selAct f 3)) ∧ (⟨f.n.toNat / 8, by omega⟩ : PortId) = 0 ∧ s.present 0 = true ∧
      s.gr arbiterId f.a = 0 ∧ (s.port 0).pw.mode ≠ .off) ∧
    (let s := arbiterOn up 1; let f : FormQ := ⟨8, 1, 4, 0⟩
     Ready s arbiterId hd (encQ 0x3E (selAct f 4)) ∧ s.present 0 = true ∧ s.gr arbiterId f.a = 1 ∧ (s.port 0).pw.lid = false ∧
      (s.port 0).pw.mode = .off) ∧
    (∀ j : Fin 6, let s := arbiterOn up 2; let f : FormQ := ⟨8, 1, 56, 0⟩
     Ready s arbiterId hd (encQ 0x3E (selAct f j.val)) ∧ ¬ (j.val = 3 ∧ s.gr arbiterId f.a = 0) ∧
      ¬ (j.val = 4 ∧ s.gr arbiterId f.a = 1)) := by
  simp only [Ready, At]; decide +kernel

/-- File core 0 runs handler hd with g1 = v, port 0 as in s. -/
def fileOn (s : State) (v : Word) : State := { s with cores := ((runs 0 hd).modCore 0 fun C => { C with g := C.g.set 1 v }).cores }

theorem witness_ActuatorWrites_ready : hd.premove = false ∧
    (∀ j : Fin 6, ∀ v ∈ [0, 1, 2, 3000, 50000, 65535], Ready (fileOn src (BitVec.ofNat 32 v)) 0 hd (encQ 0x3E (selAct ⟨8, 1, 0, 0⟩ j.val))) := by
  simp only [Ready, At]; decide +kernel

theorem witness_ActuatorWrites :
    (∀ v ∈ [3000, 50000], let s := fileOn up (BitVec.ofNat 32 v); let P := s.port 0
     (s.gr 0 1).toNat = v ∧ v < 65536 ∧ P.sp.vmin.toNat ≤ v ∧ v ≤ P.sp.vmax.toNat ∧ P.sp.dir = false) ∧
    (∀ v ∈ [0, 2999, 50001, 65535], let P := (fileOn up (BitVec.ofNat 32 v)).port 0
     (v < P.sp.vmin.toNat ∨ P.sp.vmax.toNat < v) ∧ v < 65536) ∧
    (∀ v ∈ [0, 8000], v < 65536 ∧ v ≤ ((fileOn up (BitVec.ofNat 32 v)).port 0).sp.iclfs.toNat) ∧
    (let P := (fileOn up 3).port 0
     (3 : Word).toNat < 4 ∧ P.pw.lid = false ∧ P.pw.mode = .off ∧ P.sp.cen = false) ∧
    ((fileOn src 0).port 0).pw.mode ≠ .off ∧
    (∀ b : Bool, let P := ((fileOn src 1).modPw 0 fun w => { w with mode := .off, holdoff := b }).port 0
     P.pw.pen = true ∧ P.pw.lid = false ∧ P.pw.dsc = false ∧ P.sp.cen = true ∧ P.sp.dir = true ∧ P.tc.st = .attachedSrc ∧
      P.tc.rdPins ≠ 2 ∧ P.pw.mode = .off ∧ P.pw.turn = .none ∧ P.pw.defer = .off) ∧
    (let P := ((fileOn up 1).modPw 0 fun w => { w with ctl := 0x3200 }).port 0; P.pw.pen = false ∧ P.pw.mode ≠ .sourceOn) ∧
    (let P := ((fileOn snk 2).modPw 0 fun w => { w with mode := .off }).port 0
     P.pw.pen = true ∧ P.pw.lid = false ∧ P.pw.dsc = false ∧ P.sp.dir = false ∧ P.tc.st = .attachedSnk ∧ P.tc.rpPins ≠ 2 ∧ P.pw.mode = .off ∧
      P.pw.holdoff = false) ∧
    (let P := (fileOn up 1).port 0; P.pw.lidDsc = false ∧ P.pw.mode = .off) ∧
    (let P := (fileOn src 1).port 0; P.pw.lidDsc = false ∧ P.pw.mode ≠ .off) ∧
    (let P := ((fileOn src 1).modCt 0 fun c => { c with rapin := true }).port 0; P.tc.attached = true ∧ P.ct.rapin = true) ∧
    ((fileOn src 1).port 0).ct.rapin = false ∧ ((fileOn up 1).port 0).tc.attached = false := by
  decide +kernel

/-- A frame of TYPE t for device d. -/
def frame (t d : Nat) : FFrame := { typ := BitVec.ofNat 8 t, tag := 5, dst := BitVec.ofNat 16 d, src := 0, payload := List.replicate 22 0 }

/-- The arbiter runs hd on a device at address 2 with its links up and rx, tx in the queues of U. -/
def fabricCore (rx tx : List FFrame) : State := (runs 8 hd).modFab fun f => { f with
  addr := some 2, up := Vector.replicate 3 true, rxq := f.rxq.set 0 rx, txq := f.txq.set 0 tx }

theorem witness_SysFunctions :
    hd.premove = false ∧
    (let s := (runs 0 hd).modUnit 0 fun u => { u with st := .first, enabled := 0x8080, armNow := 4000, pstart := 500 }
     let u := s.flg.units[0].roll (s.unitTick 0)
     u.armed = true ∧ u.isLate (s.unitTick 0) = false ∧ u.enabled.getLsbD 7 = true ∧ u.done.getLsbD 7 = false ∧
      u.open' ≤ u.since (s.unitTick 0) ∧ Ready s 0 hd (encQ 0x3F (selSub ⟨0, 0, 7, 0⟩ 8 4 0))) ∧
    (∀ l ∈ [[], List.replicate 15 (1, []), List.replicate 16 (1, [])], let s := (runs 0 hd).modCore 0 fun C => { C with logs := l }
     let a := (s.gr 0 1).toNat
     Ready s 0 hd (encQ 0x3F (selSub ⟨8, 1, 7, 0⟩ 8 4 1)) ∧ s.readFault 0 4 a 16 = 0 ∧ region (isArb 0) a ≠ .regs ∧
      (s.core 0).logs = l) ∧
    (∀ n ∈ [0, 7, 8], let s := fabricCore [] (List.replicate n (frame 1 0)); let a := (s.gr 8 1).toNat
     Ready s 8 hd (encQ 0x3F (selSub ⟨8, 1, 0, 0⟩ 8 4 2)) ∧ s.readFault 8 4 a 32 = 0 ∧ region (isArb 8) a ≠ .regs ∧
      (frameOfBytes ((List.range 32).map fun i => s.dataByte 8 (a + i))).typ ≠ 1 ∧ s.fab.linkEn .u = true ∧ s.fab.txq[0].length = n ∧ s.fab.up[0] = true) ∧
    (let s := fabricCore [] []; Ready s 8 hd (encQ 0x3F (selSub ⟨8, 1, 2, 0⟩ 8 4 2)) ∧ s.fab.linkEn .d1 = true ∧ s.fab.own ≠ none ∧
      s.fab.txq[2].length < 8 ∧ s.fab.up[2] = true) ∧
    (∀ b : Bool, let s := ((fabricCore [] []).modFab fun f => { f with ftlock := b }).modCore 8 fun C => { C with data := [((C.g[(1 : Fin 16)]).toNat, 1)] }
     let a := (s.gr 8 1).toNat
     (frameOfBytes ((List.range 32).map fun i => s.dataByte 8 (a + i))).typ = 1 ∧ s.fab.ftlock = b) ∧
    (let s := (fabricCore [] []).modFab fun f => { f with cfg := 0 }
     Ready s 8 hd (encQ 0x3F (selSub ⟨8, 1, 0, 0⟩ 8 4 2)) ∧ s.fab.linkEn .u = false) ∧
    (∀ l ∈ [[], [frame 1 0]], let s := fabricCore l []; let a := (s.gr 8 1).toNat
     Ready s 8 hd (encQ 0x3F (selSub ⟨8, 1, 0, 0⟩ 8 4 3)) ∧ storeFault 8 (s.core 8).codeEnd 4 a 32 = 0 ∧ region (isArb 8) a ≠ .regs ∧
      s.fab.rxq[0] = l) := by
  simp only [Ready, At]; and_intros <;> decide +kernel

theorem witness_PremovesActOnNothing : let s := runs 0 hp
    encodeWord (.stw (fileCore 0) ⟨1, 1, 0⟩) = some (fileCore 0, encI 0x28 ⟨1, 1, 0⟩) ∧ (s.core (fileCore 0)).run = some hp ∧
      hp.premove = true ∧ (∀ c, Mem.wf 0 (s.core c).code = true ∧ Mem.wf 0 (s.core c).data = true) ∧ Mem.wf 0 s.sram = true ∧
      Mem.wf 0xFF s.upd.staging = true := by decide +kernel

/-! ### Events of a core, PHY -/

/-- Core c of `ready` with the given jobs. -/
def waiting (c : CoreId) (l : List Job) : State := ready.modCore c fun C => { C with jobs := l }

theorem witness_DispatchStartsTheFirstJob :
    (∀ l ∈ [[{ cls := 0, slot := 0, id := 3 }], [{ cls := 13, slot := 3, id := 2, deadline := 6000 },
        { cls := 2, slot := 8, id := 4, deadline := 5999 }], [({ cls := 7, slot := 2, id := 5, nc := true, deadline := 9000 } : Job)]],
      let s := waiting 0 l
      s.corePresent 0 = true ∧ (s.core 0).run = none ∧ (s.core 0).st = .running ∧ s.nextJob 0 = l.getLast? ∧
        ((s.core 0).image = some image ∧ ∀ j ∈ l, (image.slot j.slot).isSome = true ∧ j.rerun = false)) ∧
    (waiting 0 [{ cls := 1, slot := 1, id := 3, rerun := true }]).nextJob 0 = some { cls := 1, slot := 1, id := 3, rerun := true } ∧
    (let s := waiting 8 []; s.corePresent 8 = true ∧ (s.core 8).run = none ∧ (s.core 8).st = .running ∧ s.nextJob 8 = none) := by
  decide +kernel

theorem witness_TimersAndIntervals :
    (let s := ready.modCore 0 fun C => { C with timers := C.timers.set 0 { expiry := some 5000 } }; let C := s.core 0
     s.corePresent 0 = true ∧ C.timers[0].expiry = some 5000 ∧ 5000 ≤ s.us ∧ C.timers[0].last = none ∧
      C.image = some image ∧ image.critical 0x10 = true ∧ C.st = .running ∧ C.slotFor 0x10 none = some 4) ∧
    (let s := ready.modCore 0 fun C => { C with timers := C.timers.set 0 { expiry := some 5000, last := some (5000 - image.tmin 0x10) } }
     (s.core 0).timers[0].last = some (5000 - image.tmin 0x10) ∧ 5000 - image.tmin 0x10 + image.tmin 0x10 ≤ s.us) ∧
    ((ready.core 8).timers[7]).expiry = none ∧ ready.corePresent 8 = true ∧
    (let s := ready.modCore 8 fun C => { C with timers := C.timers.set 7 { expiry := some 5001 } }
     ((s.core 8).timers[7]).expiry = some 5001 ∧ s.us < 5001) ∧
    (∀ x ∈ [none, some 5], let s := ready.modCore 0 fun C => { C with coal := [{ cls := 3, latched := x }] }; let C := s.core 0
     (C.coal.find? fun y => decide (y.cls = 3)) = some { cls := 3, latched := x } ∧ C.st = .running ∧ C.slotFor 3 none = some 9) ∧
    (let r : Raised := { cls := 0x10, arg := 0 }
     let s := ready.modCore 0 fun C => { C with reoffer := [r] }; let C := s.core 0
     (C.reoffer.find? fun r => decide (r.cls = 0x10)) = some r ∧ C.ncCode s.now r none = 0) := by
  refine ⟨by decide +kernel, by decide +kernel, by decide +kernel, by decide +kernel, by decide +kernel, fun x hx => ?_, by decide +kernel⟩
  simp only [List.mem_cons, List.not_mem_nil, or_false] at hx
  rcases hx with rfl | rfl <;> decide +kernel

theorem witness_PromisesAndPace :
    (let h : Handler := { hd with job := { hd.job with deadline := 4999 } }; let s := runs 0 h
     s.corePresent 0 = true ∧ (s.core 0).run = some h ∧ h.premove = false ∧ h.job.counted = false ∧ h.job.inRx = false ∧
      until' s.now h.job.deadline < 0 ∧ ∀ j ∈ (s.core 0).jobs, j.broken s.now = false) ∧
    (up.core 0).paceAlarm = false ∧ (249 : Half).toNat < 250 ∧ 250 ≤ (250 : Half).toNat ∧ 260 ≤ (260 : Half).toNat ∧
    (let C := (up.modCore 0 fun C => { C with paceAlarm := true, paceGood := 99 }).core 0; C.paceAlarm = true ∧ C.paceGood = 99) := by
  decide +kernel

/-- Port 0 of `src`, with every core ready and its link changed by f. -/
def link (f : Phy → Phy) : State := ({ ready with ports := src.ports }).modPd 0 fun d => f { d with qsctl := 0, ctl := 0x12 }

/-- The frame under reception that early decode of a 4-byte SOP message leaves. -/
def rxf : RxFrame := { sop := .sop, hdr := 0x1042, rate := 300, time := 4933, slot := true, early := true }

/-- A received frame that continues rxf. -/
def rxd (good : Bool) : Frame := { sop := .sop, hdr := 0x1042, ext := 0, data := [1, 2, 3, 4], crcGood := good, rate := 300 }

theorem witness_EarlyDecodeReservesASlot :
    (∀ rate ∈ [270, 330], ∀ n ∈ [0, 7, 8], let s := (link id).modQ 0 0 fun q => { q with ents := List.replicate n (entry 1) }
      RxReady s 0 .sop rate ∧ isGoodCrc 0x1042 = false ∧ (s.port 0).pd.rx = none ∧ (s.port 0).pd.lastEarly = none ∧
        (s.queue 0 (rxQ .sop)).ents.length = n ∧ (s.queue 0 (rxQ .sop)).freed = none ∧
        ((s.core 0).image.bind fun im => chooseSlot im 1 (some (.sop, 0x1042))) ≠ none ∧ (s.core 0).slotFor 1 (some (.sop, 0x1042)) = some 1 ∧
        (s.core 0).st = .running) ∧
    (let s := (link fun d => { d with lastEarly := some 4524 }).modQ 0 0 fun q => { q with freed := some 4934 }
     (s.port 0).pd.lastEarly = some 4524 ∧ 4524 + 476 ≤ s.us ∧ (s.queue 0 (rxQ .sop)).freed = some 4934 ∧ s.us - (20000 + 300 / 2) / 300 < 4934) ∧
    (let C := (link id).core 0; (C.image.bind fun im => chooseSlot im 1 (some (.sop, 0x1043))) = none ∧ C.st = .running) ∧
    (((link id).modCore 0 fun C => { C with st := .loading }).core 0).st ≠ .running := by
  simp only [RxReady]; decide +kernel

theorem witness_FramesUnderReception :
    (let s := link id; s.ppOn 0 = true ∧ (s.port 0).pd.rx = none) ∧
    (let s := link fun d => { d with rx := some rxf }; (s.port 0).pd.rx = some rxf ∧ s.premove 0 = none ∧ rxf.slot = true) ∧
    (let s := { (link fun d => { d with rx := some rxf }) with cores := (runs 0 hp).cores }
     (s.port 0).pd.rx = some rxf ∧ s.premove 0 = some hp) ∧
    rxf.data <+: List.replicate 28 (1 : Byte) ∧ (List.replicate 28 (1 : Byte)).length ≤ (if hdrExt rxf.hdr then 26 else 28) ∧
    (let s := (link fun d => { d with reoffer := [(.sop, 1), (.sop, 3)] }).modQ 0 0 fun q => { q with ents := [entry 1, entry 3] }
     let t := s.modCore 0 fun C => { C with awaits := [(2, 8)] }
     (t.port 0).pd.reoffer = (.sop, 1) :: [(.sop, 3)] ∧ ((t.queue 0 (rxQ .sop)).ents.find? fun e => decide (e.seq = 1)) = some (entry 1) ∧
      (∀ z ∈ ([(.sop, 3)] : List (Sop × Byte)), ∃ e ∈ (t.queue 0 (rxQ z.1)).ents, e.seq = z.2) ∧ (t.core 0).st = .running ∧
      (t.core 0).slotFor 2 (some (.sop, (entry 1).hdr)) = some 8) := by decide +kernel

theorem witness_FramesAreAccepted :
    (∀ g : Bool, ∀ n ∈ [0, 7], let s := (link fun d => { d with rx := some rxf }).modQ 0 0 fun q => { q with ents := List.replicate n (entry 1) }
      let f := rxd g
      RxReady s 0 rxf.sop f.rate ∧ (s.port 0).pd.rx = some rxf ∧ rxf.slot = true ∧ rxf.again = none ∧ f.sop = rxf.sop ∧
        f.hdr = rxf.hdr ∧ rxf.data <+: f.data ∧ s.premove 0 = none ∧ f.crcGood = g ∧ (s.port 0).pd.isDup rxf.sop (hdrId rxf.hdr) = false ∧
        (s.queue 0 (rxQ rxf.sop)).ents.length < 8) ∧
    (let s := link fun d => { d with rx := some rxf, rxVal := d.rxVal.set 0 true }
     (s.port 0).pd.isDup rxf.sop (hdrId rxf.hdr) = true) ∧
    ((link fun d => { d with crcDue := some (.sop, 0x41) }).port 0).pd.crcDue = some (.sop, 0x41) := by
  simp only [RxReady]; decide +kernel

theorem witness_TransmissionsEnd :
    (∀ k ∈ ([1, 3, 5] : List (Fin 8)), let e : Entry := { st := .pending, hdr := 0x1042, len := 4, seq := 9 }
      let s := ((link fun d => { d with ctl := 0xD2 }).modTc 0 fun t => { t with vconn := true }).modQ 0 k fun q => { q with ents := [e] }
      let d := (s.port 0).pd
      s.ppOn 0 = true ∧ s.nextTx 0 = some (k, e) ∧ (s.queue 0 k).ents = e :: [] ∧ s.linkUp = true ∧ d.rx = none ∧ d.tx = none ∧
        d.crcDue = none ∧ d.bistCar = false ∧ d.hrPend = false ∧ d.crPend = false ∧ (s.port 0).tc.attached = true ∧
        (s.port 0).sopEnabled (qSop k) = true ∧ e.lengthOk = true ∧ isSoftReset e.hdr = false ∧ (s.queue 0 k).ready = some e) ∧
    (∀ a : Bool, ∀ n ∈ [0, 1, 2], let b : TxBusy := { sop := .sop, tries := n, id := 7, await := a }
      let s := (link fun d => { d with tx := some b }).modQ 0 1 fun q => { q with ents := full }
      (s.port 0).pd.tx = some b ∧ b.await = a ∧ (s.port 0).sopEnabled b.sop = true ∧ (s.queue 0 (txQ b.sop)).ents = entry 3 :: full.tail ∧
        full.tail.length < 8 ∧ (b.tries < (s.port 0).pd.retries ↔ n < 2) ∧ ((s.port 0).pd.retries ≤ b.tries ↔ n = 2)) := by
  decide +kernel

theorem witness_LinkAndQueueCommands :
    (let s := link id; s.ppOn 0 = true ∧ (s.port 0).tc.st = .attachedSrc ∧ s.regsUp = true ∧ s.present 0 = true ∧
      (s.port 0).tc.attached = true) ∧
    (snk.ppOn 0 = true ∧ (snk.port 0).tc.st = .attachedSnk ∧ (snk.port 0).tc.activeCc = .rp30) ∧
    (let s := ((link fun d => { d with amsOpen := true }).modCt 0 fun c => { c with pd3 := true })
     (s.port 0).pd.amsOpen = true ∧ (s.port 0).ct.pd3 = true) ∧
    (up.port 0).tc.attached = false ∧
    (let s := (link id).modQ 0 6 fun q => { q with ents := full }
     8 ≤ (s.queue 0 6).ents.length ∧ (s.port 0).pd.qsctl.toNat / 4 % 4 ≠ 2) ∧
    (let s := (link id).modQ 0 6 fun q => { q with ents := full.tail }; (s.queue 0 6).ents.length < 8 ∧
      (s.core (fileCore 0)).ncCode s.now { cls := 7, arg := (s.queue 0 6).seq.setWidth 32, queue := 6, seq := (s.queue 0 6).seq } none = 0) ∧
    (∀ x : Fin 2, let s := (link id).modQ 0 7 fun q => { q with ents := [entry 0], expseq := BitVec.ofNat 8 x.val }
     (s.port 0).pd.qsctl.getLsbD 0 = false ∧ (s.queue 0 7).ents = entry 0 :: [] ∧
      (x = 0 → (entry 0).seq = (s.queue 0 7).expseq) ∧ (x = 1 → (entry 0).seq ≠ (s.queue 0 7).expseq)) := by decide +kernel

theorem witness_ResetsAndBist :
    (src.ppOn 0 = true ∧ src.linkUp = true ∧ (src.port 0).tc.attached = true ∧ src.regsUp = true ∧ src.present 0 = true) ∧
    (let d := (src.modPd 0 fun d => { d with hrPend := true, cmd := { cmd := 0x48, cst := 3 } }).port 0
     d.pd.hrPend = true ∧ d.pd.rx = none ∧ d.pd.cmd.cmd = 0x48) ∧
    (let s := { src with phase := .waitVio }; s.ppOn 0 = true ∧ s.linkUp = false ∧ (s.port 0).tc.attached = true ∧ (s.port 0).pw.lid = false) ∧
    (let d := ((src.modPd 0 fun d => { d with crPend := true }).port 0).pd
     d.crPend = true ∧ d.rx = none ∧ d.tx = none ∧ d.crcDue = none ∧ d.bistCar = false) ∧
    ((src.modPd 0 fun d => { d with bistCar := true }).port 0).pd.bistCar = true ∧
    (up.regsUp = true ∧ up.present 0 = true ∧ (up.port 0).tc.attached = false) ∧
    ((src.modTc 0 fun t => { t with vconn := true }).port 0).tc.vconn = true ∧
    (let P := ((src.modPd 0 fun d => { d with hrwait := true }).modCt 0 fun c => { c with hrseq := .doneWait }).port 0
     P.pd.hrwait = true ∧ P.ct.hrseq = .doneWait ∧ P.tc.attached = true) := by decide +kernel

/-! ### Type-C, commits, contracts -/

/-- Port 0 of `up` in Type-C state x with the terminations seen on its pins; `ctl` is Pn_TC_CTL. -/
def typec (x : TcState) (a b : Term) (ctl : Half) (f : Tc → Tc) : State :=
  up.modTc 0 fun t => f { t with st := x, cc1 := a, cc2 := b, ctl }

theorem witness_CcPinEvents :
    up.tcOn 0 = true ∧
    (∀ x ∈ [(200, Term.rpDef), (659, .rpDef), (660, .rp15), (1229, .rp15), (1230, .rp30), (6000, .rp30)],
      let T := ((typec .unattachedSnk .openT .openT 0x2200 fun t => { t with pres := .rd }).port 0).tc
      T.reads .cc1 = true ∧ x.1 ≤ 6000 ∧ T.shown .cc1 = .rd ∧
        x.2 = (if x.1 < 200 then .openT else if x.1 < 660 then .rpDef else if x.1 < 1230 then .rp15 else .rp30) ∧
        T.st = .unattachedSnk ∧ x.2.isRp = true ∧ T.discWait = false ∧ T.st ≠ .disabled ∧ T.st ≠ .errorRecovery) ∧
    (up.port 0).tc.shown .cc2 = .deadRd ∧
    (∀ rp : Fin 3, let T := ((typec .unattachedSrc .openT .openT 0x2201 fun t => { t with pres := .rp, rp }).port 0).tc
      T.st = .unattachedSrc ∧ T.discWait = false ∧ T.shown .cc2 = .rp ∧ T.rp = rp ∧ T.reads .cc2 = true) ∧
    (src.port 0).tc.st = .attachedSrc ∧
    (let T := ((typec .unattachedSnk .openT .openT 0x2200 fun t => { t with iso1 := true }).port 0).tc; T.reads .cc1 = false) ∧ 6000 < 6001 := by
  decide +kernel

theorem witness_TypecTimers :
    (∀ b : Bool, let T := ((typec .attachWaitSrc .rd .openT (if b then 0x2201 else 0x0201) id).port 0).tc
      T.st = .attachWaitSrc ∧ T.rdPins = 1 ∧ T.ctl.getLsbD 13 = b ∧ T.ctl.toNat / 16 % 4 ≠ 2) ∧ 799 < 800 ∧
    (let T := ((typec .attachWaitSnk .openT .rpDef 0x2200 fun t => { t with snkDry := true }).port 0).tc
     T.st = .attachWaitSnk ∧ T.rpPins = 1 ∧ T.snkDry = true ∧ T.ctl.toNat / 16 % 4 ≠ 1) ∧
    (let T := ((typec .attachWaitSnk .rp15 .rp30 0x2200 id).port 0).tc; T.st = .attachWaitSnk ∧ T.rpPins = 2) ∧
    (let T := ((typec .attachWaitSnk .openT .openT 0x2200 id).port 0).tc; T.st = .attachWaitSnk ∧ T.rpPins = 0 ∧ T.ctl.toNat % 4 = 0) ∧
    (let T := ((typec .attachWaitSrc .ra .openT 0x2201 id).port 0).tc; T.st = .attachWaitSrc ∧ T.rdPins = 0 ∧ T.ctl.toNat % 4 = 1) ∧
    (let T := ((typec .trySnk .rp30 .openT 0x2212 fun t => { t with tryOver := true }).port 0).tc
     T.st = .trySnk ∧ T.rpPins = 1 ∧ T.tryOver = true) ∧
    (let T := ((typec .trySrc .openT .rd 0x2222 id).port 0).tc; T.st = .trySrc ∧ T.rdPins = 1) ∧
    (∀ x ∈ [TcState.unattachedSnk, .unattachedSrc], let T := ((typec x .openT .openT 0x2202 id).port 0).tc
      T.st = x ∧ T.ctl.toNat % 4 = 2 ∧ T.discWait = false ∧ T.rpPins = 0 ∧ T.rdPins = 0) ∧
    ((typec .unattachedSnk .openT .openT 0x2202 fun t => { t with discWait := true }).port 0).tc.discWait = true ∧
    ((typec .unattachedSnk .openT .openT 0x2200 id).port 0).tc.ctl.toNat % 4 ≠ 2 ∧
    (∀ x ∈ [TcState.trySnk, .trySrc, .tryWaitSrc], let T := ((typec x .openT .openT 0x2202 id).port 0).tc
      T.st = x ∧ T.rpPins = 0 ∧ T.rdPins = 0) := by decide +kernel

theorem witness_AttachAndDetach :
    src.tcOn 0 = true ∧
    (let T := ((src.modTc 0 fun t => { t with cc1 := .openT }).port 0).tc; T.st = .attachedSrc ∧ T.activeCc ≠ .rd) ∧
    (let P := snk.port 0; P.tc.st = .attachedSnk ∧ P.ct.swap = .none ∧ P.ct.hrseq = .none) ∧
    (let P := src.port 0; P.tc.st = .attachedSrc ∧ P.ct.swap = .none ∧ P.ct.hrseq = .none ∧ P.ct.moving = false ∧ P.pw.lid = false) ∧
    (let T := ((typec .attachWaitSrc .rd .ra 0x0201 fun t => { t with debounced := true }).port 0).tc
     T.st = .attachWaitSrc ∧ T.debounced = true ∧ T.rdPins = 1 ∧ T.ctl.getLsbD 13 = false ∧ T.ctl.toNat / 16 % 4 ≠ 2) ∧
    (let T := ((typec .attachWaitSnk .rp15 .openT 0x2200 fun t => { t with debounced := true, snkDry := true }).port 0).tc
     T.st = .attachWaitSnk ∧ T.debounced = true ∧ T.snkDry = true ∧ T.rpPins = 1 ∧ T.ctl.toNat / 16 % 4 ≠ 1) ∧
    (∀ b : Bool, let T := ((typec .errorRecovery .openT .openT 0x2200 fun t => { t with toDis := b }).port 0).tc
      T.st = .errorRecovery ∧ T.iso1 = false ∧ T.iso2 = false ∧ T.toDis = b ∧ T.ctl.toNat % 4 = 0 ∧ T.rpPins = 0) ∧
    (let s := src.modTc 0 fun t => { t with vconn := true }
     s.ppOn 0 = true ∧ s.aoOn = true ∧ s.present 0 = true ∧ (s.port 0).tc.vconn = true ∧ (0 : PortId).val / 4 = (0 : Fin 2).val ∧
      (0 : PortId).val / 4 ≠ (1 : Fin 2).val) := by decide +kernel

/-- The readings of a check whose pins all read z ohms, for a wet CC1 of z1. -/
def reading (z1 z : Nat) (left : Bool) : WetReading := { trial := [z1, z, z, z], z1 := [z1, z, z, z], z16 := [z1, z, z, z], passes := [], left }

theorem witness_WetChecks :
    (∀ k ∈ [(Check.source, TcState.wetCheck, (15 : BitVec 4)), (.sink, .attachWaitSnk, 14), (.commanded, .unattachedSrc, 15)],
      let s := typec k.2.1 .openT .openT 0x2200 fun t => { t with check := k.1, meas := k.2.2 }; let T := (s.port 0).tc
      s.tcOn 0 = true ∧ T.check ≠ .none ∧ T.gone = false ∧ T.st ≠ .wet ∧ T.override = false ∧
        (T.snkRole T.check = false ∨ T.ctl.getLsbD 14 = false) ∧
        wetVerdict T.meas (reading 0 0 false) (T.wetcfg.toNat / 256 * 5000) = some true) ∧
    (let s := typec .unattachedSnk .openT .openT 0x2200 fun t => { t with check := .commanded, asked := true, meas := 15 }; let T := (s.port 0).tc
     T.check = .commanded ∧ T.gone = false ∧ T.asked = true ∧ T.st ≠ .wet ∧ T.override = false ∧
      wetVerdict T.meas (reading 3000000 3000000 false) (T.wetcfg.toNat / 256 * 5000) = some false) ∧
    (let s := typec .unattachedSnk .openT .openT 0x6200 fun t => { t with check := .commanded, meas := 1 }; let T := (s.port 0).tc
     T.check = .commanded ∧ T.gone = false ∧ T.st = .unattachedSnk ∧ T.ctl.getLsbD 14 = true ∧
      wetVerdict T.meas (reading 0 3000000 false) (T.wetcfg.toNat / 256 * 5000) = some true) ∧
    (∀ b : Bool, let T := ((typec .wet .openT .openT 0x2200 fun t => { t with check := .recheck, gone := b }).port 0).tc
     T.check ≠ .none ∧ (T.gone = true ∨ (reading 0 0 (!b)).left = true)) ∧
    (let T := ((typec .wet .openT .openT 0x2200 id).port 0).tc; T.check = .none ∧ T.st = .wet) ∧
    (up.regsUp = true ∧ up.present 0 = true ∧ (up.port 0).tc.st = .unattachedSnk ∧ (up.port 0).tc.check = .none) ∧
    (typec .unattachedSrc .openT .openT 0x2201 id).regsUp = true ∧ (src.port 0).tc.st = .attachedSrc ∧
    (snk.port 0).tc.st = .attachedSnk := by decide +kernel

/-- n lies from lo to hi; FEDk_EW meets R287. -/
def within (lo n hi : Nat) : Bool := decide (lo ≤ n ∧ n ≤ hi)
def ewIn (w : Word) : Bool := decide (fld w 16 16 ≤ 60000 ∧ fld w 16 16 + fld w 0 8 * 100 ≤ 60000) && within 5 (fld w 0 8) 100

/-- A device at address 2 with its links up and an own extra lease of 10 W. -/
def leased (f : Fab → Fab) : State := ready.modFab fun b => f { b with
  addr := some 2, up := Vector.replicate 3 true, xin := 10000, xexp := 20000000, ftime := 5000000 }

theorem witness_CommitsAreJudged_ports :
    (up.regsUp = true ∧ up.present 0 = true) ∧
    (∀ x ∈ [((up : State), (0x2200 : Half), (0x0A01 : Half)), (up, 0x2422, 0xA078), (typec .attachedSnk .rp15 .openT 0x2200 fun t => { t with deadbat := true }, 0x2202, 0x2804),
        (src.modLdg fun l => { l with grant := l.grant.set 0 7500 }, 0x2240, 0x2804), (src.modLdg fun l => { l with grant := l.grant.set 0 15000 }, 0x2283, 0x2804)],
      let T := ((x.1.modTc 0 fun t => { t with ctlS := x.2.1, wetcfgS := x.2.2 }).port 0).tc
      let grant := x.1.ldg.grant[(0 : PortId)]
      x.1.regsUp = true ∧ x.1.present 0 = true ∧ fld T.ctlS 8 3 ≤ 4 ∧ fld T.ctlS 6 2 ≠ 3 ∧ fld T.ctlS 4 2 ≠ 3 ∧
        within 10 (fld T.wetcfgS 8 8) 160 ∧ within 1 (fld T.wetcfgS 0 8) 120 ∧ (fld T.ctlS 4 2 ≠ 0 → fld T.ctlS 0 2 = 2) ∧
        (fld T.ctlS 6 2 ≤ fld T.ctl 6 2 ∨ (fld T.ctlS 6 2 = 1 ∧ 7500 ≤ grant) ∨ 15000 ≤ grant) ∧
        (fld T.ctlS 0 2 = fld T.ctl 0 2 ∨ fld T.ctlS 0 2 = 3 ∨ T.st = .disabled ∨ T.st = .unattachedSnk ∨ T.st = .unattachedSrc ∨
          (T.st = .attachedSnk ∧ T.deadbat = true ∧ (fld T.ctlS 0 2 = 0 ∨ fld T.ctlS 0 2 = 2)))) ∧
    (let s := up.modTc 0 fun t => { t with ctlS := 0x2230 }; (s.port 0).tc.pend = true ∧ s.tcJudge 0 ≠ 0) ∧
    (let s := src.modCt 0 fun c => { c with convS := 60000 }; (s.port 0).ct.pend = true ∧ s.pdJudge 0 ≠ 0) ∧
    (∀ w ∈ [(up.port 0).pw, { (up.port 0).pw with limS := 0xFA0A01F4, cfgS := 0x3C643220, pgwS := 10 },
        { (up.port 0).pw with limS := 0xFA641F40, cfgS := 0x050102F0, pgwS := 100, ctl := 0x1401 }],
      within 20 (fld w.limS 24 8) 250 ∧ within 10 (fld w.limS 16 8) 100 ∧ within 500 (fld w.limS 0 16) 8000 ∧
        within 5 (fld w.cfgS 24 8) 60 ∧ within 1 (fld w.cfgS 16 8) 100 ∧ within 2 (fld w.cfgS 8 8) 50 ∧ within 2 (fld w.cfgS 4 4) 15 ∧
        within 10 (fld w.pgwS 0 8) 100 ∧
        12 * max (fld w.limS 0 16 * 100) (5000 * (100 + fld w.limS 16 8)) * w.rsns ≤ fld w.limS 24 8 * 10000000) ∧
    (let w := ((up.modPw 0 fun w => { w with limS := 0x3C1901F3 }).port 0).pw; w.pend = true ∧ w.judge ≠ 0) ∧
    (∀ x ∈ [(up.port 0).sp, { (up.port 0).sp with vminS := 4750, vmaxS := 9750, cfgS := 0x60013280, iclfsS := 500, rdropS := 1000 },
        { (src.port 0).sp with cfgS := 0x601E0083 &&& 0xFFFFFFF4 ||| ((src.port 0).sp.cfg &&& 0xB), rdropS := 7 }],
      within 1 (fld x.cfgS 16 8) 30 ∧ fld x.cfgS 8 8 ≤ 50 ∧ within 500 x.iclfsS.toNat 20000 ∧ x.rdropS.toNat ≤ 1000 ∧
        (x.cen = false ∨ (x.vminS = x.vmin ∧ x.vmaxS = x.vmax ∧ fld x.cfgS 0 2 = fld x.cfg 0 2 ∧ fld x.cfgS 3 1 = fld x.cfg 3 1 ∧
          x.iclfsS = x.iclfs)) ∧ x.vminS.toNat ≤ 4750 ∧ 5500 ≤ x.vmaxS.toNat ∧ x.vminS.toNat + 5000 ≤ x.vmaxS.toNat) ∧
    (let x := ((src.modSp 0 fun x => { x with iclfsS := 500 }).port 0).sp
     x.cen = true ∧ x.iclfsS ≠ x.iclfs ∧ 1 ≤ fld x.cfgS 16 8 ∧ fld x.cfgS 16 8 ≤ 30 ∧ fld x.cfgS 8 8 ≤ 50 ∧ x.rdropS.toNat ≤ 1000) ∧
    (∀ m ∈ [(src.port 0).mn, { (src.port 0).mn with ctlS := 0x80110001, trkS := 0x00640F0F, cfgS := 2, vlvlS := 0x27100FA0 }, { (src.port 0).mn with
        ctlS := 0x01880001, trkS := 0x00053219, cfgS := 4, ilvlS := 0x0EA61388 }],
      let P := { src.port 0 with mn := m }
      let ovp := fld m.vlvlS 16 16
      let uvp := fld m.vlvlS 0 16
      let ocp := fld m.ilvlS 16 16
      within 1 (fld m.ctlS 24 8) 128 ∧ within 1 (fld m.ctlS 20 4) 8 ∧ within 1 (fld m.ctlS 16 4) (fld m.ctlS 20 4) ∧
        1 ≤ fld m.ctlS 0 16 ∧ within 1000 ovp 60000 ∧ uvp ≤ 59000 ∧ within 100 ocp 50000 ∧ within 50 (fld m.ilvlS 0 16) 5000 ∧
        within 5 (fld m.trkS 16 8) 100 ∧ within 15 (fld m.trkS 8 8) 50 ∧ within 15 (fld m.trkS 0 8) 25 ∧
        (m.cfgS.getLsbD 1 = true → uvp + 1000 ≤ ovp ∧ winHi P.pw.pgwin P.ct.typ P.ct.conv.toNat < ovp * 1000 ∧
          uvp * 1000 < winLo P.pw.pgwin P.ct.typ P.ct.conv.toNat (P.foldback P.ms.i.toInt)) ∧
        (m.cfgS.getLsbD 2 = true → P.iLim ≤ ocp ∧ ocp ≤ P.pw.ocpCap)) ∧
    (let P := (up.modMn 0 fun m => { m with ctlS := 0 }).port 0; P.mn.pend = true ∧ P.mnJudge P.mn.staging ≠ 0) := by
  and_intros <;> decide +kernel

/-- Port 0 of s, a part with EPR allowed, with 240 W granted, no held record and the PD fields x staged; armed, a DRP. -/
def pdStaged (s : State) (concfgS : Word) (convS coniS frsS : Half) : State :=
  let t := ((s.modOtp fun o => { o with shadow := o.shadow.set 32 3 }).modLdg fun l => { l with grant := l.grant.set 0 240000 }).modCt 0 fun c =>
    { c with concfg := 0, conv := 0, coni := 0, concfgS, convS, coniS, frsS }
  t.modTc 0 fun x => { x with ctl := if frsS.getLsbD 7 then 0x2202 else x.ctl }

def pdCases : List State := [pdStaged src 0 0 0 0, pdStaged src 0x012100 5000 5000 0, pdStaged src 0x070100 20000 3000 0,
  pdStaged src 0x010200 3300 1 0, pdStaged src 0x070200 21000 0 0, pdStaged src 0x010300 9000 3000 0, pdStaged src 0x0BE400 48000 5000 0,
  pdStaged src 0x08C500 15000 1000 0, pdStaged snk 0x010100 9000 2000 0x0C80]

theorem witness_CommitsAreJudged_pdFields : ∀ s ∈ pdCases,
    let C := (s.port 0).ct
    let typ := fld C.concfgS 8 3
    let pos := fld C.concfgS 16 4
    let epr := C.concfgS.getLsbD 15
    let v := C.convS.toNat
    s.regsUp = true ∧ (C.frsS.getLsbD 7 = true → fld C.frsS 10 2 ≠ 0) ∧ pos ≤ 11 ∧
      ((typ = 0 ∧ v = 0) ∨ (typ = 1 ∧ within 1 pos 7 ∧ within 5000 v 20000 ∧ v % 50 = 0) ∨
        (typ = 2 ∧ within 1 pos 7 ∧ within 3300 v 21000 ∧ v % 20 = 0) ∨ (typ = 3 ∧ within 1 pos 7 ∧ within 9000 v 20000 ∧ v % 100 = 0) ∨
        (typ = 4 ∧ 8 ≤ pos ∧ epr = true ∧ (v = 28000 ∨ v = 36000 ∨ v = 48000)) ∨
        (typ = 5 ∧ 8 ≤ pos ∧ epr = true ∧ within 15000 v 48000 ∧ v % 100 = 0)) ∧ C.coniS.toNat ≤ 5000 := by
  decide +kernel

theorem witness_CommitsAreJudged_pdState : ∀ s ∈ pdCases,
    let T := (s.port 0).tc
    let C := (s.port 0).ct
    let grant := s.ldg.grant[(0 : PortId)]
    let typ := fld C.concfgS 8 3
    let epr := C.concfgS.getLsbD 15
    let cabEpr := C.concfgS.getLsbD 14
    let v := C.convS.toNat
    let i := C.coniS.toNat
    T.attached = true ∧ ((C.swap = .none ∧ C.hrseq = .none) ∨ typ = 0) ∧ (s.epren = false → typ < 4 ∧ epr = false ∧ v ≤ 21000) ∧
      (C.concfg.getLsbD 15 = true → 4 ≤ C.typ → C.typ ≤ 5 → epr = true) ∧
      (T.st = .attachedSrc → (i ≤ 3000 ∨ C.concfgS.getLsbD 13 = true) ∧ (v ≤ 21000 ∨ cabEpr = true) ∧ (epr = true → cabEpr = true) ∧
        v * i ≤ 1000 * grant) ∧
      (C.frsS.getLsbD 7 = true → fld T.ctl 0 2 = 2 ∧ T.st = .attachedSnk ∧ C.swap = .none ∧
        rpMw (fld C.frsS 10 2 - 1) + C.power ≤ grant) := by decide +kernel

theorem witness_CommitsAreJudged_fab :
    (∀ s ∈ [up, up.modFab fun f => { f with cfgS := 0x4000, timingS := 0x0280A011 }, up.modFab fun f => { f with cfgS := 0x2007, timingS := 0xFA3E8FAF }, leased fun f => { f with cfgS := 0x4007, lcapS := Vector.replicate 2 9 },
        up.modFab fun f => { f with cfgS := 0xC007 }],
      let F := s.fab
      let tm := F.timingS
      let n := F.staged
      fld F.cfgS 13 2 ≠ 3 ∧ within 10 (fld tm 22 10) 1000 ∧ within 5 (fld tm 13 9) 500 ∧ within 1 (fld tm 4 9) 500 ∧ within 1 (fld tm 0 4) 15 ∧
        fld tm 13 9 + 2 * fld tm 4 9 ≤ fld tm 22 10 ∧
        (F.cfgS.getLsbD 15 = F.cfg.getLsbD 15 ∨ (F.xin = 0 ∧ F.child[0].x = 0 ∧ F.child[1].x = 0)) ∧
        (∀ k : Fin 2, F.cfg.getLsbD (1 + k.val) = true → F.cfgS.getLsbD (1 + k.val) = false →
          F.up[(⟨1 + k.val, by omega⟩ : Fin 3)] = false ∧ F.child[k].x = 0) ∧
        (s.pAvail ≤ s.availWith n ∨ s.used ≤ s.availWith n) ∧
        (∀ k : Fin 2, F.lcap[k].toNat ≤ F.lcapS[k].toNat ∨ n.child[k].x + n.child[k].f ≤ F.lcapS[k].toNat)) ∧
    (let s := up.modFab fun f => { f with cfgS := 0x6007 }; s.fab.pend = true ∧ s.fabJudge ≠ 0) := by
  and_intros <;> decide +kernel

theorem witness_CommitsAreJudged_fed :
    (∀ s ∈ [up, up.modFed fun f => { f with cfgS := 0xC80A0107, lcfgS := 0x125C708A, f1 := { f.f1 with ewS := 0x00000005 }, f2 := { f.f2 with ewS := 0xC3500064 } }],
      let F := s.fed
      let n : Fed := { F.staged with ew := F.staged.ewHolds }
      let resume := (fld F.lcfgS 6 10 + fld F.lcfgS 0 6) * 100
      let v := min 12000 (resume - 500)
      let a := availOf (fld s.ldg.cfg 0 2) n.feedcap s.fab.term
      within 10 (fld F.cfgS 24 8) 200 ∧ within 10 (fld F.cfgS 16 8) 200 ∧ within 1 (fld F.cfgS 8 8) 100 ∧ ewIn F.f1.ewS ∧ ewIn F.f2.ewS ∧
        within 47 (fld F.lcfgS 16 16) 4700 ∧ within 80 (fld F.lcfgS 6 10) 450 ∧ within 10 (fld F.lcfgS 0 6) 63 ∧ resume < s.pins.vhv ∧
        24000000000 ≤ 8 * fld F.lcfgS 16 16 * (v * v - 25000000) ∧ (s.pAvail ≤ a ∨ s.used ≤ a)) ∧
    (let s := up.modFed fun f => { f with cfgS := 0xC9140A07 }; s.fed.pend = true ∧ s.fedJudge ≠ 0) := by
  and_intros <;> decide +kernel

theorem witness_CommitsAreJudged :
    (∀ x ∈ [((0x0000 : Nat), (0 : Nat)), (0x6401, 0), (0x1902, 10000)],
      let s := (up.modLdg fun l => { l with cfgS := BitVec.ofNat 16 x.1, grant := l.grant.set 0 x.2 }).modFab fun f =>
        { f with floor := BitVec.ofNat 32 x.2 }
      fld s.ldg.cfgS 0 2 ≠ 3 ∧ fld s.ldg.cfgS 8 8 ≤ 100 ∧ s.used ≤ availOf (fld s.ldg.cfgS 0 2) s.fed.feedcap s.fab.term) ∧
    (let s := up.modLdg fun l => { l with cfgS := 0x1903 }; s.ldg.cfgS ≠ s.ldg.cfg ∧ s.ldgJudge ≠ 0) ∧
    (∀ n ∈ [9, 10, 100, 101], let h := (up.modHbs fun h => { h with cfgS := BitVec.ofNat 16 (n * 256 + 2) }).hbs
      h.cfgS ≠ h.cfg ∧ h.cfgS.toNat / 256 = n) := by
  and_intros <;> decide +kernel

theorem witness_GuardsAndSwaps :
    (src.ppOn 0 = true ∧ src.regsUp = true ∧ src.present 0 = true ∧ (src.port 0).tc.st = .attachedSrc ∧ (src.port 0).ct.typ ≠ 2) ∧
    ((src.modCt 0 fun c => { c with moving := true }).port 0).ct.moving = true ∧
    ((src.modCt 0 fun c => { c with concfg := 0x200 }).port 0).ct.typ = 2 ∧
    ((src.modCt 0 fun c => { c with concfg := 0x8000 }).port 0).ct.concfg.getLsbD 15 = true ∧
    (∀ x ∈ [Swap.oldSource, .oldSink, .frSwap], ((src.modCt 0 fun c => { c with swap := x }).port 0).ct.swap ≠ .none) ∧
    (∀ s ∈ [src, snk], (s.port 0).tc.attached = true ∧ (s.port 0).ct.swap = .none ∧ (s.port 0).ct.hrseq = .none) ∧
    (up.port 0).tc.attached = false ∧ ((src.modCt 0 fun c => { c with hrseq := .before4 }).port 0).ct.hrseq ≠ .none ∧
    (let P := (snk.modCt 0 fun c => { c with swap := .oldSink }).port 0; P.ct.swap = .oldSink ∧ P.tc.st = .attachedSnk) ∧
    (∀ v ∈ [799, 800], let P := ((src.modCt 0 fun c => { c with swap := .oldSource }).modPw 0 fun w => { w with vbPin := v }).port 0
      P.ct.swap = .oldSource ∧ P.tc.st = .attachedSrc ∧ (P.pw.vbPin < 800 ↔ v = 799)) ∧
    (∀ b : Bool, ((src.modPd 0 fun d => { d with ctl := if b then 0x12 else 2 }).port 0).pd.ctl.getLsbD 4 = b) ∧
    ((src.modCt 0 fun c => { c with termed := true }).port 0).ct.termed = true ∧ (src.port 0).ct.termed = false := by decide +kernel

/-- Port 0 of `src` with its Hard Reset sequence in state x. -/
def hardReset (x : HrSeq) (attpr : Bool) : Port := (src.modCt 0 fun c => { c with hrseq := x, attpr, hrSrc := attpr, hrTurn := true }).port 0

theorem witness_FastSwapAndHardResetSequence :
    src.ppOn 0 = true ∧
    (∀ b : Bool, let P := (snk.modCt 0 fun c => { c with frs := if b then 0x80 else 0 }).port 0
      P.tc.attached = true ∧ P.ct.frs.getLsbD 7 = b) ∧
    (let P := (snk.modCt 0 fun c => { c with frs := 0x80, swap := .frSwap }).port 0
     P.ct.swap = .frSwap ∧ P.ct.frs.getLsbD 7 = true ∧ P.ct.frsSrc = false ∧ P.pw.pen = true ∧ P.pw.lid = false) ∧
    (∀ b : Bool, (hardReset .before4 b).ct.hrseq = .before4 ∧ (hardReset .before4 b).ct.hrStep3 = false ∧
      (hardReset .before4 b).ct.hrSrc = b ∧ (hardReset .vbWait b).ct.hrseq = .vbWait ∧ (hardReset .goWait b).ct.hrseq = .goWait ∧
      (hardReset .goWait b).ct.attpr = b) ∧ (hardReset .doneWait true).ct.hrTurn = true := by decide +kernel

/-! ### Power path, measurement, monitors -/

/-- The power path of port 0 of `src` changed by f. -/
def path (f : Pw → Pw) : State := src.modPw 0 f

theorem witness_TripsSetLid :
    src.ppOn 0 = true ∧ src.pschk 0 = false ∧ (src.port 0).pw.mode = .sourceOn ∧ (src.port 0).pw.limact = false ∧
      (src.port 0).pw.limOff ≠ some src.us ∧ (src.port 0).pw.dsc = false ∧ (src.port 0).ct.hrseq ≠ .before4 ∧ (src.port 0).ct.hrseq ≠ .vbWait ∧
      ((src.port 0).pw.tripUs ≠ some src.us ∧ (src.port 0).pw.before = none) ∧
    (let s := path fun w => { w with tripUs := some 4999, before := some (4999, {}) }
     (s.port 0).pw.tripUs ≠ some s.us ∧ (s.port 0).pw.before = some (4999, {}) ∧ 4999 ≠ s.us) ∧
    (∀ c ∈ [2, 12], let s := path fun w => { w with mode := .off, lid := true, tripUs := some 5000, trip := BitVec.ofNat 32 (256 * c) }
      (s.port 0).pw.tripUs = some s.us ∧ fld (s.port 0).pw.trip 8 8 = c ∧ 1 < c ∧ c ≤ 12) ∧
    (∀ t ∈ [none, some 4000], let s := (up.modMs 0 fun m => { m with visn := 4000 }).modPw 0 fun w => { w with hoAt := t }
      s.ppOn 0 = true ∧ s.pschk 0 = true) ∧
    (∀ v ∈ [21000, 21001], let s := (path fun w => { w with limact := true, ctl := 0x3201 }).modCt 0 fun c => { c with conv := BitVec.ofNat 16 v }
      (s.port 0).pw.limact = true ∧ (s.simmer 0 = true ↔ v = 21001)) ∧
    ((path fun w => { w with turn := .gateB }).port 0).pw.turn = .gateB ∧
    (let W := ((path fun w => { w with turn := .gateA }).port 0).pw; W.turn = .gateA ∧ W.limact = false) ∧
    ((snk.port 0).pw.mode = .idealDiode ∧ (snk.port 0).pw.revoff = false ∧ (snk.port 0).pw.limact = false ∧ (snk.port 0).pw.mode ≠ .off) ∧
    ((path fun w => { w with dscAct := true }).port 0).pw.dsc = true ∧
    (∀ x ∈ [HrSeq.before4, .vbWait], ((snk.modCt 0 fun c => { c with hrseq := x }).port 0).ct.hrseq = x) := by decide +kernel

theorem witness_PowerPathSteps :
    src.ppOn 0 = true ∧ src.aoOn = true ∧
    (let W := ((path fun w => { w with mode := .off, turn := .check }).port 0).pw; W.turn = .check) ∧
    ((path fun w => { w with turn := .gateB }).port 0).pw.turn = .gateB ∧
    (let W := ((path fun w => { w with turn := .gateA }).port 0).pw; W.turn = .gateA ∧ W.limact = false) ∧
    (∀ x ∈ [GateMode.off, .sourceOn], let W := ((path fun w => { w with mode := .off, holdoff := true, defer := x }).port 0).pw
      W.holdoff = true ∧ W.defer = x) ∧
    (∀ ma ∈ [3749, 3750], let W := (src.port 0).pw
      (W.ga = true ∨ W.gb = true) ∧ W.limact = false ∧ W.fastHold = false ∧ (src.iEff 0 100 ≤ ma ↔ ma = 3750) ∧ src.simmer 0 = false) ∧
    (let s := src.modCt 0 fun c => { c with conv := 28000 }; s.simmer 0 = true) ∧
    (∀ b : Bool, ∀ ma ∈ [3562, 3563], let s := (path fun w => { w with limact := true }).modMn 0 fun m => { m with out := if b then 2 else 0 }
      let P := s.port 0
      P.pw.limact = true ∧ P.pw.mode = .sourceOn ∧ P.pw.phase = .running ∧ P.mn.out.getLsbD 1 = b ∧
        (100 * ma < 95 * s.iEff 0 100 ↔ ma = 3562) ∧ P.pw.tripUs ≠ some s.us ∧ P.pw.before = none) ∧
    (let W := (snk.port 0).pw; W.mode = .idealDiode ∧ W.revoff = false ∧ W.faston = false ∧ W.mode ≠ .sourceOn) ∧
    (let W := ((snk.modPw 0 fun w => { w with revoff := true, ga := false }).port 0).pw
     W.mode = .idealDiode ∧ W.revoff = true ∧ W.holdoff = false) ∧
    ((up.modPw 0 fun w => { w with dscHw := true }).port 0).pw.dscHw = true := by decide +kernel

theorem witness_PathRegistersAndRamp :
    (src.regsUp = true ∧ src.present 0 = true ∧ src.ppOn 0 = true) ∧ Who.host ≠ .arbiter ∧ Who.file 0 ≠ .arbiter ∧
    (∀ b : Bool, let W := ((up.modPw 0 fun w => { w with lid := true, lidOk := b, ctl := 0x3200 }).port 0).pw
      W.lid = true ∧ W.pen = false ∧ W.lidOk = b) ∧
    (∀ v ∈ [19, 20, 80, 200, 201], let W := (up.port 0).pw
      W.mode = .off ∧ ((20 ≤ v ∧ v ≤ 200) ↔ (v = 20 ∨ v = 80 ∨ v = 200)) ∧
        (v ≤ 80 → limitOrderBad W.hslvl W.inrlim W.runmarg v = false)) ∧
    (let W := ((up.modPw 0 fun w => { w with lim := 0xF00A01F4 }).port 0).pw; limitOrderBad W.hslvl W.inrlim W.runmarg 200 = false) ∧
    (src.port 0).pw.mode ≠ .off ∧ (∀ v ∈ [8999, 9000], let X := ((src.modSp 0 fun x => { x with slewing := true, ramp := v }).port 0).sp
      X.slewing = true ∧ (X.ramp = X.vset ↔ v = 9000)) ∧ (src.port 0).sp.slewing = false ∧
    (∀ n ∈ [0, 1, 2], let P := ((src.modSp 0 fun x => { x with wait := n }).modMs 0 fun m => { m with last := [(9000, 0)] }).port 0
      P.trimCan = true ∧ P.sp.wait = n ∧ P.ms.last ≠ []) ∧ (up.port 0).trimCan = false := by decide +kernel

/-- A port sample of v mV, with uv uV across the sense resistor. -/
def sample (v : Nat) (uv : Int) : PortSample := { vb := v, sense := uv, visn := v, vgsa := 0, vgsb := 0, vdsa := 0, vdsb := 0 }

theorem witness_Measurements :
    up.aoOn = true ∧ up.regsUp = true ∧
    (∀ i ∈ [-100001, -5, 0, (5 : Int), 100001], ([sample 9000 i])[(0 : PortId).val]? = some (sample 9000 i) ∧ up.present 0 = true ∧
      (let a := Int.tdiv (max (-100000) (min 100000 i) * 10) (((up.port 0).pw.rsns : Nat) : Int)
       a ≤ 32767 ∧ -32768 ≤ a ∧ (0 < a ↔ 0 < i) ∧ (a < 0 ↔ i < 0))) ∧
    (∀ v ∈ [8550, 8549, 9450, 9451], let P := (path fun w => { w with pgCnt := 7, pgBad := 2 }).port 0
      (P.inWindow v 100 = true ↔ (v = 8550 ∨ v = 9450)) ∧ P.pw.limact = false ∧ P.pw.lid = false ∧ P.pw.pgn ≤ P.pw.pgCnt + 1 ∧
        P.pw.mode = .sourceOn ∧ P.pw.phase = .running ∧ 2 ≤ P.pw.pgBad) ∧ (snk.port 0).pw.revoff = false ∧
    39999 < fld (up.fed.feed .f1).ew 16 16 ∧
    ((up.modMs 0 fun m => { m with n := 1 }).port 0).ms.n ≠ 0 ∧ (up.port 0).ms.n = 0 ∧
    (∀ v ∈ [980, 981, 999, 1000], let l : List (List (Nat × Nat)) := [[(v, 1000)], [], [], []]
      l[(0 : Fin 4).val]? = some [(v, 1000)] ∧ ((98 * 1000 < 100 * v ∨ 100 * v < 1000) ↔ 981 ≤ v)) ∧
    (100 * 9 < 1000 ∧ ¬ 100 * 10 < 1000) ∧
    (∀ k : Fin 4, (up.ldg.thcfg[k]).getLsbD 0 = false) ∧
    (let s := up.modLdg fun l => { l with thcfg := Vector.replicate 4 0x28240001 }
     ∀ k : Fin 4, (s.ldg.thcfg[k]).getLsbD 0 = true ∧ fld s.ldg.thcfg[k] 16 8 < fld s.ldg.thcfg[k] 24 8) ∧
    (∀ x ∈ [(190, 186), (4, 0)], x.1 ≤ 190 ∧ x.2 + 4 ≤ x.1) ∧ 190 < 191 ∧ 189 < 186 + 4 ∧
    (2000 ≤ 2000 ∧ 2000 ≤ 6000 ∧ 100 ≤ 100 ∧ 100 ≤ 10000) ∧ 1999 < 2000 ∧ 6000 < 6001 ∧ 99 < 100 ∧ 10000 < 10001 := by decide +kernel

theorem witness_MonitorsAndSelfTest :
    (src.ppOn 0 = true ∧ src.regsUp = true ∧ src.present 0 = true ∧ (src.port 0).mn.testing = false ∧
      (src.port 0).mn.cfg.getLsbD 1 = false ∧ (src.port 0).ct.moving = false ∧ (src.port 0).pw.mode ≠ .off ∧
      (src.port 0).pw.tripUs ≠ some src.us ∧ (src.port 0).pw.before = none ∧ (up.port 0).pw.mode = .off) ∧
    (∀ x ∈ [(0, false), (0, true), (1, false)], let m := ((src.modMn 0 fun m => { m with per := x.1, begun := x.2 }).port 0).mn
      (m.per = 0 ∧ m.begun = false ↔ x = (0, false))) ∧
    (∀ n ∈ [19, 20], let m := ((src.modMn 0 fun m => { m with testing := true, stTick := n }).port 0).mn
      m.testing = true ∧ (m.stTick = 20 ↔ n = 20)) := by decide +kernel

/-! ### Ledger and fabric -/

theorem witness_LedgerCutsAndExpiries :
    (let s := up.modLdg fun l => { l with overdrawn := true, cutAt := some 5000, grant := l.grant.set 0 27000 }
     s.aoOn = true ∧ s.frozen = false ∧ s.ldg.overdrawn = true ∧ s.ldg.cutAt = some 5000 ∧ (s.now - 5000).toNat < 2 ^ 31) ∧
    up.ldg.overdrawn = false ∧
    (∀ d ∈ [0, 1], let F := (leased fun f => { f with xexp := BitVec.ofNat 64 (5000000 + tShedlead f.timing * 10000 + d) }).fab
      F.root = false ∧ F.shed = false ∧ 0 < F.xin ∧ (F.xexp.toNat ≤ F.ftime.toNat + tShedlead F.timing * 10000 ↔ d = 0)) ∧
    (∀ d ∈ [0, 1], let F := (leased fun f => { f with xexp := BitVec.ofNat 64 (5000000 + d) }).fab
      F.root = false ∧ 0 < F.xin ∧ (F.xexp.toNat ≤ F.ftime.toNat ↔ d = 0)) ∧
    (∀ d ∈ [0, 1], let F := (leased fun f => { f with child := f.child.set 0 { x := 5, exp := BitVec.ofNat 64 (5000000 + d) } }).fab
      0 < (F.child[(0 : Fin 2)]).x ∧ ((F.child[(0 : Fin 2)]).exp.toNat ≤ F.ftime.toNat ↔ d = 0)) ∧
    (let s := leased fun f => { f with txe := f.txe.set 0 { opn := true, amt := 5, at' := 5000 - BitVec.ofNat 32 (tTmo f.timing * 20000) } }
     (s.fab.txe[(0 : Fin 8)]).opn = true ∧
      (s.now - ((s.fab.txe[(0 : Fin 8)]).at' + BitVec.ofNat 32 (tTmo s.fab.timing * 20000))).toNat < 2 ^ 31 ∧
      (s.fab.txe[(1 : Fin 8)]).opn = false) := by decide +kernel

/-- Which of the frames of the witnesses R251 lets pass. -/
theorem witness_framesValid :
    (∀ t ∈ [1, 2, 3, 4, 5, 6, 7, 8, 9], ∀ d ∈ [0, 2, 5, 16382, 0x3FFF], frameValid (frame t d) = true) ∧
    (∀ n ∈ [3, 4], frameValid { frame 8 2 with payload := (BitVec.ofNat 8 n) :: List.replicate 11 0 ++ 1 :: List.replicate 9 0 } = true) ∧
    (∀ o ∈ [1, 2], ∀ n ∈ [0, 1, 16, 17], frameValid { frame 7 2 with payload := [BitVec.ofNat 8 o, BitVec.ofNat 8 n] ++ List.replicate 20 0 } = true) ∧
    (∀ st ∈ [0, 1, 2], frameValid { frame 7 0 with payload := [0x81, 1, 0, 0, BitVec.ofNat 8 st] ++ List.replicate 17 0 } = true) ∧
    (∀ x ∈ [frame 0 2, frame 10 2, frame 5 16384, { frame 5 2 with src := 16384 }], frameValid x = false) := by decide +kernel

/-- Seven frames in the output queue of each link. -/
def seven : Vector (List FFrame) 3 := Vector.replicate 3 (List.replicate 7 (frame 1 0))

theorem witness_LinksFramesAndTime :
    (let s := leased fun f => { f with up := Vector.replicate 3 false, txq := seven }
     s.regsUp = true ∧ s.fab.own ≠ none ∧ (∀ i : Fin 3, s.fab.up[i] = false ∧ (s.fab.txq[i]).length < 8) ∧
      s.fab.linkEn .u = true ∧ s.fab.linkEn .d0 = true) ∧
    (let s := leased fun f => { f with txq := seven }; let F := s.fab
     F.linkOn .u = true ∧ F.own = some 2 ∧ F.up[(0 : Fin 3)] = true ∧ (∀ i : Fin 3, (F.txq[i]).length < 8) ∧
      (∀ x ∈ [(2, FLink.u), (0, .u), (5, .d0), (6, .d1), (14334, .d0), (16382, .d1)], route x.1 2 = x.2 ∧ F.linkOn (route x.1 2) = true) ∧
      F.linkOn .d0 = true ∧ F.linkOn .d1 = true ∧ F.addr = some 2 ∧ F.root = false) ∧
    (let F := (leased fun f => { f with up := f.up.set 1 false, txq := f.txq.set 2 (List.replicate 8 (frame 1 0)) }).fab
     F.linkOn (route 5 2) = false ∧ 8 ≤ (F.txq[(route 6 2).idx]).length ∧ F.linkOn .d0 = false ∧ F.up[(1 : Fin 3)] = false) ∧
    ((frame 5 2).typ = 5 ∧ (up.fab.addr = none)) ∧ (frame 4 2).typ ≠ 5 ∧
    (∀ n ∈ [1, 2], let F := (leased fun f => { f with cand := 9, candN := n }).fab
      F.addr = some 2 ∧ (2 : BitVec 14) ≠ 9 ∧ F.cand = 9 ∧ (F.candN = 2 ↔ n = 2)) ∧
    (∀ t ∈ [none, some 3500, some 3499], let s := leased fun f => { f with ftGood := 63, timeAt := t }
      s.fab.ftGood = 63 ∧ s.fab.timeAt = t ∧ ((∀ u ∈ t, s.us ≤ u + 1500) ↔ t ≠ some 3499)) ∧
    (let F := (leased fun f => { f with cfg := 0xA007 }).fab; F.root = true ∧ F.ftime.toNat ≤ (5000000 : DWord).toNat ∧
      (4999999 : DWord).toNat < F.ftime.toNat) := by decide +kernel

/-- `leased` on the LEASE ledger of an unlimited feed, with amount 10 W commanded. -/
def lease (f : Fab → Fab) : State := (leased fun b => f { b with lamt := 10000, lexp := 9 }).modLdg fun l => { l with cfg := 0x1902 }

theorem witness_LeasesAndTransactions :
    (let s := lease fun f => { f with txq := seven }; let F := s.fab
     s.regsUp = true ∧ F.root = false ∧ F.linkOn .u = true ∧ F.own ≠ none ∧ (∀ i : Fin 3, (F.txq[i]).length < 8) ∧
      F.renewOut = false ∧ (∀ k : Fin 2, F.linkOn (dLink k) = true) ∧ F.own = some 2 ∧ (frame 3 2).dst.toNat % 2 ^ 14 = 2) ∧
    (lease fun f => { f with up := Vector.replicate 3 false }).fab.linkOn .u = false ∧
    (lease fun f => { f with renewOut := true }).fab.renewOut = true ∧
    (∀ n ∈ [3, 4], let F := (lease id).fab
      let x : FFrame := { frame 8 2 with payload := (BitVec.ofNat 8 n) :: List.replicate 11 0 ++ 1 :: List.replicate 9 0 }
      x.typ = 8 ∧ ofLe ((x.payload.drop 0).take 1) = n ∧ F.ackDead = false ∧ F.ftime.toNat < F.xexp.toNat ∧ F.shed = false ∧
        F.ftime.toNat + tShedlead F.timing * 10000 < ofLe ((x.payload.drop 6).take 8)) ∧
    (lease fun f => { f with ackDead := true }).fab.ackDead = true ∧
    (∀ n ∈ [7, 8], let s := lease fun f => { f with rxq := Vector.replicate 3 (List.replicate n (frame 1 2)) }
      (∀ i : Fin 3, ((s.fab.rxq[i]).length < 8 ↔ n = 7)) ∧
        ∀ l ∈ [FLink.u, .d0, .d1], (s.core arbiterId).ncCode s.now { cls := 0x22, arg := BitVec.ofNat 32 l.idx.val } none = 0) ∧
    (let s := lease fun f => { f with cfg := 0xA007 }; s.fab.root = true) ∧
    (let s := lease fun f => { f with shed := true }; s.fab.root = false ∧ s.fab.shed = true) ∧
    (let F := (lease fun f => { f with txe := Vector.replicate 8 { opn := true } }).fab
     F.shed = false ∧ ∀ e : Fin 8, (F.txe[e]).opn = true) ∧
    (∀ d ∈ [9999, 10000], let s := lease fun f => { f with lcap := Vector.replicate 2 (BitVec.ofNat 32 d) }; let F := s.fab
      F.shed = false ∧ F.freeTxe = some 0 ∧ (F.room F.llink < 10000 ↔ d = 9999)) ∧
    (∀ g ∈ [0, 40000], let s := (lease fun f => { f with floor := 100 }).modLdg fun l => { l with grant := l.grant.set 0 g }
     let F := s.fab
     let a := availOf (fld s.ldg.cfg 0 2) s.fed.feedcap (F.term - F.lamt.toNat)
     let b := s.availWith { F with xin := F.xin - F.lamt.toNat }
     ((10000 : Nat) : Int) ≤ F.room F.llink ∧ a < s.pAvail ∧ b < s.pAvail ∧ F.lamt.toNat ≤ F.xin ∧ (a < s.used ↔ g = 40000) ∧
      (b < s.used ↔ g = 40000) ∧ (s.used ≤ a ↔ g = 0)) ∧
    (let s := ((lease id).modLdg fun l => { l with cfg := 0x1901, grant := l.grant.set 0 40000 }); let F := s.fab
     s.pAvail ≤ availOf (fld s.ldg.cfg 0 2) s.fed.feedcap (F.term - F.lamt.toNat) ∧
      s.pAvail ≤ s.availWith { F with xin := F.xin - F.lamt.toNat } ∧ s.pAvail < s.used) ∧
    (∀ a ∈ [9999, 10000], ∀ b : Bool, let F := (lease fun f => { f with txe := f.txe.set 0 { opn := true, pass := b, amt := a } }).fab
      let e := F.txe[F.lentry]
      e.opn = true ∧ e.pass = b ∧ (e.amt < F.lamt.toNat ↔ a = 9999)) ∧
    ((lease id).fab.txe[(lease id).fab.lentry]).opn = false ∧ (lease fun f => { f with lamt := 10001 }).fab.xin < 10001 ∧
    (lease fun f => { f with lamt := 0 }).fab.lamt.toNat = 0 := by decide +kernel

theorem witness_TunnelAndActivationFrames :
    (∀ o ∈ [1, 2], ∀ n ∈ [0, 1, 16, 17], ∀ tun ∈ [0, 1, 2], let s := leased fun f => { f with cfg := BitVec.ofNat 16 (7 + tun * 8192) }
      let x : FFrame := { frame 7 2 with payload := [BitVec.ofNat 8 o, BitVec.ofNat 8 n] ++ List.replicate 20 0 }
      s.regsUp = true ∧ x.typ = 7 ∧ s.fab.linkOn .u = true ∧ s.fab.own = some 2 ∧ x.dst.toNat % 2 ^ 14 = 2 ∧ x.dst.toNat % 2 ^ 14 ≠ 0x3FFF ∧
        s.fab.tunLast = none ∧ ofLe ((x.payload.drop 0).take 1) = o ∧ ofLe ((x.payload.drop 1).take 1) = n ∧
        fld s.fab.cfg 13 2 = tun ∧ s.phase ≠ .halt) ∧
    (leased fun f => { f with up := Vector.replicate 3 false }).fab.linkOn .u = false ∧
    (∀ n ∈ [1, 16], ∀ o ∈ [1, 2], ∀ d ∈ [1, 2, 0, 0x3FFF],
      let F := (leased fun f => { f with cfg := 0xA007, topl := BitVec.ofNat 16 (o * 256 + n), tdst := BitVec.ofNat 16 d, txq := seven }).fab
      F.root = true ∧ F.tunRun = false ∧ F.topl.toNat % 256 = n ∧ F.topl.toNat / 256 = o ∧ F.tdst.toNat % 2 ^ 14 = d ∧
        ((d = 1 ∨ d = 2) → route d 0 ≠ .u ∧ F.linkOn (route d 0) = true ∧ (F.txq[(route d 0).idx]).length < 8)) ∧
    (leased fun f => { f with topl := 0x0111 }).fab.topl.toNat % 256 = 17 ∧ (leased id).fab.root = false := by decide +kernel

theorem witness_TunnelAndActivationFrames_replies :
    (∀ st ∈ [0, 1, 2], let s := leased fun f => { f with cfg := 0xA007, tunRun := true, topl := 0x0101, ttag := 5 }
      let x : FFrame := { frame 7 0 with payload := [0x81, 1, 0, 0, BitVec.ofNat 8 st] ++ List.replicate 17 0 }
      x.typ = 7 ∧ s.upd.relay = none ∧ s.fab.root = true ∧ s.fab.tunRun = true ∧ s.fab.own = some 0 ∧ x.dst.toNat % 2 ^ 14 = 0 ∧
        x.tag = s.fab.ttag ∧ ofLe ((x.payload.drop 0).take 1) = s.fab.topl.toNat / 256 + 128) ∧
    (∀ n ∈ [7, 8], let s := (leased fun f => { f with rxq := f.rxq.set 0 (List.replicate n (frame 1 2)), txq := seven }).modUpd fun u => { u with sched := true, schTime := 7 }
      let x := frame 6 0x3FFF
      x.typ = 6 ∧ s.fab.linkOn .u = true ∧ x.dst.toNat % 2 ^ 14 = 0x3FFF ∧ ((s.fab.rxq[0]).length < 8 ↔ n = 7) ∧ s.fab.linkOn .d0 = true ∧
        s.fab.linkOn .d1 = true ∧ (s.fab.txq[1]).length < 8 ∧ (s.fab.txq[2]).length < 8 ∧
        (s.core arbiterId).ncCode s.now { cls := 0x22, arg := 0 } none = 0 ∧ s.updCond false = 0 ∧ s.upd.trial = false ∧
        s.upd.sched = true ∧ s.upd.schTime.toNat ≠ ofLe ((x.payload.drop 0).take 8)) := by decide +kernel

/-! ### Feeds, flag units, recovery -/

/-- `up` with its feeds enabled and changed by f. -/
def feeds (f : Fed → Fed) : State := up.modFed fun b => f { b with cfg := 0x14140A03 }

/-- A save that writes an empty record. -/
def saving : Saving := { cause := .v5, record := [], vholdS := 11000 }

theorem witness_FeedsAndLarder :
    (let f := (feeds id).fed; (feeds id).aoOn = true ∧ ∀ k ∈ [Feed.f1, .f2],
      f.fen k = true ∧ (f.feed k).revoff = false ∧ (f.feed k).warn = false ∧ (f.feed k).good = false ∧ f.ewAll = false ∧ f.ew = false ∧
        (f.feed k).on = false) ∧
    (let w := (up.fed.feed .f1).ew
     let thr := fld w 16 16
     let hyst := fld w 0 8
     let slope := fld w 8 8
     (∀ fin ∈ [41999, 42000], (thr + 100 * hyst ≤ fin ↔ fin = 42000)) ∧
     (∀ x ∈ [(40000, 42000), (39999, 39999), (40000, 42001), (40001, (40001 : Nat))],
       (((thr ≠ 0 ∧ x.1 < thr) ∨ (slope ≠ 0 ∧ slope * 100 < x.2 - x.1)) ↔ (x = (39999, 39999) ∨ x = (40000, 42001)))) ∧
     (∀ x ∈ [(42000, 2000), (42000, 2001), (41999, (0 : Nat))],
       ((thr + 100 * hyst ≤ x.1 ∧ ¬ ((thr ≠ 0 ∧ x.1 < thr) ∨ (slope ≠ 0 ∧ slope * 100 < x.2))) ↔ x = (42000, 2000)))) ∧
    ((feeds fun f => { f with cfg := 0x14140A04 }).fed.fen .f1 = false ∧ (feeds fun f => { f with cfg := 0x14140A04 }).fed.ewAll = true) ∧
    (feeds fun f => { f with ew := true }).fed.ew = true ∧ (feeds fun f => { f with f2 := { f.f2 with warn := true } }).fed.f2.warn = true ∧
    (∀ b : Bool, (feeds fun f => { f with lowE := b }).fed.lowE = b) ∧
    (∀ b : Bool, let s := feeds fun f => { f with armed := b }; s.canSave = true ∧ s.regsUp = true ∧ s.fed.armed = b) ∧
    (∀ x ∈ [DevPhase.unpowered, .startMode, .saving, .parked], ({ up with phase := x }).canSave = false) ∧
    ((feeds fun f => { f with saving := some saving }).fed.saving = some saving ∧ up.fed.saving = none) ∧
    (∀ n ∈ [none, some 0, some 32768], let s := ({ up with phase := .parked }).modFed fun f => { f with park := n }
      s.phase = .parked ∧ s.fed.park = n ∧ ∀ v ∈ [39999, 40000], ((fld s.fed.lcfg 6 10 + fld s.fed.lcfg 0 6) * 100 ≤ v ↔ v = 40000)) ∧ 4999 < 5000 ∧ up.phase ≠ .parked := by decide +kernel

/-- A unit of core 0 that armed at 4000, in the state x given, with slot 0 and slot 7 enabled; `t` is its tick. -/
def unit (x : FlagSt) (t : Nat) (f : FlagUnit → FlagUnit) : State := (({ up with us := 4000 + t }).modFlg fun F => { F with unit := 0 }).modUnit 0
  fun u => f { u with st := x, enabled := 0x0081, armNow := 4000, pstart := 0 }

theorem witness_FlagUnitsFallAndCount :
    up.aoOn = true ∧ up.dbgLock = false ∧ (up.modOtp fun o => { o with shadow := o.shadow.set 96 2 }).dbgLock = true ∧
    (∀ t ∈ [0, 1, 39999, 40000], let s := unit .first t id; let r := s.flg.units[0].roll (s.unitTick 0)
      r.armed = true ∧ r.proxyoff = false ∧ r.enabled.getLsbD 7 = true ∧ r.done.getLsbD 7 = false ∧ r.open' ≤ r.since (s.unitTick 0) ∧
        r.st ≠ .fallen ∧ (r.isLate (s.unitTick 0) = true ↔ t = 40000)) ∧
    (∀ t ∈ [1249, 1250], let s := (unit .running t id).modFlg fun F => { F with proxies := [(0, 0)] }
      let r := s.flg.units[0].roll (s.unitTick 0)
      s.pending = [] ∧ s.upd.step ≠ .files ∧ s.dbgLock = false ∧ r.proxyoff = false ∧ r.done.getLsbD 0 = false ∧ s.flg.proxies = [(0, 0)] ∧
        r.armed = true ∧ r.isLate (s.unitTick 0) = false ∧ r.enabled.getLsbD 0 = true ∧ (r.since (s.unitTick 0) < r.open' ↔ t = 1249)) ∧
    (∀ c ∈ [4, 5], let s := unit .fallen 40000 fun u => { u with lastCause := BitVec.ofNat 8 c, fellUs := some 44000, fellTick := 40000, fellSt := .first }
      let r := s.flg.units[0].roll (s.unitTick 0)
      r.fellIn s.us (s.unitTick 0) = true ∧ r.asFell.isLate (s.unitTick 0) = true ∧ (4 < r.lastCause.toNat ↔ c = 5)) ∧
    (let s := unit .fallen 5 id; (s.flg.units[0].roll (s.unitTick 0)).armed = false ∧ s.flg.units[0].armed = false) ∧
    (let s := unit .disarmed 5 id; let r := s.flg.units[0].roll (s.unitTick 0); r.armed = false ∧ r.st ≠ .fallen ∧ s.flg.units[0].st ≠ .fallen) ∧
    (∀ m ∈ [0, 2, 3], let u := (unit .running 5 fun u => { u with misses := m }).flg.units[0]; u.armed = true ∧ (3 ≤ u.misses ↔ m = 3)) ∧
    (let s := unit .running 5 id; s.regsUp = true ∧ s.flg.unit.toNat = (0 : CoreId).val ∧ s.corePresent 0 = true ∧ (s.flg.units[0].roll (s.unitTick 0)).armed = true) ∧
    (∀ l ∈ [[9], [9, 9]], let s := (up.modRec fun r => { r with rung4 := .pulse }).modFlg fun F => { F with pulses := l }
      s.rcv.rung4 = .pulse ∧ (9 ∉ s.flg.pulses.erase 9 ↔ l = [9])) := by and_intros <;> decide +kernel

/-- The recovery block changed by f. -/
def rec (f : Rec → Rec) : State := ready.modRec f

theorem witness_RecoveryLadder_commands :
    (∀ p ∈ [0, 7], let s := rec fun r => { r with arg := BitVec.ofNat 8 p }
      s.regsUp = true ∧ s.rcv.arg.toNat = p ∧ s.phase ≠ .halt ∧
        ∀ q : PortId, q.val = p → s.present q = true ∧ s.rcv.fstop.getLsbD q.val = false ∧ s.rcv.stage[q] = .none) ∧
    (rec fun r => { r with fstop := 0x80 }).rcv.fstop.getLsbD 7 = true ∧ 8 ≤ (8 : Byte).toNat ∧
    (let s := rec fun r => { r with arg := 0 }; s.rcv.arg = 0 ∧ s.rcv.arb = .running ∧ s.phase ≠ .halt) ∧
    (let s := rec fun r => { r with arb := .restarting }; s.rcv.arb ≠ .running) ∧
    ((rec fun r => { r with arg := 0x3C }).rcv.arg = 0x3C ∧ (rec fun r => { r with arg := 0x3D }).rcv.arg ≠ 0x3C) ∧
    (∀ b : Bool, let s := rec fun r => { r with arg := 0x4B, cfg := if b then 0x3201 else 0x3200 }
     s.rcv.arg = 0x4B ∧ s.phase ≠ .halt ∧ s.rcv.cfg.getLsbD 0 = b ∧ ({ s with phase := .halt }).regsUp = true) ∧
    (∀ w ∈ [Who.host, .arbiter, .tunnel], w = .host ∨ w = .arbiter ∨ w = .tunnel) := by decide +kernel

theorem witness_RecoveryLadder :
    up.aoOn = true ∧
    (let s := rec fun r => { r with stage := r.stage.set 0 .stopped }; s.rcv.stage[(0 : PortId)] = .stopped ∧ s.rcv.stage[(1 : PortId)] ≠ .stopped) ∧
    (let s := (rec fun r => { r with stage := r.stage.set 0 .copying }).modUpd fun u => { u with fileImg := some image }
     s.rcv.stage[(0 : PortId)] = .copying ∧ s.upd.fileImg = some image ∧ (s.core (fileCore 0)).awaits = [] ∧
      ({ s.core (fileCore 0) with image := some image } : Core).slotFor 0 none = some 0 ∧ s.inSave = false ∧
      s.rcv.stage[(1 : PortId)] ≠ .copying) ∧
    (∀ n ∈ [2, 3], let s := rec fun r => { r with stage := r.stage.set 0 .starting, fileTimes := r.fileTimes.set 0 (List.replicate n 0), arb := .restarting, arbTimes := List.replicate n 0 }
      s.rcv.stage[(0 : PortId)] ≠ .none ∧ s.inSave = false ∧ s.rcv.arb = .restarting ∧
        ((recentTimes s.tmb.slow slow10s s.rcv.fileTimes[(0 : PortId)]).length < 3 ↔ n = 2) ∧
        ((recentTimes s.tmb.slow slow10s s.rcv.arbTimes).length < 3 ↔ n = 2)) ∧
    (let s := rec fun r => { r with rung4 := .wait }; s.rcv.rung4 = .wait ∧ s.inSave = false ∧
      ({ s with phase := .saving }).inSave = true ∧ ({ s with phase := .saving }).aoOn = true) ∧
    (up.phase ≠ .unpowered ∧ up.phase ≠ .startMode ∧ up.inSave = false ∧ 4 < 5) := by decide +kernel

/-! ### Start-up, OTP, position -/

/-- An image of three words that either loader accepts: its START handler is a NOP, a NOP and END. -/
def program : PImage :=
  let none' : HEntry := { entry := 0, cls := 0, flags := 0, msop := 0, mtype := 0, mindo := 0, tmin := 0, deadline := 0, declared := 0, reserved := false }
  { code := [0x04000000, 0x04000000, 0xC8000000], funcs := [{ entry := 0, len := 3, handler := true }]
    slots := { none' with flags := 1, declared := 3, deadline := 1000 } :: List.replicate 63 none', ncmax := 0, format := true }

theorem witness_StartingUp_program : (program.judge (some 3)).code = 0 ∧ (program.judge none).code = 0 ∧
    ({ image := some (program.loadedAt (some 3)) } : Core).slotFor 0 none = some 0 ∧
    ({ image := some program.loaded } : Core).slotFor 0 none = some 0 := by decide +kernel

/-- A stored image of `program` whose header gives CODEEND = 3. -/
def stored : Img := { hdr := List.replicate 0x28 0 ++ [3, 0, 0, 0] ++ List.replicate 212 0, body := [], pal := some program }

/-- `ready` with `stored` confirmed in slot 0 of the arbiter and of the file. -/
def booting (f : Upd → Upd) : State := ready.modUpd fun u => f { u with
  arb := { slots := #v[some stored, none], conf := some 0 }, file := { slots := #v[some stored, none], conf := some 0 } }

theorem witness_ArbiterRestart_digest : 
    let s := ((booting fun u => { u with digest := stored.digest }).modRec fun r => { r with arb := .restarting }).modCore 8 fun C => { C with image := none }
    s.aoOn = true ∧ s.rcv.arb = .restarting ∧ s.romPhase = false ∧ (s.core arbiterId).image = none ∧ s.inSave = false ∧ s.upd.step ≠ .arbiter ∧
      (s.core arbiterId).awaits = [] ∧ s.upd.bootSlot .arb = some 0 ∧ s.upd.readable .arb 0 = true ∧ s.upd.pal .arb = program ∧ s.arbCodeEnd = 3 ∧
      ((s.upd.booted .arb).map Img.digest) = some s.upd.digest := by
  and_intros <;> first | rfl | decide +kernel

theorem witness_ArbiterRestart_unreadable : let u := (booting id).upd
    u.bootSlot .arb = some 0 ∧ (∀ b ∈ [[], u.secs .arb 0], (u.found [] b).readable .arb 0 = true ∨ u.mirror = false) ∧
      (u.found [] []).readable .arb 0 = true ∧ (u.found (u.secs .arb 0) (u.secs .arb 0)).readable .arb 0 = false := by decide +kernel

theorem witness_StartingUp :
    (∀ x ∈ [DevPhase.unpowered, .live, .halt], let s := { up with phase := x }; s.phase ≠ .startMode ∧ s.inSave = false) ∧
    ({ up with phase := .startMode }).phase = .startMode ∧ ({ up with phase := .unpowered }).phase = .unpowered ∧
    (up.fitted 0 = true ∧ (up.fitted 7 = true ∨ up.fitted 7 = false)) ∧
    (up.pins.vioOk = true ∧ up.phase ≠ .unpowered) ∧
    (let s := up.modPins fun q => { q with vioOk := false }; s.pins.vioOk = false ∧ s.phase ≠ .waitVio ∧
      ({ s with phase := .waitVio }).otp.sensed = true) ∧
    (up.otp.sensed = true ∧ up.tmb.xtalen = true ∧ up.tmb.xtalfail = false ∧ up.tmb.mainsrc = false) ∧
    (up.modTmb fun t => { t with mainsrc := true }).tmb.mainsrc = true ∧
    (let s := State.reset; s.phase = .sense ∧ s.pins.vioOk = false ∧ s.otp.weakBits 15 = 0 ∧ s.otp.sealCode 15 ≠ 2 ∧
      s.otp.weakBits 0 = 0 ∧ s.otp.sealCode 0 ≠ 2) ∧
    (let s := { booting id with phase := .bootRom }; s.phase = .bootRom ∧ (s.core arbiterId).awaits = [] ∧ s.upd.pal .arb = program ∧
      s.arbCodeEnd = 3 ∧ (∀ b ∈ [[], s.upd.secs .arb 0], ((s.upd.slotRead .arb { bad0 := b, bad1 := b }).bootable .arb = true ↔ b = []))) ∧
    (let s := { booting id with phase := .fileStart }; s.phase = .fileStart ∧ s.upd.fileImg = none ∧ s.rcv.arb = .running ∧ s.upd.step = .none ∧
      s.upd.fallback = false ∧ s.upd.pal .file = program ∧ (s.upd.slotRead .file { bad0 := [], bad1 := [] }).bootable .file = true ∧
      (∀ p : PortId, (s.core (fileCore p)).awaits = []) ∧ s.present 7 = true ∧ s.rcv.fstop.getLsbD 7 = false) ∧
    (let s := ({ up with phase := .fileStart }).modUpd fun u => { u with fileImg := some program.loaded }
     s.phase = .fileStart ∧ s.upd.fileImg = some program.loaded ∧ s.rcv.devReset = false ∧ s.bootArg ≠ 2) := by decide +kernel

/-- The OTP controller of `up` changed by f. -/
def fuses (f : Otp → Otp) : State := up.modOtp f

theorem witness_OtpAndPosition :
    up.regsUp = true ∧ up.otp.ctrlflt = false ∧
    (∀ n ∈ [0, 0xFF, 0x100, 0x10F, 0x110], ∀ b : Bool, let o := (fuses fun o => { o with waddr := BitVec.ofNat 9 n, unlkArmed := b }).otp
      o.waddr.toNat = n ∧ o.running = none ∧ o.sensed = true ∧ o.unlkArmed = b ∧ o.sticky.getLsbD (waddrRegion o.waddr).val = false ∧
        o.lockf.getLsbD (waddrRegion o.waddr).val = false) ∧
    (fuses fun o => { o with running := some .readn }).otp.running ≠ none ∧
    (let o := (fuses fun o => { o with waddr := 0x50, sticky := 0x20, lockf := 0x20 }).otp
     o.sticky.getLsbD (waddrRegion o.waddr).val = true ∧ o.lockf.getLsbD (waddrRegion o.waddr).val = true) ∧
    (let s := fuses fun o => { o with waddr := 0xF0, data := 0xFFFFFFFF, unlkArmed := true }; let o := s.otp
     o.waddr.toNat / 16 ≠ 4 ∧ maj3 (o.cells[waddrIx o.waddr]).n &&& ~~~o.data = 0 ∧ 4750 ≤ s.pins.v5 ∧ 0 ≤ s.pins.dieT ∧ s.pins.dieT ≤ 85) ∧
    (∀ k ∈ [OtpCmd.readn, .reads, .program, .sealRegion], (fuses fun o => { o with running := some k }).otp.running = some k) ∧
    (let o := (fuses fun o => { o with runAddr := 0xF0, runData := 1 }).otp; let c := o.cells[waddrIx o.runAddr]
     (o.runData &&& ~~~((c.s[0]) &&& (c.s[1]) &&& (c.s[2]))) &&& 1 ≠ 0) ∧
    (∀ b : Bool, let s := { up with pos := { up.pos with busy := b, latchAt := if b then some 4999 else none } }
      s.pos.busy = b ∧ (s.pos.latchAt ≠ none ↔ b = true)) := by decide +kernel

/-- A blank array; with the completion word of region 15 programmed to the region's CRC when c. -/
def sealable (c : Bool) : Otp :=
  let o : Otp := {}
  if c then { o with cells := o.cells.set 271 { n := Vector.replicate 3 (regionCrc 0), s := Vector.replicate 3 (regionCrc 0) } } else o

theorem witness_OtpSeal : ∀ c : Bool, (sealable c).whole 15 = c := by decide +kernel

/-! ### Update, service port, host bus -/

/-- The update block of `ready` (energy good) changed by f. -/
def update (f : Upd → Upd) : State := (ready.modFed fun b => { b with lowE := false }).modUpd f

/-- A header of an arbiter image, version 1, for every part and step, key slot 0, of an empty body. -/
def header : List Byte := [0x49, 0x50, 1, 1] ++ List.replicate 4 0 ++ [1, 0, 0, 0] ++ List.replicate 244 0

/-- `update` with a header staged. -/
def staged (h : List Byte) (f : Upd → Upd) : State := update fun u => f { u with staging := (List.range 256).zip h }

theorem witness_TransfersInstallImages :
    (let s := update id; s.regsUp = true ∧ s.updCond true = 0 ∧ s.beginCode ≠ 0 ∧ s.endCode ≠ 0 ∧ s.upd.trial = false ∧ s.upd.sched = false ∧
      s.upd.xfer = .idle ∧ s.upd.chunkBusy = false ∧ Mem.wf 0xFF s.upd.staging = true ∧ s.upd.noFlash = false) ∧
    ((update fun u => { u with trial := true }).upd.trial = true ∧ (update fun u => { u with sched := true }).upd.sched = true) ∧
    (let s := staged header fun u => { u with xfer := .receiving }; s.upd.xfer = .receiving ∧ s.upd.xlen = 0) ∧
    (∀ n ∈ [0, 252, 0xFFFFFFFC], (BitVec.ofNat 32 n).toNat % 4 = 0) ∧ (List.replicate 28 (1 : Byte)).length = 28 ∧
    (1 : Word).toNat % 4 ≠ 0 ∧
    (∀ x ∈ [XferSt.ending, .erasing, .installed, .kept], let u := (update fun u => { u with xfer := x, xkind := some .arb }).upd
      u.xfer = x ∧ u.xkind = some .arb ∧ u.noFlash = false) := by decide +kernel

theorem header_read : Mem.reads 0xFF ((List.range 256).zip header) 0 256 = header := by decide +kernel

/-- END passes where SHA-256 answers the header's body hash, 0, for the empty body (log 12). -/
theorem witness_endCode (hb : (Config.sha256 []).toNat = 0) : (staged header fun u => { u with xfer := .receiving }).endCode = 0 := by
  have hdr : (staged header fun u => { u with xfer := .receiving }).upd.stagedHdr = header := header_read
  have body : (staged header fun u => { u with xfer := .receiving }).upd.stagedBody = [] := by decide +kernel
  have hash : hdrNum header 0x30 32 = 0 := by decide +kernel
  have rest : (staged header fun u => { u with xfer := .receiving }).updCond true = 0 ∧
    (staged header fun u => { u with xfer := .receiving }).upd.trial = false ∧
    (staged header fun u => { u with xfer := .receiving }).upd.sched = false ∧
    (staged header fun u => { u with xfer := .receiving }).upd.xfer = .receiving ∧
    (staged header fun u => { u with xfer := .receiving }).upd.noFlash = false := by decide +kernel
  simp [State.endCode, rest, hdr, body, bodyOk, hash, hb]

/-- A public key of zeros, whose hash in key slot 0 is 1. -/
def pk0 : List Byte := List.replicate 64 0

def keyed : State := (staged header id).modOtp fun o => { o with shadow := o.shadow.set 48 1 }

/-- BEGIN passes where SHA-256 and ECDSA answer as they do for the maker's key and a signed header (log 12). -/
theorem witness_beginCode (hk : (Config.sha256 (pk0)).toNat = 1)
    (hs : Config.ecdsaP256 0 (Config.sha256 (header.take 0xC0)) 0 = true) :
    keyed.beginCode = 0 := by
  have hdr : keyed.upd.stagedHdr = header := header_read
  have cond : keyed.updCond true = 0 := by decide +kernel
  have key : keyed.keyHash 0 = some 1 := by decide +kernel
  have rev : (keyed.otpWord 64).toNat = 0 := by decide +kernel
  have pk : (header.drop 0x80).take 64 = pk0 := by decide +kernel
  have pkn : BitVec.ofNat 512 (ofLe (pk0)) = 0 := by decide +kernel
  have sig : BitVec.ofNat 512 (hdrNum header 0xC0 64) = 0 := by decide +kernel
  have bad : badHeader header = false ∧ hdrNum header 4 2 = 0 ∧ hdrNum header 6 1 = 0 ∧ hdrNum header 7 1 = 0 ∧ hdrNum header 3 1 = 1 ∧
    hdrNum header 0x24 4 = 0 := by decide +kernel
  have code : keyed.headerCode header = 0 := by
    simp [State.headerCode, bad, key, rev, pk, pkn, sig, hk, glbStep, kindOf]; exact hs
  have rest : compatSet .arb header keyed.upd.after = true := by
    decide +kernel
  have flags : keyed.upd.trial = false ∧ keyed.upd.sched = false ∧ keyed.upd.xfer = .idle ∧ keyed.upd.noFlash = false := by decide +kernel
  unfold State.beginCode
  simp [cond, hdr, code, bad, kindOf, rest, flags]

theorem witness_ActivationsAndTrials :
    (let s := update id; s.regsUp = true ∧ s.upd.fan = false ∧ s.updCond false = 0 ∧ s.updCond true = 0 ∧ s.scheduleCode s.upd.acttime s.upd.actver ≠ 0 ∧
      s.upd.trial = false ∧ s.upd.sched = false ∧ s.upd.relay = none ∧ s.fab.root = false ∧ s.upd.passed.getLsbD 0 = false) ∧
    (let i : Img := { hdr := header, body := [] }
     let s := update fun u => { u with acttime := 200000, actver := Vector.ofFn fun k => if k = 0 then 1 else 0
                                       arb := { slots := Vector.replicate 2 (some i), conf := some 0, pend := some 1 } }
     s.scheduleCode s.upd.acttime s.upd.actver = 0) ∧
    (∀ x ∈ [ActStep.none, .recheck], ∀ t ∈ [0, 999999, 1000000], ∀ low : Bool,
      let s := ((update fun u => { u with sched := true, schTime := 5, step := x }).modFab fun f => { f with ftime := BitVec.ofNat 64 (5 + t) }).modFed
        fun b => { b with lowE := low }
      s.upd.sched = true ∧ s.upd.schTime.toNat ≤ s.fab.ftime.toNat ∧ s.upd.step = x ∧ (s.updCond true = 0 ↔ low = false) ∧
        (s.fab.ftime.toNat < s.upd.schTime.toNat + 1000000 ↔ t < 1000000)) ∧
    (let s := update fun u => { u with sched := true, schTime := 1 }; s.fab.ftime.toNat < s.upd.schTime.toNat) ∧
    (∀ b : Bool, let s := (update fun u => { u with step := .files, passed := 0x80 }).modRec fun r => { r with fstop := if b then 0x80 else 0 }
     let u := s.upd
     u.step = .files ∧ u.actPort = none ∧ u.passed.getLsbD 7 = true ∧ s.present 7 = true ∧ s.rcv.fstop.getLsbD 7 = b) ∧
    (let i : Img := { hdr := header, body := [] }
     let s := (update fun u => { u with acttime := 200000, actver := Vector.ofFn fun k => if k = 0 then 1 else 0, fan := true
                                        arb := { slots := Vector.replicate 2 (some i), conf := some 0, pend := some 1 } }).modFab
       fun f => { f with cfg := 0xA007 }
     s.upd.fan = true ∧ s.fab.root = true ∧ s.upd.sched = false ∧ s.scheduleCode s.upd.acttime s.upd.actver = 0) ∧
    (∀ t ∈ [0, 1], let s := update fun u => { u with trial := true, trialEnd := BitVec.ofNat 64 t, tkinds := 1, arb := { pend := some 1 } }
      s.upd.trial = true ∧ (s.upd.trialEnd.toNat ≤ s.fab.ftime.toNat ↔ t = 0) ∧ s.upd.tkinds.getLsbD (kindIx .arb).val = true ∧
        (s.upd.kind .arb).pend = some 1 ∧ s.upd.tkinds.getLsbD (kindIx .set).val = false) ∧
    (∀ n ∈ [0, 21], let s := (leased fun f => { f with cfg := 0xA007, txq := seven }).modUpd fun u => { u with relay := some n, rdst := 1 }
      s.fab.root = true ∧ s.upd.relay = some n ∧ n < 22 ∧ s.upd.rdst.toNat % 2 ^ 14 ≠ 0x3FFF ∧ s.fab.linkOn (route (s.upd.rdst.toNat % 2 ^ 14) 0) = true ∧
        (s.fab.txq[(route (s.upd.rdst.toNat % 2 ^ 14) 0).idx]).length < 8) := by decide +kernel

theorem witness_ServicePackets :
    SvcRow .svcHello 1 none ∧ SvcRow .svcBaud 10 none ∧
    (let s := update fun u => { u with svcOn := true }; s.upd.svcOn = true ∧ s.regsUp = true ∧ s.upd.svcLast = none ∧
      (s.core arbiterId).ncCode s.now { cls := 0x27, arg := 0 } none = 0) ∧
    (let s := update fun u => { u with svcOn := true, svcLast := some (7, [1]) }; s.upd.svcLast = some (7, [1])) ∧ up.upd.svcOn = false ∧
    (∀ x ∈ [DevPhase.service, .provision], let s := { update (fun u => { u with svcOn := true }) with phase := x, cores := up.cores }
      s.upd.svcOn = true ∧ s.regsUp = true ∧ s.phase = x ∧ (s.core arbiterId).ncCode s.now { cls := 0x27, arg := 0 } none ≠ 0) ∧
    (∀ n ∈ [8, 1028], let k : SvcPacket := { seq := 7, payload := List.replicate n 0 }
      8 ≤ k.payload.length ∧ k.payload.length ≤ 1028 ∧ k.payload.length % 4 = 0) ∧
    (let k : SvcPacket := { seq := 7, payload := [8] }; k.payload.length = 1 ∧ 8 ≤ ofLe (k.payload.take 1)) ∧
    (List.replicate 20 (0 : Byte)).length = 20 := by
  refine ⟨.inl (by simp), by simp [SvcRow], ?_, ?_, ?_, ?_, ?_, ?_, ?_⟩ <;> decide +kernel

theorem witness_HostBusAndMailbox :
    up.answers 0x17 = false ∧
    (up.answers 0x38 = true ∧ up.rescue 0x38 = false ∧ up.groupAddr 0x38 = false ∧ up.reachWrite 0x38 0x5000 = none ∧
      BusEnd.stop ≠ .startInAck) ∧
    (src.answers 0x38 = true ∧ src.reachWrite 0x38 0x1100 = some 0x1100 ∧ src.frozenByte 0x1100 = true ∧ src.frozenByte 0x1101 = true) ∧
    (up.reach 0x38 0x994 = some 0x994 ∧ (up.regAt 0x994).map (fun r => (r.1, r.2.1)) = some (0x994, 4)) ∧
    (up.reach 0x38 0x995 = some 0x995 ∧ (up.regAt 0x995).map (fun r => (r.1, r.2.1)) = some (0x994, 4) ∧
      ((up.hostIf 0x38).hold.find? fun x => decide (x.1 = 0x994)) = none) ∧
    (let s := up.setIf { addr := 0x38, hold := [(0x994, [1, 2, 3, 4])] }
     ((s.hostIf 0x38).hold.find? fun x => decide (x.1 = 0x994)) = some (0x994, [1, 2, 3, 4])) ∧
    (up.regsUp = true ∧ up.glb.gcsel = 0 ∧ up.glb.mbxSt ≠ 3 ∧ up.glb.mbxValid = false) ∧
    (let s := up.modGlb fun g => { g with gcsel := 0x80000000000 }
     (43, Block.hbs) ∈ gcOrder ∧ s.hasBlock .hbs = true ∧ ∀ i : Fin 64, s.glb.gcsel.getLsbD i.val = decide (i.val = 43)) ∧
    (let s := up.modGlb fun g => { g with mbxres := g.mbxres.set 2 3 }; s.glb.mbxSt = 3) ∧
    (let s := up.modGlb fun g => { g with mbxres := (g.mbxres.set 5 1).set 0 9 }; s.glb.mbxSt ≠ 3 ∧ s.glb.mbxValid = true ∧ s.glb.mbxres[0] = 9) ∧
    (∀ n ∈ [1, 0x7F], let s := ready.modGlb fun g => { g with mbxcmd := g.mbxcmd.set 0 (BitVec.ofNat 8 n) }
      1 ≤ (s.glb.mbxcmd[0]).toNat ∧ (s.glb.mbxcmd[0]).toNat < 0x80 ∧
        (s.core arbiterId).ncCode s.now { cls := 0x20, arg := 1, seq := 1 } none = 0 ∧
        (up.core arbiterId).ncCode up.now { cls := 0x20, arg := 1, seq := 1 } none ≠ 0) ∧
    up.glb.mbxcmd[0] = 0 ∧ 0x83 < (0x84 : Byte).toNat ∧ 32 ≤ (32 : Byte).toNat ∧
    (∀ p : PortId, ∀ b : Bool, named (if b then 0xFF else 0) p = b ∧ up.present p = true) ∧
    (let s := up.modPw 0 fun w => { w with limS := 0 }; let b := (subBlocks 0).getD 2 .hbs
     ((s.commitBlock b).blockCom b).ref = true ∧ ((s.commitBlock b).blockCom b).rsn ≠ 0) ∧
    (let b := (subBlocks 7).getD 4 .hbs; ((up.commitBlock b).blockCom b).ref = false ∧ (up.port 0).pw.judge = 0) := by
  and_intros <;> decide +kernel

theorem witness_EveryStepKeepsQueueFusesAndMemories :
    (∀ c, Mem.wf 0 (up.core c).code = true ∧ Mem.wf 0 (up.core c).data = true) ∧ Mem.wf 0 up.sram = true ∧
      Mem.wf 0xFF up.upd.staging = true := by decide +kernel

/-! ### Decoding: words written out field by field from R93's forms, and the words of the spec's worked example (04) -/

theorem test_decode_example : ∀ c : CoreId,
    decodeWord c 0x60C03800 = some (.addi c { d := 3, a := 0, imm := 0x3800 }) ∧
    decodeWord c 0xE48C0810 = some (.qpeekEvent c { d := 2, a := 3, n := 0, sub := 0x810 }) ∧
    decodeWord c 0xB8880011 = some (.br c { cond := 2, a := 2, b := 0, off := 17 }) ∧
    decodeWord c 0xAD500383 = some (.ext c { d := 5, a := 4, b := 0, sub := 0x383 }) ∧
    decodeWord c 0x56AAC000 = some (.divu c { d := 10, a := 10, b := 11, sub := 0 }) ∧
    decodeWord c 0xEB288000 = some (.lrsv c { d := 12, a := 10, n := 8, sub := 0 }) ∧
    decodeWord c 0x04000000 = some (.add c { d := 0, a := 0, b := 0, sub := 0 }) ∧ decodeWord c 0 = none := by decide +kernel

theorem test_decode_forms :
    decodeWord 0 (0b000010#6 ++ 0b0001#4 ++ 0b0010#4 ++ 0b0011#4 ++ 0b00000000000000#14) = some (.sub 0 ⟨1, 2, 3, 0⟩) ∧
    decodeWord 1 (0b100011#6 ++ 0b1111#4 ++ 0b0001#4 ++ 0b111111111111111100#18) = some (.ldw 1 ⟨15, 1, 0x3FFFC⟩) ∧
    decodeWord 2 (0b101010#6 ++ 0b0100#4 ++ 0b0101#4 ++ 0b000000000000000111#18) = some (.stb 2 ⟨4, 5, 7⟩) ∧
    decodeWord 3 (0b101101#6 ++ 0b0001#4 ++ 0b0010#4 ++ 0b0000#4 ++ 0b00000100000111#14) = some (.ins 3 ⟨1, 2, 0, 0x107⟩) ∧
    decodeWord 4 (0b101111#6 ++ 0b0010#4 ++ 0b0000000101#10 ++ 0b000000000111#12) = some (.loop 4 ⟨2, 5, 7⟩) ∧
    decodeWord 5 (0b110000#6 ++ 0b0000#4 ++ 0b0000#4 ++ 0b000000000100000000#18) = some (.call 5 ⟨0, 0, 0x100⟩) ∧
    decodeWord 6 (0b110010#6 ++ 0#26) = some (.endI 6 ⟨0, 0, 0, 0⟩) ∧
    decodeWord 7 (0b110011#6 ++ 0b0000#4 ++ 0b0000#4 ++ 0b001001#6 ++ 0b000010000000#12) = some (.await 7 ⟨0, 0, 9, 0x80⟩) := by
  decide +kernel

theorem test_decode_rows :
    decodeWord 8 (0b110100#6 ++ 0b0000#4 ++ 0b0001#4 ++ 0b000111#6 ++ 0b000000000001#12) = some (.tsetAbsolute 8 ⟨0, 1, 7, 1⟩) ∧
    decodeWord 0 (0b110111#6 ++ 0b0001#4 ++ 0b0010#4 ++ 0b000011#6 ++ 0#12) = some (.qpush 0 ⟨1, 2, 3, 0⟩) ∧
    decodeWord 8 (0b111100#6 ++ 0b0001#4 ++ 0b0010#4 ++ 0b000111#6 ++ 0b000000000001#12) = some (.lrelReservation 8 ⟨1, 2, 7, 1⟩) ∧
    decodeWord 0 (0b111101#6 ++ 0b0001#4 ++ 0b0000#4 ++ 0b001000#6 ++ 0b000000000101#12) = some (.lrdHeadroom 0 ⟨1, 0, 8, 5⟩) ∧
    decodeWord 0 (0b111110#6 ++ 0b0001#4 ++ 0b0010#4 ++ 0b000100#6 ++ 0#12) = some (.actDsc 0 ⟨1, 2, 4, 0⟩) ∧
    decodeWord 8 (0b111111#6 ++ 0b0001#4 ++ 0b0010#4 ++ 0b000010#6 ++ 0b001000000000#12) = some (.fsend 8 ⟨1, 2, 2, 0x200⟩) := by
  decide +kernel

/-- The table gives no row bits, so no word spells a command and a placed word changes nothing. -/
theorem test_decodeTableWord : decodeTableWord 32 0x04000000 = none ∧ State.reset.withFetchWord 32 0x04000000 = State.reset :=
  ⟨rfl, rfl⟩

/-! ### Well-formedness: an ill-formed command for each check -/

theorem test_wf_refuses_words : (Instr.add 0 ⟨1, 1, 1, 1⟩).wf = false ∧ (Instr.shli 0 ⟨1, 1, 32⟩).wf = false ∧
    (Instr.br 0 ⟨9, 1, 1, 1⟩).wf = false ∧ (Instr.fsend 0 ⟨1, 2, 0, 0x200⟩).wf = false ∧ (Instr.lrsv 8 ⟨1, 2, 8, 0⟩).wf = false ∧
    (Instr.tsetAbsolute 0 ⟨0, 1, 0, 0⟩).wf = false ∧ (Instr.actVset 0 ⟨1, 2, 1, 0⟩).wf = false := by decide +kernel

theorem test_wf_refuses_frames : (Instr.frameReceived 0 { rxd true with data := [1, 2, 3] }).wf = false ∧
    (Instr.frameReceived 0 { rxd true with rate := 0 }).wf = false ∧ (Instr.earlyDecode 0 .sop 0x1042 0).wf = false ∧
    (Instr.premoveStallEnd 0 (List.replicate 29 0) 0).wf = false ∧ (Instr.frameReceived 0 (rxd true)).wf = true := by decide +kernel

theorem test_wf_refuses_fabric : ∀ i ∈ ([.frameForward .u, .time, .leaseRenew 0, .ack, .leaseReturn 0, .leaseReq .u, .leaseGrant .u, .nak .u,
      .updAct .u, .regTunnel .u, .tunnelReply] : List (FFrame → Instr)).map fun i => (i { frame 1 0 with payload := [] }, i (frame 1 0)),
    i.1.wf = false ∧ i.2.wf = true := by decide +kernel

theorem test_wf_refuses_samples : (Instr.wetCheckEnd 0 { trial := [], z1 := [], z16 := [], passes := [], left := true }).wf = false ∧
    (Instr.adcFrame [] ⟨0, 0, 0⟩ ⟨0, 0, 0⟩ ⟨0, 0, 0, 0, 0, 0, 0, 25⟩).wf = false ∧ (Instr.derateEval []).wf = false ∧
    (Instr.derateEval (List.replicate 4 [])).wf = false ∧ (Instr.coalesceIntervalEnd 0 2).wf = false ∧
    (Instr.eventReoffer 0 2).wf = false ∧ (Instr.hostChunk 0 (List.replicate 29 0)).wf = false := by decide +kernel

theorem test_wf_refuses_packets : ∀ i ∈ ([.svcHello, .svcWrite, .svcBegin, .svcEnd, .svcStatus, .svcSchedule, .svcConfirm, .svcRollback,
      .svcAbort, .svcBaud] : List (SvcPacket → Instr)).map fun i => i { seq := 0, payload := List.replicate 1029 0 },
    i.wf = false := by decide +kernel

/-! ### The spec's numbers -/

/-- R98: division rounds toward zero; the most negative number divided by -1 is itself, remainder 0. -/
theorem test_div_corners :
    let s := (runs 0 hd).modCore 0 fun C => { C with g := (C.g.set 1 0x80000000).set 2 0xFFFFFFFF }
    let after (i : Instr) : Word := match exec i s with
      | .next t => t.gr 0 3
      | _ => 0
    after (.div 0 ⟨3, 1, 2, 0⟩) = 0x80000000 ∧ after (.rem 0 ⟨3, 1, 2, 0⟩) = 0 ∧ after (.div 0 ⟨3, 2, 8, 0⟩) = 0 ∧
      after (.rem 0 ⟨3, 2, 8, 0⟩) = 0xFFFFFFFF := by decide +kernel

/-- R72, R134: the header 20 bits before early decode at 300 kbit/s is 67 us earlier. -/
theorem test_early_decode_time : (match exec (.earlyDecode 0 .sop 0x1042 300) (link id) with
    | .next t => (t.port 0).pd.rx.map fun r => r.time
    | _ => none) = some 4933 := by decide +kernel

/-- R326, R338, R339: as shipped, regions 0 to 2 read sealed and the others open. -/
theorem test_shipped_regions_sealed :
    (List.finRange 16).map State.reset.otp.sealCode = [1, 1, 1, 0, 0, 0, 0, 0, 0, 0, 0, 0, 0, 0, 0, 0] := by
  decide +kernel

end Sys2Proof.Tests
end

section
/-! What a commit of a block leaves alone: the GLB registers, which it neither reads nor writes, and the phase. -/

namespace Sys2Proof.Machine

/-- The state with other GLB registers. -/
def State.withGlb (s : State) (g : Glb) : State := { s with glb := g }

@[simp] theorem State.withGlb_glb (s : State) (g : Glb) : (s.withGlb g).glb = g := rfl
@[simp] theorem State.withGlb_core (s : State) (g : Glb) (c : CoreId) : (s.withGlb g).core c = s.core c := rfl
@[simp] theorem State.withGlb_port (s : State) (g : Glb) (p : PortId) : (s.withGlb g).port p = s.port p := rfl
@[simp] theorem State.withGlb_fed (s : State) (g : Glb) : (s.withGlb g).fed = s.fed := rfl
@[simp] theorem State.withGlb_pins (s : State) (g : Glb) : (s.withGlb g).pins = s.pins := rfl
@[simp] theorem State.withGlb_queue (s : State) (g : Glb) (p : PortId) (k : Fin 8) : (s.withGlb g).queue p k = s.queue p k := rfl
@[simp] theorem State.withGlb_cores (s : State) (g : Glb) : (s.withGlb g).cores = s.cores := rfl
@[simp] theorem State.withGlb_present (s : State) (g : Glb) (p : PortId) : (s.withGlb g).present p = s.present p := rfl
@[simp] theorem State.withGlb_premove (s : State) (g : Glb) (p : PortId) : (s.withGlb g).premove p = s.premove p := rfl

/-- A change of the GLB registers alone. -/
theorem State.modGlb_eq_withGlb (s : State) (f : Glb → Glb) : s.modGlb f = s.withGlb (f s.glb) := rfl
@[simp] theorem State.withGlb_withGlb (s : State) (g g' : Glb) : (s.withGlb g).withGlb g' = s.withGlb g' := rfl

/-- State x' is x with the GLB registers g, and x is in phase ph. An operation that keeps this relation reads and writes no GLB
register and leaves the phase. -/
def GlbApart (g : Glb) (ph : DevPhase) (x' x : State) : Prop := x' = x.withGlb g ∧ x.phase = ph

section
variable {g : Glb} {ph : DevPhase} {x' x : State}

theorem GlbApart.refl (g : Glb) (x : State) : GlbApart g x.phase (x.withGlb g) x := ⟨rfl, rfl⟩

theorem GlbApart.port (h : GlbApart g ph x' x) (p : PortId) : x'.port p = x.port p := by rw [h.1]; rfl

theorem GlbApart.ite {c : Prop} [Decidable c] {y' y : State} (hx : GlbApart g ph x' x) (hy : GlbApart g ph y' y) :
    GlbApart g ph (if c then x' else y') (if c then x else y) := by split <;> assumption

theorem GlbApart.foldl {α : Type} {f : State → α → State}
    (hf : ∀ {x' x : State} (a : α), GlbApart g ph x' x → GlbApart g ph (f x' a) (f x a)) :
    ∀ (l : List α) {x' x : State}, GlbApart g ph x' x → GlbApart g ph (l.foldl f x') (l.foldl f x)
  | [], _, _, h => h
  | a :: l, _, _, h => GlbApart.foldl hf l (hf a h)

/-! ### Updates of one block -/

theorem GlbApart.modPort (h : GlbApart g ph x' x) (p : PortId) (f : Port → Port) : GlbApart g ph (x'.modPort p f) (x.modPort p f) := by
  obtain ⟨rfl, rfl⟩ := h; exact ⟨rfl, rfl⟩
theorem GlbApart.modCore (h : GlbApart g ph x' x) (c : CoreId) (f : Core → Core) : GlbApart g ph (x'.modCore c f) (x.modCore c f) := by
  obtain ⟨rfl, rfl⟩ := h; exact ⟨rfl, rfl⟩
theorem GlbApart.modTc (h : GlbApart g ph x' x) (p : PortId) (f : Tc → Tc) : GlbApart g ph (x'.modTc p f) (x.modTc p f) := h.modPort _ _
theorem GlbApart.modPd (h : GlbApart g ph x' x) (p : PortId) (f : Phy → Phy) : GlbApart g ph (x'.modPd p f) (x.modPd p f) := h.modPort _ _
theorem GlbApart.modCt (h : GlbApart g ph x' x) (p : PortId) (f : Ct → Ct) : GlbApart g ph (x'.modCt p f) (x.modCt p f) := h.modPort _ _
theorem GlbApart.modPw (h : GlbApart g ph x' x) (p : PortId) (f : Pw → Pw) : GlbApart g ph (x'.modPw p f) (x.modPw p f) := h.modPort _ _
theorem GlbApart.modSp (h : GlbApart g ph x' x) (p : PortId) (f : Sp → Sp) : GlbApart g ph (x'.modSp p f) (x.modSp p f) := h.modPort _ _
theorem GlbApart.modMn (h : GlbApart g ph x' x) (p : PortId) (f : Mn → Mn) : GlbApart g ph (x'.modMn p f) (x.modMn p f) := h.modPort _ _
theorem GlbApart.modQ (h : GlbApart g ph x' x) (p : PortId) (k : Fin 8) (f : Queue → Queue) :
    GlbApart g ph (x'.modQ p k f) (x.modQ p k f) := h.modPort _ _
theorem GlbApart.modLdg (h : GlbApart g ph x' x) (f : Ldg → Ldg) : GlbApart g ph (x'.modLdg f) (x.modLdg f) := by
  obtain ⟨rfl, rfl⟩ := h; exact ⟨rfl, rfl⟩
theorem GlbApart.modFab (h : GlbApart g ph x' x) (f : Fab → Fab) : GlbApart g ph (x'.modFab f) (x.modFab f) := by
  obtain ⟨rfl, rfl⟩ := h; exact ⟨rfl, rfl⟩
theorem GlbApart.modFed (h : GlbApart g ph x' x) (f : Fed → Fed) : GlbApart g ph (x'.modFed f) (x.modFed f) := by
  obtain ⟨rfl, rfl⟩ := h; exact ⟨rfl, rfl⟩
theorem GlbApart.modHbs (h : GlbApart g ph x' x) (f : Hbs → Hbs) : GlbApart g ph (x'.modHbs f) (x.modHbs f) := by
  obtain ⟨rfl, rfl⟩ := h; exact ⟨rfl, rfl⟩

/-! ### Events -/

theorem GlbApart.raiseCrit (h : GlbApart g ph x' x) (c : CoreId) (r : Raised) (m : Option (Sop × Half)) :
    GlbApart g ph (x'.raiseCrit c r m) (x.raiseCrit c r m) := by
  obtain ⟨rfl, rfl⟩ := h
  exact .ite ((GlbApart.refl _ _).modCore _ _) ((GlbApart.refl _ _).modCore _ _)

theorem GlbApart.raiseCoal (h : GlbApart g ph x' x) (c : CoreId) (k : Nat) (a : Word) :
    GlbApart g ph (x'.raiseCoal c k a) (x.raiseCoal c k a) := by
  obtain ⟨rfl, rfl⟩ := h
  refine .ite ((GlbApart.refl _ _).modCore _ _) ?_
  simp only [State.withGlb_core]
  split
  · exact ((GlbApart.refl _ _).modCore _ _).raiseCrit _ _ _
  · exact (GlbApart.refl _ _).modCore _ _

theorem GlbApart.raiseLedger (h : GlbApart g ph x' x) (a : Word) : GlbApart g ph (x'.raiseLedger a) (x.raiseLedger a) := by
  unfold State.raiseLedger State.forCores
  exact GlbApart.foldl (fun c h => h.raiseCoal c 11 a) _ h

theorem GlbApart.tcEvt (h : GlbApart g ph x' x) (p : PortId) (b : Nat) : GlbApart g ph (x'.tcEvt p b) (x.tcEvt p b) := by
  obtain ⟨rfl, rfl⟩ := h; exact ((GlbApart.refl _ _).modTc _ _).raiseCoal _ _ _
theorem GlbApart.pwEvt (h : GlbApart g ph x' x) (p : PortId) (b : Nat) : GlbApart g ph (x'.pwEvt p b) (x.pwEvt p b) := by
  obtain ⟨rfl, rfl⟩ := h; exact ((GlbApart.refl _ _).modPw _ _).raiseCoal _ _ _
theorem GlbApart.spEvt (h : GlbApart g ph x' x) (p : PortId) (b : Nat) : GlbApart g ph (x'.spEvt p b) (x.spEvt p b) := by
  obtain ⟨rfl, rfl⟩ := h; exact ((GlbApart.refl _ _).modSp _ _).raiseCoal _ _ _
theorem GlbApart.fedEvt (h : GlbApart g ph x' x) (b : Nat) : GlbApart g ph (x'.fedEvt b) (x.fedEvt b) := by
  obtain ⟨rfl, rfl⟩ := h; exact ((GlbApart.refl _ _).modFed _).raiseCoal _ _ _

/-! ### The ledger -/

theorem GlbApart.overdraw (h : GlbApart g ph x' x) : GlbApart g ph x'.overdraw x.overdraw := by
  obtain ⟨rfl, rfl⟩ := h
  exact .ite ((GlbApart.refl _ _).modLdg _)
    (.ite ((GlbApart.refl _ _).modLdg _) (.ite ((GlbApart.refl _ _).modLdg _) (.refl _ _)))

theorem GlbApart.settle (h : GlbApart g ph x' x) : GlbApart g ph x'.settle x.settle := by
  obtain ⟨rfl, rfl⟩ := h
  exact .ite (.refl _ _)
    (GlbApart.ite (((GlbApart.refl _ _).modLdg _).raiseLedger _) (.refl _ _)).overdraw

/-! ### The power path and the link of a port -/

theorem GlbApart.trimStop (h : GlbApart g ph x' x) (p : PortId) : GlbApart g ph (x'.trimStop p) (x.trimStop p) := h.modSp _ _

theorem GlbApart.pgDown (h : GlbApart g ph x' x) (p : PortId) : GlbApart g ph (x'.pgDown p) (x.pgDown p) := by
  obtain ⟨rfl, rfl⟩ := h
  exact .ite (((GlbApart.refl _ _).modPw _ _).pwEvt _ _) ((GlbApart.refl _ _).modPw _ _)

theorem GlbApart.fireGens (h : GlbApart g ph x' x) (p : PortId) : GlbApart g ph (x'.fireGens p) (x.fireGens p) := by
  obtain ⟨rfl, rfl⟩ := h
  exact ((((GlbApart.refl _ _).modPw _ _).pgDown _).trimStop _).modPw _ _

theorem GlbApart.dscStart (h : GlbApart g ph x' x) (p : PortId) : GlbApart g ph (x'.dscStart p) (x.dscStart p) := h.modPw _ _

theorem GlbApart.rpSet (h : GlbApart g ph x' x) (p : PortId) : GlbApart g ph (x'.rpSet p) (x.rpSet p) := by
  obtain ⟨rfl, rfl⟩ := h; unfold State.rpSet; exact (GlbApart.refl g x).modTc p _

theorem GlbApart.heldFalls (h : GlbApart g ph x' x) (p : PortId) (n : Nat) : GlbApart g ph (x'.heldFalls p n) (x.heldFalls p n) := by
  obtain ⟨rfl, rfl⟩ := h
  exact .ite ((GlbApart.refl _ _).modPw _ _) (.refl _ _)

theorem GlbApart.pd3Off (h : GlbApart g ph x' x) (p : PortId) : GlbApart g ph (x'.pd3Off p) (x.pd3Off p) := by
  obtain ⟨rfl, rfl⟩ := h
  exact .ite (((GlbApart.refl _ _).modCt _ _).rpSet _) (.refl _ _)

theorem GlbApart.mnAgain (h : GlbApart g ph x' x) (p : PortId) : GlbApart g ph (x'.mnAgain p) (x.mnAgain p) := by
  obtain ⟨rfl, rfl⟩ := h; exact (GlbApart.refl _ _).modPort _ _

theorem GlbApart.heldNone (h : GlbApart g ph x' x) (p : PortId) (c : Bool) : GlbApart g ph (x'.heldNone p c) (x.heldNone p c) :=
  (((h.heldFalls p 0).modCt p _).mnAgain p).pd3Off p

theorem GlbApart.takeBack (h : GlbApart g ph x' x) (p : PortId) (c : PmvCause) : GlbApart g ph (x'.takeBack p c) (x.takeBack p c) := by
  obtain ⟨rfl, rfl⟩ := h
  simp only [State.takeBack, State.withGlb_premove]
  split <;> exact ⟨rfl, rfl⟩

theorem GlbApart.frameLost (h : GlbApart g ph x' x) (p : PortId) (c : PmvCause) :
    GlbApart g ph (x'.frameLost p c) (x.frameLost p c) := ((h.takeBack p c).modCore _ _).modPd _ _

theorem GlbApart.txEnd (h : GlbApart g ph x' x) (p : PortId) (k : Fin 8) (i : Nat) (st : EntSt) (rsn : Nat) (eop : Option Word) :
    GlbApart g ph (x'.txEnd p k i st rsn eop) (x.txEnd p k i st rsn eop) := by
  obtain ⟨rfl, rfl⟩ := h
  simp only [State.txEnd, State.withGlb_queue]
  split
  · exact .refl _ _
  · exact (((GlbApart.refl _ _).modQ _ _ _).modPd _ _).raiseCoal _ _ _

theorem GlbApart.failN (h : GlbApart g ph x' x) (p : PortId) (k : Fin 8) (rsn n : Nat) :
    GlbApart g ph (State.failN n x' p k rsn) (State.failN n x p k rsn) := by
  induction n generalizing x' x with
  | zero => exact h
  | succ n ih =>
    obtain ⟨rfl, rfl⟩ := h
    exact ih ((GlbApart.refl g x).txEnd _ _ _ _ _ _)

theorem GlbApart.failQ (h : GlbApart g ph x' x) (p : PortId) (k : Fin 8) (rsn : Nat) :
    GlbApart g ph (x'.failQ p k rsn) (x.failQ p k rsn) := by
  obtain ⟨rfl, rfl⟩ := h; exact (GlbApart.refl g x).failN p k rsn _

theorem GlbApart.phyDetach (h : GlbApart g ph x' x) (p : PortId) : GlbApart g ph (x'.phyDetach p) (x.phyDetach p) :=
  ((((h.frameLost p .detach).failQ p 1 4).failQ p 3 4).failQ p 5 4).modPd p _

/-! ### Type-C transitions -/

theorem GlbApart.goByRole (h : GlbApart g ph x' x) (p : PortId) : GlbApart g ph (x'.goByRole p) (x.goByRole p) := by
  obtain ⟨rfl, rfl⟩ := h
  exact (GlbApart.ite (((GlbApart.refl _ _).modTc _ _).rpSet _) ((GlbApart.refl _ _).modTc _ _)).modTc _ _

theorem GlbApart.detachActs (h : GlbApart g ph x' x) (p : PortId) : GlbApart g ph (x'.detachActs p) (x.detachActs p) := by
  unfold State.detachActs State.swapOff
  exact (((((((h.fireGens p).dscStart p).modTc p _).phyDetach p).modPort p _).heldNone p true).modCt p _).tcEvt p 1

theorem GlbApart.errRec (h : GlbApart g ph x' x) (p : PortId) : GlbApart g ph (x'.errRec p) (x.errRec p) := by
  obtain ⟨rfl, rfl⟩ := h
  have h := GlbApart.refl g x
  exact ((GlbApart.ite (h.detachActs p) (((h.fireGens p).dscStart p).modTc p _)).modTc p _).tcEvt p 10

theorem GlbApart.errRecDisable (h : GlbApart g ph x' x) (p : PortId) : GlbApart g ph (x'.errRecDisable p) (x.errRecDisable p) := by
  obtain ⟨rfl, rfl⟩ := h
  exact .ite (.refl _ _) (((GlbApart.refl _ _).modTc p _).errRec p)

theorem GlbApart.roleCommitted (h : GlbApart g ph x' x) (p : PortId) (old : Nat) :
    GlbApart g ph (x'.roleCommitted p old) (x.roleCommitted p old) := by
  obtain ⟨rfl, rfl⟩ := h
  have h := GlbApart.refl g x
  exact .ite (.ite (h.errRecDisable p) (.ite (h.modTc p _) (h.modTc p _)))
    (.ite (h.modTc p _) (.ite (h.goByRole p) (.ite (h.goByRole p) h)))

/-! ### The commits -/

theorem GlbApart.tcCommit (h : GlbApart g ph x' x) (p : PortId) : GlbApart g ph (x'.tcCommit p) (x.tcCommit p) := by
  obtain ⟨rfl, rfl⟩ := h
  have h := GlbApart.refl g x
  exact .ite h (.ite (h.modTc p _) ((((h.modTc p _).modTc p _).roleCommitted p _).rpSet p))

theorem GlbApart.pdApply (h : GlbApart g ph x' x) (p : PortId) : GlbApart g ph (x'.pdApply p) (x.pdApply p) := by
  obtain ⟨rfl, rfl⟩ := h
  unfold State.pdApply
  extract_lets _ _ _ s1' s2' _ _ _ s1 s2
  have h : GlbApart g x.phase s2' s2 := ((((GlbApart.refl g x).heldFalls p _).modCt p _).modPw p _).mnAgain p
  exact .ite (h.pd3Off p) (.ite (h.rpSet p) h)

theorem GlbApart.pdCommit (h : GlbApart g ph x' x) (p : PortId) : GlbApart g ph (x'.pdCommit p) (x.pdCommit p) := by
  obtain ⟨rfl, rfl⟩ := h
  have h := GlbApart.refl g x
  exact .ite h ((GlbApart.ite (h.pdApply p) h).modCt p _)

theorem GlbApart.pwCommit (h : GlbApart g ph x' x) (p : PortId) : GlbApart g ph (x'.pwCommit p) (x.pwCommit p) := by
  obtain ⟨rfl, rfl⟩ := h
  exact .ite (.refl _ _) ((GlbApart.refl _ _).modPw p _)

theorem GlbApart.spCommit (h : GlbApart g ph x' x) (p : PortId) : GlbApart g ph (x'.spCommit p) (x.spCommit p) := by
  obtain ⟨rfl, rfl⟩ := h
  unfold State.spCommit
  extract_lets s1' s2' s1 s2
  have h1 : GlbApart g x.phase s1' s1 := (GlbApart.refl g x).modSp p _
  have h2 : GlbApart g x.phase s2' s2 := .ite h1 (h1.trimStop p)
  rw [h2.port p, State.withGlb_port]
  exact .ite (.refl _ _) (.ite (h2.spEvt p 1) h2)

theorem GlbApart.mnCommit (h : GlbApart g ph x' x) (p : PortId) : GlbApart g ph (x'.mnCommit p) (x.mnCommit p) := by
  obtain ⟨rfl, rfl⟩ := h
  exact .ite (.refl _ _) ((GlbApart.refl _ _).modPort p _)

theorem GlbApart.ewUpdate (h : GlbApart g ph x' x) : GlbApart g ph x'.ewUpdate x.ewUpdate := by
  obtain ⟨rfl, rfl⟩ := h
  exact (GlbApart.ite (.refl _ _) (((GlbApart.refl _ _).modFed _).fedEvt _)).settle

theorem GlbApart.energyUpdate (h : GlbApart g ph x' x) : GlbApart g ph x'.energyUpdate x.energyUpdate := by
  obtain ⟨rfl, rfl⟩ := h
  simp only [State.energyUpdate, State.withGlb_fed, State.withGlb_pins]
  exact .ite (.refl _ _) (((GlbApart.refl _ _).modFed _).fedEvt _)

theorem GlbApart.fedCommit (h : GlbApart g ph x' x) : GlbApart g ph x'.fedCommit x.fedCommit := by
  obtain ⟨rfl, rfl⟩ := h
  exact .ite ((GlbApart.refl _ _).modFed _) (((GlbApart.refl _ _).modFed _).ewUpdate).energyUpdate

theorem GlbApart.hbsCommit (h : GlbApart g ph x' x) : GlbApart g ph x'.hbsCommit x.hbsCommit := by
  unfold State.hbsCommit; exact h.modHbs _

theorem GlbApart.ldgCommit (h : GlbApart g ph x' x) : GlbApart g ph x'.ldgCommit x.ldgCommit := by
  obtain ⟨rfl, rfl⟩ := h
  exact .ite ((GlbApart.refl _ _).modLdg _).settle ((GlbApart.refl _ _).modLdg _)

theorem GlbApart.fabCommit (h : GlbApart g ph x' x) : GlbApart g ph x'.fabCommit x.fabCommit := by
  obtain ⟨rfl, rfl⟩ := h
  have h := GlbApart.refl g x
  exact .ite (h.modFab _) (.ite (h.modFab _).settle (h.modFab _))

theorem GlbApart.commitBlock (h : GlbApart g ph x' x) : ∀ b, GlbApart g ph (x'.commitBlock b) (x.commitBlock b)
  | .tc p => h.tcCommit p
  | .pd p => h.pdCommit p
  | .pw p => h.pwCommit p
  | .sp p => h.spCommit p
  | .mn p => h.mnCommit p
  | .fed => h.fedCommit
  | .ldg => h.ldgCommit
  | .fab => h.fabCommit
  | .hbs => h.hbsCommit

/-! ### The reverts -/

theorem GlbApart.unstage (h : GlbApart g ph x' x) (b : Block) : GlbApart g ph (x'.unstage b) (x.unstage b) := by
  unfold State.unstage
  cases b with
  | tc p => exact h.modTc p _
  | pd p => exact h.modCt p _
  | pw p => exact h.modPw p _
  | sp p => exact h.modSp p _
  | mn p => exact h.modMn p _
  | fed => exact h.modFed _
  | ldg => exact h.modLdg _
  | fab => exact h.modFab _
  | hbs => exact h.modHbs _

theorem GlbApart.modCom (h : GlbApart g ph x' x) (b : Block) (f : Commit → Commit) :
    GlbApart g ph (x'.modCom b f) (x.modCom b f) := by
  unfold State.modCom
  cases b with
  | tc p => exact h.modTc p _
  | pd p => exact h.modCt p _
  | pw p => exact h.modPw p _
  | sp p => exact h.modSp p _
  | mn p => exact h.modMn p _
  | fed => exact h.modFed _
  | ldg => exact h.modLdg _
  | fab => exact h.modFab _
  | hbs => exact h.modHbs _

theorem GlbApart.revertBlock (h : GlbApart g ph x' x) (b : Block) : GlbApart g ph (x'.revertBlock b) (x.revertBlock b) := by
  obtain ⟨rfl, rfl⟩ := h
  exact .ite (((GlbApart.refl _ _).unstage b).modCom b _) (.refl _ _)

end

/-! ### As equations -/

/-- A commit does not see the GLB registers. -/
theorem State.commitBlock_withGlb (s : State) (g : Glb) (b : Block) :
    (s.withGlb g).commitBlock b = (s.commitBlock b).withGlb g := ((GlbApart.refl g s).commitBlock b).1

@[simp] theorem State.commitBlock_glb (s : State) (b : Block) : (s.commitBlock b).glb = s.glb :=
  congrArg (·.glb) (s.commitBlock_withGlb s.glb b)

@[simp] theorem State.commitBlock_phase (s : State) (b : Block) : (s.commitBlock b).phase = s.phase :=
  ((GlbApart.refl s.glb s).commitBlock b).2

/-- A revert does not see the GLB registers. -/
theorem State.revertBlock_withGlb (s : State) (g : Glb) (b : Block) :
    (s.withGlb g).revertBlock b = (s.revertBlock b).withGlb g := ((GlbApart.refl g s).revertBlock b).1

@[simp] theorem State.blockCom_withGlb (s : State) (g : Glb) (b : Block) : (s.withGlb g).blockCom b = s.blockCom b := by
  cases b <;> rfl

end Sys2Proof.Machine
end

section
/-! The host bus: what a write transaction and a read change, and the bytes of FAB_TDATA, which gather and take effect with the
highest one (R14, R15, R365-R369). -/

namespace Sys2Proof.Machine

/-! ### Interfaces -/

theorem State.hostIf_addr (s : State) (a : Byte) : (s.hostIf a).addr = a.setWidth 7 := by
  unfold State.hostIf
  cases h : s.hbs.ifs.find? fun i => decide (i.addr = a.setWidth 7) with
  | none => rfl
  | some i => simpa using List.find?_some h

/-- An interface lives in the list of interfaces alone. -/
theorem State.hostIf_of_ifs {s t : State} (h : t.hbs.ifs = s.hbs.ifs) (a : Byte) : t.hostIf a = s.hostIf a := by
  simp [State.hostIf, h]

/-- The interface of an address after it is replaced. -/
theorem State.hostIf_setIf (s : State) (a : Byte) (i : HostIf) (h : i.addr = a.setWidth 7) : (s.setIf i).hostIf a = i := by
  have hn : (s.hbs.ifs.filter fun x => decide (x.addr ≠ i.addr)).find? (fun x => decide (x.addr = a.setWidth 7)) = none := by
    rw [List.find?_eq_none]
    intro x hx e
    exact of_decide_eq_true (List.mem_filter.1 hx).2 ((of_decide_eq_true e).trans h.symm)
  unfold State.hostIf
  rw [show (s.setIf i).hbs.ifs = (s.hbs.ifs.filter fun x => decide (x.addr ≠ i.addr)) ++ [i] from rfl, List.find?_append, hn]
  simp [h]

/-- The pointer of an address set. -/
def State.setPtr (s : State) (a : Byte) (x : Nat) : State := s.setIf { s.hostIf a with ptr := BitVec.ofNat 16 x }

/-- The pointer set is the one read, whatever else the registers of the host bus then take. -/
theorem State.ptr_of_setPtr {s t : State} {a : Byte} {x : Nat} (h : t.hbs.ifs = (s.setPtr a x).hbs.ifs) :
    (t.hostIf a).ptr = BitVec.ofNat 16 x := by
  rw [State.hostIf_of_ifs h, State.setPtr, State.hostIf_setIf]
  exact s.hostIf_addr a

/-! ### Acknowledged bytes -/

/-- Only the registers of the host bus differ. -/
def onlyHbs (s t : State) : Prop := t = { s with hbs := t.hbs }

theorem onlyHbs.refl (s : State) : onlyHbs s s := rfl
theorem onlyHbs.trans {s t u : State} (h : onlyHbs s t) (k : onlyHbs t u) : onlyHbs s u := by
  unfold onlyHbs at *; rw [k, h]
theorem onlyHbs.modHbs {s t : State} (h : onlyHbs s t) (f : Hbs → Hbs) : onlyHbs s (t.modHbs f) := h.trans rfl

theorem State.ackBytes_onlyHbs (s : State) (reach : Nat → Option Nat) (late : Bool) : ∀ (l : List Byte) (x : Nat),
    onlyHbs s (s.ackBytes reach late x l).2.2
  | [], _ => .refl s
  | b :: l, x => by
    unfold State.ackBytes
    split
    · exact (onlyHbs.refl s).modHbs _
    · split
      · rfl
      · exact s.ackBytes_onlyHbs reach late l _

theorem State.groupBytes_onlyHbs : ∀ (l : List Byte) (s : State) (x : Nat), onlyHbs s (s.groupBytes x l).2.2
  | [], s, _ => .refl s
  | b :: l, s, x => by
    unfold State.groupBytes
    split
    · exact State.groupBytes_onlyHbs l s _
    · exact ((onlyHbs.refl s).modHbs _).trans (State.groupBytes_onlyHbs l _ _)

/-- Within a page the pointer goes up by one, and round at its end (R365). -/
theorem pageNext_inPage {base x : Nat} (hb : 32 ∣ base) (h1 : base ≤ x) (h2 : x < base + 32) :
    pageNext x = if x + 1 = base + 32 then base else x + 1 := by
  obtain ⟨k, rfl⟩ := hb
  unfold pageNext
  split <;> omega

/-- Bytes inside a page whose addresses are reached as they are and are not frozen: all are acknowledged in order. -/
theorem State.ackBytes_inPage (s : State) {reach : Nat → Option Nat} {base : Nat} (late : Bool) (hb : 32 ∣ base) :
    ∀ (l : List Byte) (x : Nat), (∀ y, x ≤ y → y < x + l.length → reach y = some y ∧ s.frozenByte y = false) →
      base ≤ x → l ≠ [] → x + l.length ≤ base + 32 →
      s.ackBytes reach late x l =
        ((List.range' x l.length).zip l, if x + l.length = base + 32 then base else x + l.length, s)
  | [], _, _, _, hl, _ => absurd rfl hl
  | b :: l, x, hr, h1, _, h2 => by
    obtain ⟨hx, hf⟩ := hr x (Nat.le_refl x) (by simp)
    have hlen : (b :: l).length = l.length + 1 := rfl
    rw [hlen] at h2 hr ⊢
    have hp := pageNext_inPage hb h1 (by omega)
    simp only [State.ackBytes, hx, hf, Bool.false_and, Bool.false_eq_true, if_false, hp]
    by_cases hl : l = []
    · subst hl; simp [State.ackBytes]
    · have hpos := List.length_pos_iff.2 hl
      rw [if_neg (by omega), s.ackBytes_inPage late hb l (x + 1) (fun y h3 h4 => hr y (by omega) (by omega)) (by omega) hl (by omega)]
      simp [List.range'_succ, Nat.add_assoc, Nat.add_comm 1]

/-- Bytes at different addresses stand as they were written. -/
theorem lastOf_eq_self : ∀ {l : List (Nat × Byte)}, (l.map fun z => z.1).Nodup → lastOf l = l
  | [], _ => rfl
  | (y, b) :: l, h => by
    obtain ⟨hy, hl⟩ := List.nodup_cons.1 h
    have hne : ∀ z ∈ l, z.1 ≠ y := fun z hz e => hy (List.mem_map.2 ⟨z, hz, e⟩)
    have h1 : l.reverse.find? (fun z => decide (z.1 = y)) = none := by
      simpa [List.find?_eq_none] using fun a b hz => hne (a, b) hz
    have h2 : l.filter (fun z => decide (z.1 ≠ y)) = l := List.filter_eq_self.2 fun z hz => decide_eq_true (hne z hz)
    simp only [lastOf, lastOf_eq_self hl, h1, h2, Option.map_none, Option.getD_none]

/-! ### A transaction without a START in an acknowledge slot -/

/-- A write that ends in no acknowledge slot, at an address that is not the group address. -/
theorem State.hostWrite_eq (s : State) {a : Byte} (ptr : Half) (data : List Byte) {e : BusEnd} (late : Bool)
    (ha : s.answers a = true) (hg : s.groupAddr a = false) (he : e ≠ .startInAck) :
    s.hostWrite a ptr data e late =
      let r := s.ackBytes (s.reachWrite a) late ptr.toNat data
      let s1 := r.2.2.setPtr a r.2.1
      if endApplies e then (lastOf r.1).foldl State.applyByte s1 else s1 := by
  simp [State.hostWrite, State.setPtr, ha, hg, he]

/-- A write whose first byte is not acknowledged applies nothing: counters and pointer change. -/
theorem State.hostWrite_none (s : State) {a : Byte} {ptr : Half} {b : Byte} {e : BusEnd} {x : Nat} {t : State}
    (ha : s.answers a = true) (hg : s.groupAddr a = false) (he : e ≠ .startInAck)
    (hr : s.ackBytes (s.reachWrite a) false ptr.toNat [b] = ([], x, t)) :
    s.hostWrite a ptr [b] e false = t.setPtr a x := by
  simp [State.hostWrite_eq s ptr [b] false ha hg he, hr, lastOf]

/-- A write that ends without an end changes the registers of the host bus alone (R366). -/
theorem State.hostWrite_unended (s : State) (a : Byte) (ptr : Half) (data : List Byte) (late : Bool) :
    onlyHbs s (s.hostWrite a ptr data .none late) := by
  unfold State.hostWrite
  split
  · exact .refl s
  · simp only [endApplies, Bool.false_eq_true, if_false]
    split
    · exact (State.groupBytes_onlyHbs _ _ _).trans rfl
    · exact (State.ackBytes_onlyHbs _ _ _ _ _).trans rfl

/-! ### FAB_TDATA -/

/-- No block that runs freezes a byte of the fabric registers. -/
theorem State.frozenByte_fab (s : State) {y : Nat} (h1 : 0x900 ≤ y) (h2 : y < 0xA00) : s.frozenByte y = false := by
  unfold State.frozenByte
  rw [if_neg (by omega), dif_neg (by omega), dif_neg (by omega)]

/-- Outside the rescue address a byte of the fabric registers is reached as it is. -/
theorem State.reachWrite_fab (s : State) {a : Byte} {y : Nat} (hr : s.rescue a = false) (h2 : y < 0xA00) :
    s.reachWrite a y = some y := by
  unfold State.reachWrite State.reach
  have h3 : y < 0x1000 ∨ 0x4000 ≤ y := by omega
  have h4 : ¬ (0x5000 ≤ y ∧ y < 0x6000) := by omega
  simp [hr, h3, h4]

/-- FAB_TDATA is the register of its sixteen bytes (FAB register table). -/
theorem State.regAt_tdata (s : State) {y : Nat} (h1 : 0x9B0 ≤ y) (h2 : y < 0x9C0) :
    s.regAt y = some (0x9B0, 16, ofLe s.fab.tdata.toList) := by
  obtain ⟨i, rfl⟩ : ∃ i, y = 0x9B0 + i := ⟨y - 0x9B0, by omega⟩
  have hi : i < 16 := by omega
  have hrow : s.rowsOf (0x9B0 + i) = (s.fab.regs, 0x900) := by
    unfold State.rowsOf
    simp only [show ∀ n, n ≤ 0x9B0 → ¬ (0x9B0 + i < n) by intros; omega, show 0x9B0 + i < 0xA00 by omega, if_true, if_false,
      Nat.reduceLeDiff]
  have hoff : 0x9B0 + i - 0x900 = 0xB0 + i := by omega
  have hno : ∀ o n, o + n ≤ 0xB0 → decide (o ≤ 0xB0 + i ∧ 0xB0 + i < o + n) = false := fun o n h => decide_eq_false (by omega)
  have hyes : decide (0xB0 ≤ 0xB0 + i ∧ 0xB0 + i < 0xB0 + 16) = true := decide_eq_true (by omega)
  unfold State.regAt rowAt
  rw [hrow]
  simp (disch := omega) only [hoff, Fab.regs, List.find?_cons, hno, hyes, Option.map_some]

/-- Bytes below the highest of their register as the register space keeps them. -/
def lowPut (l : List (Nat × Byte)) (z : Nat × Byte) : List (Nat × Byte) := (l.filter fun x => decide (x.1 ≠ z.1)) ++ [z]

theorem find?_lowPut (l : List (Nat × Byte)) (z : Nat × Byte) (y : Nat) :
    (lowPut l z).find? (fun x => decide (x.1 = y)) = if y = z.1 then some z else l.find? fun x => decide (x.1 = y) := by
  rw [lowPut, List.find?_append]
  by_cases h : y = z.1
  · have hn : (l.filter fun x => decide (x.1 ≠ z.1)).find? (fun x => decide (x.1 = y)) = none := by
      rw [List.find?_eq_none]
      intro x hx e
      exact of_decide_eq_true (List.mem_filter.1 hx).2 ((of_decide_eq_true e).trans h)
    rw [hn, Option.none_or, if_pos h, List.find?_cons, decide_eq_true h.symm]
  · have he : (fun x : Nat × Byte => decide (decide (x.1 ≠ z.1) = true ∧ decide (x.1 = y) = true)) = fun x => decide (x.1 = y) := by
      funext x
      by_cases hx : x.1 = y <;> simp [hx, h]
    simp only [List.find?_filter, he, h, Ne.symm h, List.find?_cons, List.find?_nil, decide_false, Option.or_none, if_false]

theorem find?_foldl_lowPut_of_ne {y : Nat} : ∀ (ws low : List (Nat × Byte)), (∀ z ∈ ws, z.1 ≠ y) →
    (ws.foldl lowPut low).find? (fun x => decide (x.1 = y)) = low.find? fun x => decide (x.1 = y)
  | [], _, _ => rfl
  | z :: ws, low, h => by
    rw [List.foldl_cons, find?_foldl_lowPut_of_ne ws _ fun w hw => h w (List.mem_cons_of_mem _ hw), find?_lowPut,
      if_neg (Ne.symm (h z List.mem_cons_self))]

/-- Bytes kept at consecutive addresses are found there. -/
theorem find?_foldl_lowPut : ∀ (l : List Byte) (y : Nat) (low : List (Nat × Byte)) (i : Nat) (hi : i < l.length),
    (((List.range' y l.length).zip l).foldl lowPut low).find? (fun x => decide (x.1 = y + i)) = some (y + i, l[i])
  | b :: l, y, low, 0, _ => by
    have hne : ∀ z ∈ (List.range' (y + 1) l.length).zip l, z.1 ≠ y + 0 := fun z hz => by
      have := List.mem_range'_1.1 (List.of_mem_zip (a := z.1) (b := z.2) hz).1
      omega
    simp only [List.length_cons, List.range'_succ, List.zip_cons_cons, List.foldl_cons]
    rw [find?_foldl_lowPut_of_ne _ _ hne, find?_lowPut]
    simp
  | b :: l, y, low, i + 1, hi => by
    have h := find?_foldl_lowPut l (y + 1) (lowPut low (y, b)) i (Nat.lt_of_succ_lt_succ hi)
    have e : y + (i + 1) = y + 1 + i := by omega
    simpa only [List.length_cons, List.range'_succ, List.zip_cons_cons, List.foldl_cons, List.getElem_cons_succ, e] using h

/-- No byte of FAB_TDATA stands alone. -/
theorem State.putByte_tdata (s : State) (w : Who) {y : Nat} (b : Byte) (h1 : 0x9B0 ≤ y) (h2 : y < 0x9C0) :
    s.putByte w y b = s.putReg w y b := by
  have h : s.putLone w y b = none := by
    unfold State.putLone
    rw [if_neg (by omega), if_neg (by omega), dif_neg (by omega), dif_neg (by omega), if_neg (by omega)]
  rw [State.putByte, h, Option.getD_none]

/-- A byte of FAB_TDATA below the highest is kept. -/
theorem State.applyByte_tdata_low (s : State) {z : Nat × Byte} (h1 : 0x9B0 ≤ z.1) (h2 : z.1 < 0x9BF) :
    s.applyByte z = s.modHbs fun h => { h with low := lowPut h.low z } := by
  rw [State.applyByte, s.frozenByte_fab (by omega) (by omega), if_neg Bool.false_ne_true,
    s.putByte_tdata _ _ h1 (by omega), State.putReg, s.regAt_tdata h1 (by omega)]
  exact if_pos (by omega)

theorem State.foldl_applyByte_tdata_low : ∀ (ws : List (Nat × Byte)) (s : State), (∀ z ∈ ws, 0x9B0 ≤ z.1 ∧ z.1 < 0x9BF) →
    ws.foldl State.applyByte s = s.modHbs fun h => { h with low := ws.foldl lowPut h.low }
  | [], _, _ => rfl
  | z :: ws, s, h => by
    obtain ⟨h1, h2⟩ := h z List.mem_cons_self
    rw [List.foldl_cons, s.applyByte_tdata_low h1 h2,
      State.foldl_applyByte_tdata_low ws _ fun w hw => h w (List.mem_cons_of_mem _ hw)]
    rfl

/-- Bytes that a number is made of. -/
theorem leBytes_ofLe : ∀ l : List Byte, leBytes l.length (ofLe l) = l
  | [] => rfl
  | b :: l => by
    have h1 : BitVec.ofNat 8 (b.toNat + 256 * ofLe l) = b := by
      apply BitVec.eq_of_toNat_eq; have := b.isLt; simp; omega
    have h2 : (b.toNat + 256 * ofLe l) >>> 8 = ofLe l := by
      have := b.isLt; rw [Nat.shiftRight_eq_div_pow]; omega
    rw [List.length_cons, leBytes_succ, ofLe, h1, h2, leBytes_ofLe l]

theorem State.regWrite_tdata (s : State) (w : Who) (v : Nat) (hi : Byte) :
    s.regWrite w 0x9B0 v hi = s.modFab fun f => { f with tdata := toVec 16 (leBytes 16 v) } := rfl

/-- The highest byte of FAB_TDATA makes the register take the bytes kept and itself (R15). -/
theorem State.applyByte_tdata_top (s : State) (l : List Byte) (b : Byte) (hl : l.length = 15)
    (hlow : ∀ (i : Nat) (hi : i < l.length),
      s.hbs.low.find? (fun x => decide (x.1 = 0x9B0 + i)) = some (0x9B0 + i, l[i])) :
    ∃ low, s.applyByte (0x9BF, b) =
      { s with fab := { s.fab with tdata := toVec 16 (l ++ [b]) }, hbs := { s.hbs with low } } := by
  refine ⟨s.hbs.low.filter fun x => decide (x.1 < 0x9B0 ∨ 0x9B0 + 16 ≤ x.1), ?_⟩
  have hbytes : leBytes 16 (ofLe (l ++ [b])) = l ++ [b] := by
    have := leBytes_ofLe (l ++ [b])
    rwa [List.length_append, hl] at this
  have hlows : ((List.range 15).map fun i =>
      ((s.hbs.low.find? fun x => decide (x.1 = 0x9B0 + i)).map fun x => x.2).getD (byteOf (ofLe s.fab.tdata.toList) i)) = l := by
    apply List.ext_getElem (by simp [hl])
    intro i _ hi
    simp [hlow i hi]
  rw [State.applyByte, s.frozenByte_fab (by omega) (by omega), if_neg Bool.false_ne_true,
    s.putByte_tdata _ _ (by omega) (by omega), State.putReg, s.regAt_tdata (by omega) (by omega)]
  simp only [show ¬ (0x9BF + 1 < 0x9B0 + 16) by omega, if_false]
  have hw : isW1c 0x9B0 = false := by decide
  simp only [hw, Bool.false_eq_true, if_false]
  rw [hlows]
  rw [State.regWrite_tdata, hbytes]
  rfl

/-- A write of all sixteen bytes of FAB_TDATA puts them in the register (R15, R366). -/
theorem State.hostWrite_tdata (s : State) {a : Byte} (d : Vector Byte 16) (late : Bool) (ha : s.answers a = true)
    (hr : s.rescue a = false) (hg : s.groupAddr a = false) :
    let t := s.hostWrite a 0x9B0 d.toList .stop late
    t = { s with fab := { s.fab with tdata := d }, hbs := t.hbs } ∧ (t.hostIf a).ptr = 0x9A0 := by
  have hlen : d.toList.length = 16 := d.length_toList
  have hack : s.ackBytes (s.reachWrite a) late 0x9B0 d.toList = ((List.range' 0x9B0 16).zip d.toList, 0x9A0, s) := by
    rw [s.ackBytes_inPage (base := 0x9A0) late (by decide) d.toList 0x9B0
      (fun y h1 h2 => ⟨s.reachWrite_fab hr (by omega), s.frozenByte_fab (by omega) (by omega)⟩) (by omega)
      (List.ne_nil_of_length_pos (by omega)) (by omega), hlen]
    rfl
  have hnd : (((List.range' 0x9B0 16).zip d.toList).map fun z => z.1).Nodup := by
    rw [List.map_fst_zip (by simp [hlen])]
    exact List.nodup_range'
  obtain ⟨l, b, hl, hd⟩ : ∃ l b, l.length = 15 ∧ d.toList = l ++ [b] :=
    ⟨d.toList.dropLast, d.toList.getLast (List.ne_nil_of_length_pos (by omega)), by simp,
      (List.dropLast_concat_getLast _).symm⟩
  have hz : (List.range' 0x9B0 16).zip d.toList = (List.range' 0x9B0 l.length).zip l ++ [(0x9BF, b)] := by
    rw [hd, hl, show List.range' 0x9B0 16 = List.range' 0x9B0 15 ++ [0x9BF] from rfl,
      List.zip_append (by simp [hl])]
    rfl
  have hin : ∀ z ∈ (List.range' 0x9B0 l.length).zip l, 0x9B0 ≤ z.1 ∧ z.1 < 0x9BF := fun z hz => by
    have := List.mem_range'_1.1 (List.of_mem_zip (a := z.1) (b := z.2) hz).1
    omega
  have hvec : toVec 16 d.toList = d := by
    ext i hi
    simp [toVec]
  rw [State.hostWrite_eq s 0x9B0 d.toList late ha hg (by decide)]
  simp only [show (0x9B0 : Half).toNat = 0x9B0 from rfl, hack, endApplies, if_true, lastOf_eq_self hnd]
  rw [hz, List.foldl_append, State.foldl_applyByte_tdata_low _ _ hin, List.foldl_cons, List.foldl_nil]
  obtain ⟨low, he⟩ := State.applyByte_tdata_top
    ((s.setPtr a 0x9A0).modHbs fun h =>
      { h with low := ((List.range' 0x9B0 l.length).zip l).foldl lowPut h.low }) l b hl
    (fun i hi => find?_foldl_lowPut l 0x9B0 _ i hi)
  rw [he, ← hd, hvec]
  exact ⟨rfl, State.ptr_of_setPtr (s := s) (x := 0x9A0) rfl⟩

/-- A write of one byte of FAB_TDATA below the highest keeps it (R15). -/
theorem State.hostWrite_tdata_low (s : State) {a : Byte} (i : Fin 15) (b : Byte) (late : Bool) (ha : s.answers a = true)
    (hr : s.rescue a = false) (hg : s.groupAddr a = false) :
    let t := s.hostWrite a (BitVec.ofNat 16 (0x9B0 + i.val)) [b] .stop late
    onlyHbs s t ∧ (0x9B0 + i.val, b) ∈ t.hbs.low ∧ (t.hostIf a).ptr = BitVec.ofNat 16 (0x9B1 + i.val) := by
  have hi := i.isLt
  have hp : (BitVec.ofNat 16 (0x9B0 + i.val)).toNat = 0x9B0 + i.val := by
    rw [BitVec.toNat_ofNat]; omega
  have hack : s.ackBytes (s.reachWrite a) late (0x9B0 + i.val) [b] = ([(0x9B0 + i.val, b)], 0x9B1 + i.val, s) := by
    rw [s.ackBytes_inPage (base := 0x9A0) late (by decide) [b] (0x9B0 + i.val)
      (fun y h1 h2 => by
        rw [List.length_singleton] at h2
        exact ⟨s.reachWrite_fab hr (by omega), s.frozenByte_fab (by omega) (by omega)⟩) (by omega)
      (by simp) (by rw [List.length_singleton]; omega), List.length_singleton, if_neg (by omega),
      show 0x9B0 + i.val + 1 = 0x9B1 + i.val by omega]
    rfl
  rw [State.hostWrite_eq s _ [b] late ha hg (by decide)]
  simp only [hp, hack, endApplies, if_true, lastOf_eq_self (l := [(0x9B0 + i.val, b)]) (by simp), List.foldl_cons, List.foldl_nil]
  rw [State.applyByte_tdata_low _ (by simp) (by simp; omega)]
  refine ⟨rfl, ?_, State.ptr_of_setPtr (s := s) rfl⟩
  simp [State.modHbs, lowPut]

/-! ### Bytes that are not acknowledged -/

/-- A byte outside scope is counted (R374). -/
theorem State.hostWrite_outside (s : State) {a : Byte} {ptr : Half} (b : Byte) {e : BusEnd} (ha : s.answers a = true)
    (hg : s.groupAddr a = false) (hr : s.reachWrite a ptr.toNat = none) (he : e ≠ .startInAck) :
    let t := s.hostWrite a ptr [b] e false
    onlyHbs s t ∧ t.hbs.nScope = satInc s.hbs.nScope ∧ t.hbs.evt = setB s.hbs.evt 3 true := by
  rw [State.hostWrite_none s (x := ptr.toNat) (t := s.modHbs Hbs.scopeErr) ha hg he (by simp only [State.ackBytes, hr])]
  exact ⟨rfl, rfl, rfl⟩

/-- A byte of a running block is counted, and the pointer stays (R367). -/
theorem State.hostWrite_frozen (s : State) {a : Byte} {ptr : Half} (b : Byte) {e : BusEnd} {y : Nat} (ha : s.answers a = true)
    (hg : s.groupAddr a = false) (hr : s.reachWrite a ptr.toNat = some y) (hf : s.frozenByte y = true) (he : e ≠ .startInAck) :
    let t := s.hostWrite a ptr [b] e false
    onlyHbs s t ∧ t.hbs.nFroz = satInc s.hbs.nFroz ∧ (t.hostIf a).ptr = ptr := by
  rw [State.hostWrite_none s (x := ptr.toNat) (t := s.modHbs fun h => { h with nFroz := satInc h.nFroz }) ha hg he
    (by simp only [State.ackBytes, hr, hf, Bool.not_false, Bool.and_self, if_true])]
  refine ⟨rfl, rfl, (State.ptr_of_setPtr (x := ptr.toNat) rfl).trans ?_⟩
  rw [BitVec.ofNat_toNat, BitVec.setWidth_eq]

/-! ### Reads -/

/-- Clearing RC fields leaves the interfaces alone. -/
theorem State.rcClear_ifs (s : State) (y : Nat) : (s.rcClear y).hbs.ifs = s.hbs.ifs := by
  unfold State.rcClear State.rcGlobal State.rcPort
  repeat' split
  all_goals rfl

/-- A read outside scope drives 0 (R369). -/
theorem State.hostRead_outside (s : State) {a : Byte} {ptr : Half} (ha : s.answers a = true) (hg : s.groupAddr a = false)
    (hr : s.reach a ptr.toNat = none) : (s.hostRead a ptr).hostIf a = { s.hostIf a with ptr := ptr + 1, out := 0 } := by
  simp only [State.hostRead, ha, hg, hr, Bool.not_true, Bool.or_self, Bool.false_eq_true, if_false]
  exact s.hostIf_setIf a _ (s.hostIf_addr a)

/-- A read inside scope drives the byte of the register and goes on by one; it may capture the register (R14, R365, R369). -/
theorem State.hostRead_inside (s : State) {a : Byte} {ptr : Half} {y : Nat} (ha : s.answers a = true)
    (hg : s.groupAddr a = false) (hr : s.reach a ptr.toNat = some y) :
    ∃ hold, (s.hostRead a ptr).hostIf a =
      { s.hostIf a with ptr := ptr + 1, out := s.hostByte (s.hostIf a) y, hold } := by
  simp only [State.hostRead, ha, hg, hr, Bool.not_true, Bool.or_self, Bool.false_eq_true, if_false]
  split
  · exact ⟨_, s.hostIf_setIf a _ (s.hostIf_addr a)⟩
  · rw [State.hostIf_of_ifs (State.rcClear_ifs _ _)]
    exact ⟨_, s.hostIf_setIf a _ (s.hostIf_addr a)⟩

/-- The lowest byte of a register, or a byte of none, is read live (R14). -/
theorem State.hostByte_live (s : State) (i : HostIf) {y : Nat} (h : ∀ b n v, s.regAt y = some (b, n, v) → b = y) :
    s.hostByte i y = s.peek y := by
  unfold State.hostByte
  split
  · rfl
  · next r hr => rw [if_pos (h r.1 r.2.1 r.2.2 hr)]

/-- A higher byte of a register is that of its holding copy (R14). -/
theorem State.hostByte_held (s : State) (i : HostIf) {y b n v : Nat} {w : List Byte} (h : s.regAt y = some (b, n, v))
    (hb : b ≠ y) (hw : i.hold.find? (fun x => decide (x.1 = b)) = some (b, w)) : s.hostByte i y = w.getD (y - b) 0 := by
  simp only [State.hostByte, h, hb, hw, if_false]

/-- A higher byte of a register that was not captured is live (R14). -/
theorem State.hostByte_uncaptured (s : State) (i : HostIf) {y b n v : Nat} (h : s.regAt y = some (b, n, v)) (hb : b ≠ y)
    (hw : i.hold.find? (fun x => decide (x.1 = b)) = none) : s.hostByte i y = s.peek y := by
  simp only [State.hostByte, h, hb, hw, if_false]

/-- A read of the lowest byte of FAB_ERR captures the register and clears its counters (R17, R369). -/
theorem State.hostRead_fabErr (s : State) {a : Byte} {n v : Nat} (ha : s.answers a = true) (hg : s.groupAddr a = false)
    (hr : s.reach a 0x994 = some 0x994) (hv : s.regAt 0x994 = some (0x994, n, v)) :
    let t := s.hostRead a 0x994
    t = { s with fab := { s.fab with nRenew := 0, nDrop := 0, nCrcD := 0, nCrcU := 0 }, hbs := t.hbs } ∧
      (0x994, leBytes n v) ∈ (t.hostIf a).hold := by
  have hf : (some (0x994, n, v) : Option RegRow).filter (fun r => decide (r.1 = 0x994)) = some (0x994, n, v) := rfl
  simp only [State.hostRead, ha, hg, show (0x994 : Half).toNat = 0x994 from rfl, hr, hv, hf, Bool.not_true, Bool.or_self,
    Bool.false_eq_true, if_false]
  refine ⟨rfl, ?_⟩
  rw [State.hostIf_of_ifs (State.rcClear_ifs _ _), State.hostIf_setIf]
  · simp
  · exact s.hostIf_addr a

/-- A write to an address that does not answer does nothing (R364). -/
theorem State.hostWrite_silent (s : State) {a : Byte} (ptr : Half) (d : List Byte) (e : BusEnd) (late : Bool)
    (h : s.answers a = false) : s.hostWrite a ptr d e late = s := by
  rw [State.hostWrite, h]; rfl

/-- A read at an address that does not answer does nothing (R364). -/
theorem State.hostRead_silent (s : State) {a : Byte} (ptr : Half) (h : s.answers a = false) : s.hostRead a ptr = s := by
  rw [State.hostRead, h]; rfl

/-- The byte a read drives, and the pointer after it (R14, R365, R369). -/
theorem State.hostRead_byte (s : State) {a : Byte} {ptr : Half} (ha : s.answers a = true) (hg : s.groupAddr a = false) :
    let t := s.hostRead a ptr
    (t.hostIf a).ptr = ptr + 1 ∧ (s.reach a ptr.toNat = none → (t.hostIf a).out = 0) ∧
      ∀ y, s.reach a ptr.toNat = some y →
        ((∀ b n v, s.regAt y = some (b, n, v) → b = y) → (t.hostIf a).out = s.peek y) ∧
        ∀ b n v, s.regAt y = some (b, n, v) → b ≠ y →
          (∀ w, (s.hostIf a).hold.find? (fun x => decide (x.1 = b)) = some (b, w) → (t.hostIf a).out = w.getD (y - b) 0) ∧
          ((s.hostIf a).hold.find? (fun x => decide (x.1 = b)) = none → (t.hostIf a).out = s.peek y) := by
  cases hr : s.reach a ptr.toNat with
  | none => simp [s.hostRead_outside ha hg hr]
  | some y =>
    obtain ⟨hold, ho⟩ := s.hostRead_inside ha hg hr
    simp only [ho, true_and, Option.some.injEq, reduceCtorEq, false_implies]
    rintro _ rfl
    exact ⟨s.hostByte_live _, fun b n v hv hb => ⟨fun w => s.hostByte_held _ hv hb, s.hostByte_uncaptured _ hv hb⟩⟩

end Sys2Proof.Machine
end

section
/-! Group commits and the command mailbox (R375-R382). -/

namespace Sys2Proof.Machine

theorem State.atDev_of_regsUp {s : State} (h : s.regsUp = true) (f : State → State) : s.atDev f = f s := if_pos h

/-! ### Group commits (R377) -/

/-- Every block has one bit of GLB_GCSEL to itself. -/
theorem gcOrder_filter_bit : ∀ x ∈ gcOrder, (gcOrder.filter fun b => decide (b.1 = x.1)) = [x] := by decide

theorem gcOrder_bit_lt : ∀ x ∈ gcOrder, x.1 < 64 := by decide

/-- One block of a group commit leaves GLB and the phase alone and marks its own bit at most. -/
theorem State.groupOne_frame (x : State × DWord) (b : Nat × Block) (hb : b.1 < 64) :
    (State.groupOne x b).1.glb = x.1.glb ∧ (State.groupOne x b).1.phase = x.1.phase ∧
      ∀ i, b.1 ≠ i → (State.groupOne x b).2.getLsbD i = x.2.getLsbD i := by
  unfold State.groupOne
  split
  · refine ⟨x.1.commitBlock_glb _, x.1.commitBlock_phase _, fun i hi => ?_⟩
    dsimp only
    split
    · rw [setB_bit x.2 b.1 true hb, if_neg (Ne.symm hi)]
    · rfl
  · exact ⟨rfl, rfl, fun _ _ => rfl⟩

/-- A group commit leaves GLB and the phase alone and marks only bits of the blocks it commits. -/
theorem State.foldl_groupOne : ∀ (l : List (Nat × Block)) (x : State × DWord), (∀ b ∈ l, b.1 < 64) →
    let r := l.foldl State.groupOne x
    r.1.glb = x.1.glb ∧ r.1.phase = x.1.phase ∧ ∀ i, (∀ b ∈ l, b.1 ≠ i) → r.2.getLsbD i = x.2.getLsbD i
  | [], _, _ => ⟨rfl, rfl, fun _ _ => rfl⟩
  | b :: l, x, hlt => by
    obtain ⟨hb, hl⟩ := List.forall_mem_cons.1 hlt
    obtain ⟨g1, p1, m1⟩ := State.groupOne_frame x b hb
    obtain ⟨g2, p2, m2⟩ := State.foldl_groupOne l (State.groupOne x b) hl
    refine ⟨g2.trans g1, p2.trans p1, fun i hi => ?_⟩
    obtain ⟨hbi, hli⟩ := List.forall_mem_cons.1 hi
    exact (m2 i hli).trans (m1 i hbi)

/-- What every group commit leaves (R377). -/
theorem State.groupCommit_frame (s : State) :
    let t := s.groupCommit
    t.phase = s.phase ∧ t.glb.gcom.cmd = 0xC5 ∧ t.glb.evt = setB s.glb.evt 1 true ∧ t.glb.gcsel = s.glb.gcsel ∧
      ∀ i, s.glb.gcsel.getLsbD i = false → t.glb.gcres.getLsbD i = false := by
  obtain ⟨hg, hp, hm⟩ := State.foldl_groupOne (gcOrder.filter fun b => s.glb.gcsel.getLsbD b.1) (s, 0)
    fun b hb => gcOrder_bit_lt b (List.mem_filter.1 hb).1
  have hsel := congrArg (fun g : Glb => g.gcsel) hg
  refine ⟨hp, rfl, congrArg (fun g : Glb => setB g.evt 1 true) hg, hsel, fun i hi => (hm i ?_).trans (by simp)⟩
  rintro b hb rfl
  exact Bool.false_ne_true (hi.symm.trans (List.mem_filter.1 hb).2)

/-- With no block selected a group commit is refused (R377). -/
theorem State.groupCommit_none (s : State) (h : s.glb.gcsel = 0) : s.groupCommit =
    s.modGlb fun g => { g with gcom := { cmd := 0xC5, cst := 2 }, gcres := 0, evt := setB g.evt 1 true } := by
  have hc : (gcOrder.filter fun b => s.glb.gcsel.getLsbD b.1) = [] := by simp [h]
  simp [State.groupCommit, hc]

/-- With one block selected a group commit is its commit (R377). -/
theorem State.groupCommit_one (s : State) {x : Nat × Block} (hx : x ∈ gcOrder) (hb : s.hasBlock x.2 = true)
    (hs : ∀ i, s.glb.gcsel.getLsbD i = decide (i = x.1)) :
    s.groupCommit = (s.commitBlock x.2).modGlb fun g => { g with
      gcom := { cmd := 0xC5, cst := if ((s.commitBlock x.2).blockCom x.2).ref then 2 else 1 }
      gcres := if ((s.commitBlock x.2).blockCom x.2).ref then setB 0 x.1 true else 0, evt := setB g.evt 1 true } := by
  have hc : (gcOrder.filter fun b => s.glb.gcsel.getLsbD b.1) = [x] := by
    simp only [hs]; exact gcOrder_filter_bit x hx
  have hbit : (setB (0 : DWord) x.1 true).getLsbD x.1 = true := by
    rw [setB_bit _ _ _ (gcOrder_bit_lt x hx), if_pos rfl]
  simp only [State.groupCommit, hc, List.foldl_cons, List.foldl_nil, State.groupOne, hb, if_true]
  cases hr : ((s.commitBlock x.2).blockCom x.2).ref
  · simp
  · have hf : [x].filter (fun b => (setB (0 : DWord) x.1 true).getLsbD b.1) = [x] := by rw [List.filter_cons, hbit]; rfl
    simp only [if_true, hf]

/-- The commit of the host-bus block with SDATO in its range takes the staged word (R362). -/
theorem State.hbsCommit_accepted (s : State) (h1 : 10 ≤ s.hbs.cfgS.toNat / 256) (h2 : s.hbs.cfgS.toNat / 256 ≤ 100) :
    s.hbsCommit.hbs.cfg = s.hbs.cfgS ∧ s.hbsCommit.hbs.com = commitResult 0 := by
  have hf : fld s.hbs.cfgS 8 8 = s.hbs.cfgS.toNat / 256 := by
    rw [fld, Nat.shiftRight_eq_div_pow]; omega
  have ho : outside 10 100 (fld s.hbs.cfgS 8 8) = false := by
    simp [outside, hf]; omega
  simp [State.hbsCommit, State.modHbs, ho]

/-- With the registers up an instruction of the device takes its effect (R371). -/
theorem next_atDev {s : State} (h : s.regsUp = true) (f : State → State) :
    (Host.Outcome.next (s.atDev f) : Host.Outcome State Fault Refusal) = .next (f s) := congrArg Host.Outcome.next (State.atDev_of_regsUp h f)

/-- A group commit of the host-bus block alone with SDATO in its range takes the staged word (R362, R377). -/
theorem State.groupCommit_hbs (s : State) (hs : ∀ i, s.glb.gcsel.getLsbD i = decide (i = 43)) (h1 : 10 ≤ s.hbs.cfgS.toNat / 256)
    (h2 : s.hbs.cfgS.toNat / 256 ≤ 100) : let t := s.groupCommit
    t.hbs.cfg = s.hbs.cfgS ∧ t.glb.gcom.cst = 1 ∧ t.glb.gcres = 0 := by
  obtain ⟨hcfg, hcom⟩ := s.hbsCommit_accepted h1 h2
  have href : ((s.commitBlock .hbs).blockCom .hbs).ref = false := congrArg (fun c => c.ref) hcom
  rw [s.groupCommit_one (x := (43, .hbs)) (by decide) rfl hs]
  simp only [href, Bool.false_eq_true, if_false]
  exact ⟨hcfg, rfl, rfl⟩

end Sys2Proof.Machine
end

section
/-! The command mailbox: how a command is taken, and what the hardware commands leave on the ports they name (R378-R382). -/

namespace Sys2Proof.Machine

/-! ### Taking a command (R378) -/

/-- GLB_MBXRES as a command is taken: SEQ, CMD, ST running, PMASK, FLAGS and PRES of every port (R378, R380). -/
def State.issueRes (s : State) (seq cmd pmask flags : Byte) : Vector Byte 36 :=
  toVec 36 ([seq, cmd, 3, 0, pmask, flags, 0, 0] ++ (List.finRange 8).map (s.presAtIssue pmask))

section
variable (s : State) (seq cmd pmask flags : Byte)

@[simp] theorem State.issueRes_seq : (s.issueRes seq cmd pmask flags)[0] = seq := by simp [State.issueRes, toVec]
@[simp] theorem State.issueRes_cmd : (s.issueRes seq cmd pmask flags)[1] = cmd := by simp [State.issueRes, toVec]
@[simp] theorem State.issueRes_st : (s.issueRes seq cmd pmask flags)[2] = 3 := by simp [State.issueRes, toVec]
@[simp] theorem State.issueRes_pmask : (s.issueRes seq cmd pmask flags)[4] = pmask := by simp [State.issueRes, toVec]
@[simp] theorem State.issueRes_flags : (s.issueRes seq cmd pmask flags)[5] = flags := by simp [State.issueRes, toVec]

/-- PRES at issue. -/
@[simp] theorem State.issueRes_pres (p : PortId) : (s.issueRes seq cmd pmask flags)[(presIx p).val] = s.presAtIssue pmask p := by
  have h8 : 8 ≤ 8 + p.val := Nat.le_add_right 8 p.val
  simp only [State.issueRes, toVec, Vector.getElem_ofFn, presIx]
  have h0 : 8 + p.val - [seq, cmd, 3, 0, pmask, flags, 0, 0].length = p.val := Nat.add_sub_cancel_left 8 p.val
  rw [List.getD_eq_getElem?_getD, List.getElem?_append_right h8, h0, List.getElem?_map]
  simp

end

@[simp] theorem State.withGlb_issueRes (s : State) (g : Glb) : (s.withGlb g).issueRes = s.issueRes := rfl

/-- SEQ of the kept result comes again (R378). -/
theorem State.mbxIssue_again {s : State} {seq : Byte} (h3 : s.glb.mbxSt ≠ 3) (hv : s.glb.mbxValid = true)
    (hs : s.glb.mbxres[0] = seq) : s.mbxIssue seq =
      s.modGlb fun g => { g with mbxcmd := g.mbxcmd.set 31 seq, evt := setB g.evt 2 true } := by
  rw [State.mbxIssue, if_neg h3]
  exact if_pos ⟨hv, hs⟩

/-- A new SEQ takes the command of the page (R378). -/
theorem State.mbxIssue_new {s : State} {seq : Byte} (h3 : s.glb.mbxSt ≠ 3) (h : s.glb.mbxValid = false ∨ s.glb.mbxres[0] ≠ seq) :
    s.mbxIssue seq = (s.modGlb fun g => { g with mbxcmd := g.mbxcmd.set 31 seq }).mbxTake seq := by
  rw [State.mbxIssue, if_neg h3]
  refine if_neg ?_
  rintro ⟨hv, hs⟩
  rcases h with h | h
  · exact Bool.false_ne_true (h.symm.trans hv)
  · exact h hs

/-- A command number that is none is refused (R378). -/
theorem State.mbxTake_unknown (s : State) (seq : Byte) (h : s.glb.mbxcmd[0] = 0 ∨ 0x83 < (s.glb.mbxcmd[0]).toNat) :
    s.mbxTake seq = (s.modGlb fun g => { g with mbxres := s.issueRes seq s.glb.mbxcmd[0] s.glb.mbxcmd[1] 1 }).modGlb
      fun g => g.mbxFinal 2 0x40 := by
  have h1 : ¬ (0x80 ≤ (s.glb.mbxcmd[0]).toNat ∧ (s.glb.mbxcmd[0]).toNat ≤ 0x83) := by
    rcases h with h | h
    · rw [h]; decide
    · omega
  have h2 : s.glb.mbxcmd[0] = 0 ∨ 0x7F < (s.glb.mbxcmd[0]).toNat := h.imp_right (by omega)
  simp only [State.mbxTake, h1, h2, decide_false, Bool.false_eq_true, if_false, if_true]
  rfl

/-- A firmware command raises MBOX on the arbiter; refused, its result is final (R379). -/
theorem State.mbxTake_firmware (s : State) (seq : Byte) (h1 : 1 ≤ (s.glb.mbxcmd[0]).toNat) (h2 : (s.glb.mbxcmd[0]).toNat < 0x80) :
    s.mbxTake seq =
      let r := (s.modGlb fun g => { g with mbxres := s.issueRes seq s.glb.mbxcmd[0] s.glb.mbxcmd[1] 1 }).raiseNc arbiterId
        { cls := 0x20, arg := seq.setWidth 32, seq }
      if r.1 = 0 then r.2 else r.2.modGlb fun g => g.mbxFinal 2 (BitVec.ofNat 8 r.1) := by
  have h3 : ¬ (0x80 ≤ (s.glb.mbxcmd[0]).toNat ∧ (s.glb.mbxcmd[0]).toNat ≤ 0x83) := by omega
  have h4 : ¬ (s.glb.mbxcmd[0] = 0 ∨ 0x7F < (s.glb.mbxcmd[0]).toNat) := by
    rintro (h | h)
    · rw [h] at h1; exact absurd h1 (by decide)
    · omega
  simp only [State.mbxTake, h3, h4, decide_false, Bool.false_eq_true, if_false]
  rfl

/-- A hardware command runs at once (R380, R381). -/
theorem State.mbxTake_hardware (s : State) {seq cmd pmask : Byte} {arg : List Byte} (hc : s.glb.mbxcmd[0] = cmd)
    (hm : s.glb.mbxcmd[1] = pmask) (ha : (s.glb.mbxcmd.toList.drop 4).take 24 = arg) (h1 : 0x80 ≤ cmd.toNat) (h2 : cmd.toNat ≤ 0x83) :
    s.mbxTake seq = (s.modGlb fun g => { g with mbxres := s.issueRes seq cmd pmask 3 }).mbxRun cmd pmask arg := by
  have h3 : 0x80 ≤ cmd.toNat ∧ cmd.toNat ≤ 0x83 := ⟨h1, h2⟩
  simp only [State.mbxTake, hc, hm, ha, h3, and_self, decide_true, if_true]
  rfl

/-- A hardware command in a page written at once. -/
theorem State.mbxIssue_page {s : State} {v : Vector Byte 32} {seq cmd pmask : Byte} {arg : List Byte} (h3 : s.glb.mbxSt ≠ 3)
    (h : s.glb.mbxValid = false ∨ s.glb.mbxres[0] ≠ seq) (hc : (v.set 31 seq)[0] = cmd) (hm : (v.set 31 seq)[1] = pmask)
    (ha : ((v.set 31 seq).toList.drop 4).take 24 = arg) (h1 : 0x80 ≤ cmd.toNat) (h2 : cmd.toNat ≤ 0x83) :
    (s.modGlb fun g => { g with mbxcmd := v }).mbxIssue seq =
      (s.modGlb fun g => { g with mbxcmd := v.set 31 seq, mbxres := s.issueRes seq cmd pmask 3 }).mbxRun cmd pmask arg := by
  rw [State.mbxIssue_new (s := s.modGlb fun g => { g with mbxcmd := v }) h3 h]
  exact (s.modGlb fun g => { g with mbxcmd := v.set 31 seq }).mbxTake_hardware hc hm ha h1 h2

/-- The page that the row of a hardware command writes (R381). -/
def wholePage (cmd pmask arg : Byte) : Vector Byte 32 := toVec 32 [cmd, pmask, 0, 0, arg]

/-- ARG of such a page. -/
def wholeArg (arg : Byte) : List Byte := arg :: List.replicate 23 0

theorem wholePage_arg (cmd pmask arg seq : Byte) :
    (((wholePage cmd pmask arg).set 31 seq).toList.drop 4).take 24 = wholeArg arg := by
  apply List.ext_getElem (by simp [wholeArg])
  intro i h1 h2
  have hi : i < 24 := by simpa [wholeArg] using h2
  have h31 : 31 ≠ 4 + i := by omega
  cases i with
  | zero => simp [wholePage, toVec, wholeArg]
  | succ i => simp [wholePage, toVec, wholeArg, show 4 + (i + 1) = i + 5 by omega, show 31 ≠ i + 5 by omega, -List.reduceReplicate]

/-- The GLB registers as the hardware command of a whole page runs (R381). -/
def State.issuedGlb (s : State) (cmd pmask arg seq : Byte) : Glb :=
  { s.glb with mbxcmd := (wholePage cmd pmask arg).set 31 seq, mbxres := s.issueRes seq cmd pmask 3 }

theorem State.issuedGlb_evt (s : State) (cmd pmask arg seq : Byte) : (s.issuedGlb cmd pmask arg seq).evt = s.glb.evt := by
  simp only [State.issuedGlb]

theorem State.issuedGlb_mbxres (s : State) (cmd pmask arg seq : Byte) :
    (s.issuedGlb cmd pmask arg seq).mbxres = s.issueRes seq cmd pmask 3 := by
  simp only [State.issuedGlb]

/-- A whole page written and issued runs its hardware command (R378, R381). -/
theorem State.mbxWhole_runs {s : State} {cmd seq : Byte} (pmask arg : Byte) (h1 : 0x80 ≤ cmd.toNat) (h2 : cmd.toNat ≤ 0x83)
    (h3 : s.glb.mbxSt ≠ 3) (h : s.glb.mbxValid = false ∨ s.glb.mbxres[0] ≠ seq) :
    s.mbxWhole cmd pmask arg seq = (s.withGlb (s.issuedGlb cmd pmask arg seq)).mbxRun cmd pmask (wholeArg arg) := by
  have hc : ((wholePage cmd pmask arg).set 31 seq)[0] = cmd := by simp [wholePage, toVec]
  have hm : ((wholePage cmd pmask arg).set 31 seq)[1] = pmask := by simp [wholePage, toVec]
  rw [State.mbxWhole, if_neg h3]
  exact State.mbxIssue_page h3 h hc hm (wholePage_arg cmd pmask arg seq) h1 h2

/-- ARG of PORTS_OFF and ECLEAR keeps the layout (R381). -/
theorem mbxArgOk_zero (cmd : Byte) : mbxArgOk cmd (wholeArg 0) = true := by
  simp [mbxArgOk, wholeArg]

/-- ARG of COMMIT_PORTS and REVERT_PORTS keeps the layout below 32 alone (R381). -/
theorem mbxArgOk_subBlocks {cmd : Byte} (h : cmd = 0x81 ∨ cmd = 0x83) (arg : Byte) :
    mbxArgOk cmd (wholeArg arg) = decide (arg.toNat < 32) := by
  simp only [mbxArgOk, h, if_true]
  simp [wholeArg]

/-! ### The result of a hardware command (R380) -/

/-- A final result keeps every other byte. -/
theorem Glb.mbxFinal_other (g : Glb) (st rsn : Byte) {i : Nat} (hi : i < 36) (h2 : i ≠ 2) (h3 : i ≠ 3) :
    (g.mbxFinal st rsn).mbxres[i] = g.mbxres[i] := by
  simp [Glb.mbxFinal, Ne.symm h2, Ne.symm h3]

@[simp] theorem Glb.mbxFinal_pres (g : Glb) (st rsn : Byte) (p : PortId) :
    (g.mbxFinal st rsn).mbxres[(presIx p).val] = g.mbxres[(presIx p).val] :=
  g.mbxFinal_other st rsn (presIx p).isLt (by simp [presIx]; omega) (by simp [presIx]; omega)

@[simp] theorem Glb.mbxFinal_data (g : Glb) (st rsn : Byte) (p : PortId) :
    (g.mbxFinal st rsn).mbxres[(mbxDataIx p).val] = g.mbxres[(mbxDataIx p).val] :=
  g.mbxFinal_other st rsn (mbxDataIx p).isLt (by simp [mbxDataIx]; omega) (by simp [mbxDataIx]; omega)

@[simp] theorem Glb.mbxFinal_st (g : Glb) (st rsn : Byte) : (g.mbxFinal st rsn).mbxSt = st.toNat := by
  simp [Glb.mbxFinal, Glb.mbxSt]

@[simp] theorem Glb.mbxFinal_rsn (g : Glb) (st rsn : Byte) : (g.mbxFinal st rsn).mbxres[3] = rsn := by
  simp [Glb.mbxFinal]

@[simp] theorem Glb.mbxFinal_evt (g : Glb) (st rsn : Byte) : (g.mbxFinal st rsn).evt = setB g.evt 0 true := rfl

/-- ST after every port ended with PRES 0. -/
theorem Glb.mbxSum_all {g : Glb} {ps : List PortId} (h : ∀ p ∈ ps, g.mbxres[(presIx p).val] = 0) : g.mbxSum ps = 1 := by
  have hf : ps.filter (fun p => g.mbxres[presIx p] = 0) = ps := List.filter_eq_self.2 fun p hp => decide_eq_true (h p hp)
  simp only [Glb.mbxSum, hf, if_true]

/-- ST after the one port ended with another PRES. -/
theorem Glb.mbxSum_refused {g : Glb} {p : PortId} (h : g.mbxres[(presIx p).val] ≠ 0) : g.mbxSum [p] = 2 := by
  have hf : [p].filter (fun p => g.mbxres[presIx p] = 0) = [] := by rw [List.filter_cons, if_neg (by simpa using h)]; rfl
  rw [Glb.mbxSum, hf]; rfl

/-- PRES 0 set for a list of ports. -/
theorem Glb.foldl_setPres : ∀ (ps : List PortId) (g : Glb),
    let g' := ps.foldl (fun g p => g.setPres p 0) g
    g' = { g with mbxres := g'.mbxres } ∧ ∀ (i : Nat) (hi : i < 36),
      g'.mbxres[i] = if ∃ p ∈ ps, (presIx p).val = i then 0 else g.mbxres[i]
  | [], _ => ⟨rfl, fun _ _ => by simp⟩
  | p :: ps, g => by
    obtain ⟨h1, h2⟩ := Glb.foldl_setPres ps (g.setPres p 0)
    refine ⟨h1.trans rfl, fun i hi => (h2 i hi).trans ?_⟩
    by_cases hp : (presIx p).val = i
    · subst hp; simp [Glb.setPres]
    · simp [Glb.setPres, hp]

/-- The ports that a PMASK names on the part. -/
def State.namedPorts (s : State) (pmask : Byte) : List PortId :=
  (List.finRange 8).filter fun p => named pmask p && s.present p

theorem State.mem_namedPorts (s : State) (pmask : Byte) (p : PortId) :
    p ∈ s.namedPorts pmask ↔ named pmask p = true ∧ s.present p = true := by
  simp [State.namedPorts]

/-- A hardware command that runs on its ports. -/
theorem State.mbxRun_ok (s : State) {cmd : Byte} (pmask : Byte) {arg : Byte} (h : mbxArgOk cmd (wholeArg arg) = true) :
    s.mbxRun cmd pmask (wholeArg arg) =
      let ps := s.namedPorts pmask
      (ps.foldl (State.mbxPort cmd arg) s).modGlb fun g => g.mbxFinal (g.mbxSum ps) 0 := by
  simp only [State.mbxRun, h, Bool.not_true, Bool.false_eq_true, if_false]
  rfl

/-- A hardware command with a bad ARG. -/
theorem State.mbxRun_bad (s : State) {cmd : Byte} (pmask : Byte) {arg : Byte} (h : mbxArgOk cmd (wholeArg arg) = false) :
    s.mbxRun cmd pmask (wholeArg arg) = s.modGlb fun g => g.mbxFinal 2 0x41 := by
  simp only [State.mbxRun, h, Bool.not_false, if_true]

end Sys2Proof.Machine
end

section
/-! What the mailbox commands leave: on the ports they name, on their sub-blocks, and on the arbiter (R378-R381). -/

namespace Sys2Proof.Machine

/-! ### The gates of a port off (R187, R191) -/

theorem onlyPortCore.pgDown {p : PortId} {s t : State} (h : onlyPortCore p s t) : onlyPortCore p s (t.pgDown p) :=
  .ite ((h.modPw _).pwEvt 3) (h.modPw _)

theorem onlyPortCore.fireGens {p : PortId} {s t : State} (h : onlyPortCore p s t) : onlyPortCore p s (t.fireGens p) := by
  unfold State.fireGens State.gatesOff State.trimStop
  exact (((h.modPw _).pgDown).modSp _).modPw _

/-- The path of a port is off in Q, the gates with it where they were in a mode in P, and Lid stands (R192, R201). -/
def PathOff (P Q : Port) : Prop :=
  Q.pw.mode = .off ∧ (P.pw.mode ≠ .off → Q.pw.ga = false ∧ Q.pw.gb = false) ∧ Q.pw.lid = P.pw.lid

/-- Power-good withdrawn leaves mode, gates and Lid alone. -/
theorem State.pgDown_pw (s : State) (p : PortId) :
    ((s.pgDown p).port p).pw.mode = (s.port p).pw.mode ∧ ((s.pgDown p).port p).pw.ga = (s.port p).pw.ga ∧
      ((s.pgDown p).port p).pw.gb = (s.port p).pw.gb ∧ ((s.pgDown p).port p).pw.lid = (s.port p).pw.lid := by
  unfold State.pgDown
  split
  · simp [State.modPw]
  · simp [State.modPw]

theorem State.fireGens_pathOff (s : State) (p : PortId) : PathOff (s.port p) ((s.fireGens p).port p) := by
  unfold State.fireGens State.gatesOff State.trimStop PathOff
  simp only [State.modSp, State.modPw, State.port_modPort_same, State.pgDown_pw, Pw.remember, and_self, implies_true]

/-- GATE = 0b00 as PORTS_OFF writes it. -/
theorem State.gateWrite_off_onlyPortCore (s : State) (p : PortId) : onlyPortCore p s (s.gateWrite p 0).2 :=
  .ite (.refl _ _) (onlyPortCore.refl p s).fireGens

theorem State.gateWrite_off_pathOff (s : State) (p : PortId) : PathOff (s.port p) ((s.gateWrite p 0).2.port p) := by
  show PathOff _ ((if _ then s else s.fireGens p).port p)
  split
  · next h => exact ⟨h.1, fun h' => absurd h.1 h', rfl⟩
  · exact s.fireGens_pathOff p

/-! ### A hardware command that ends on every port it names (R380, R381) -/

/-- An operation on one port at a time, with PRES 0 after each: every port named has had it, the others stand. -/
theorem State.foldl_onPorts {op : State → PortId → State} {R : Port → Port → Prop} (hop : ∀ x p, onlyPortCore p x (op x p))
    (hR : ∀ x p, x.present p = true → R (x.port p) ((op x p).port p)) : ∀ (ps : List PortId) (x : State), ps.Nodup →
      (∀ p ∈ ps, x.present p = true) →
      let t := ps.foldl (fun x p => (op x p).modGlb fun g => g.setPres p 0) x
      t = { x with ports := t.ports, cores := t.cores, glb := ps.foldl (fun g p => g.setPres p 0) x.glb } ∧
        ∀ q, (q ∈ ps → R (x.port q) (t.port q)) ∧ (q ∉ ps → t.port q = x.port q)
  | [], _, _, _ => ⟨rfl, fun _ => ⟨fun h => absurd h List.not_mem_nil, fun _ => rfl⟩⟩
  | p :: ps, x, hnd, hpr => by
    obtain ⟨hp, hnd'⟩ := List.nodup_cons.1 hnd
    obtain ⟨hx, hpr'⟩ := List.forall_mem_cons.1 hpr
    have hoth := (hop x p).otherPorts
    have hotp := (hop x p).otp
    obtain ⟨h1, h2⟩ := State.foldl_onPorts hop hR ps ((op x p).modGlb fun g => g.setPres p 0) hnd'
      fun q hq => (State.present_eq x _ hotp q).trans (hpr' q hq)
    have hglb : (op x p).glb = x.glb := by rw [hop x p]
    refine ⟨?_, fun q => ⟨fun hq => ?_, fun hq => ?_⟩⟩
    · rw [List.foldl_cons, List.foldl_cons, ← hglb]
      refine h1.trans ?_
      rw [hop x p]
      rfl
    · rcases List.mem_cons.1 hq with rfl | hq
      · rw [List.foldl_cons, (h2 q).2 hp]
        exact hR x q hx
      · have hne : q ≠ p := fun e => hp (e ▸ hq)
        have := (h2 q).1 hq
        rwa [State.modGlb_port, hoth q hne] at this
    · obtain ⟨hne, hq'⟩ := not_or.1 (fun h => hq (List.mem_cons.2 h))
      exact ((h2 q).2 hq').trans (hoth q hne)

/-- What a hardware command with ARG 0 leaves when its operation on a port keeps to the port and its core and ends with
PRES 0 (R380, R381). -/
theorem State.mbxRun_onPorts {x : State} {cmd : Byte} (pmask : Byte) {op : State → PortId → State} {R : Port → Port → Prop}
    (hcmd : State.mbxPort cmd 0 = fun x p => (op x p).modGlb fun g => g.setPres p 0)
    (hop : ∀ x p, onlyPortCore p x (op x p)) (hR : ∀ x p, x.present p = true → R (x.port p) ((op x p).port p)) :
    let t := x.mbxRun cmd pmask (wholeArg 0)
    let ps := x.namedPorts pmask
    t = { x with ports := t.ports, cores := t.cores, glb := (ps.foldl (fun g p => g.setPres p 0) x.glb).mbxFinal 1 0 } ∧
      ∀ p, (p ∈ ps → R (x.port p) (t.port p)) ∧ (p ∉ ps → t.port p = x.port p) := by
  rw [State.mbxRun_ok _ pmask (mbxArgOk_zero cmd), hcmd]
  extract_lets ps t
  obtain ⟨hx, hport⟩ := State.foldl_onPorts hop hR ps x ((List.nodup_finRange 8).filter _)
    fun p hp => ((x.mem_namedPorts pmask p).1 hp).2
  obtain ⟨-, hres⟩ := Glb.foldl_setPres ps x.glb
  have hsum : (ps.foldl (fun g p => g.setPres p 0) x.glb).mbxSum ps = 1 :=
    Glb.mbxSum_all fun p hp => (hres _ (presIx p).isLt).trans (if_pos ⟨p, hp, rfl⟩)
  refine ⟨?_, hport⟩
  rw [← hsum]
  have hx' := congrArg (fun y : State => y.modGlb fun g => g.mbxFinal (g.mbxSum ps) 0) hx
  exact hx'

/-- ... and what its row leaves. -/
theorem State.mbxWhole_onPorts {s : State} {cmd seq : Byte} (pmask : Byte) {op : State → PortId → State} {R : Port → Port → Prop}
    (h1 : 0x80 ≤ cmd.toNat) (h2 : cmd.toNat ≤ 0x83) (h3 : s.glb.mbxSt ≠ 3) (h : s.glb.mbxValid = false ∨ s.glb.mbxres[0] ≠ seq)
    (hcmd : State.mbxPort cmd 0 = fun x p => (op x p).modGlb fun g => g.setPres p 0)
    (hop : ∀ x p, onlyPortCore p x (op x p)) (hR : ∀ x p, x.present p = true → R (x.port p) ((op x p).port p)) :
    let t := s.mbxWhole cmd pmask 0 seq
    t = { s with ports := t.ports, cores := t.cores, glb := t.glb } ∧ t.glb.mbxSt = 1 ∧ t.glb.mbxres[0] = seq ∧
      t.glb.mbxres[1] = cmd ∧ t.glb.evt = setB s.glb.evt 0 true ∧ ∀ p : PortId,
        ((named pmask p = true ∧ s.present p = true) → R (s.port p) (t.port p) ∧ t.glb.mbxres[(presIx p).val] = 0) ∧
        (¬ (named pmask p = true ∧ s.present p = true) → t.port p = s.port p ∧
          t.glb.mbxres[(presIx p).val] = if named pmask p then 0xF1 else 0xF0) := by
  rw [State.mbxWhole_runs pmask 0 h1 h2 h3 h]
  have hevt := s.issuedGlb_evt cmd pmask 0 seq
  have hres := s.issuedGlb_mbxres cmd pmask 0 seq
  generalize s.issuedGlb cmd pmask 0 seq = g at hevt hres ⊢
  obtain ⟨ht, hport⟩ := State.mbxRun_onPorts (x := s.withGlb g) pmask hcmd hop hR
  have hmem : ∀ p, p ∈ (s.withGlb g).namedPorts pmask ↔ named pmask p = true ∧ s.present p = true := State.mem_namedPorts _ pmask
  obtain ⟨hg, hset⟩ := Glb.foldl_setPres ((s.withGlb g).namedPorts pmask) g
  have hlow : ∀ i, i < 8 → ¬ ∃ p ∈ (s.withGlb g).namedPorts pmask, (presIx p).val = i := by
    rintro i hi ⟨p, -, rfl⟩
    simp only [presIx] at hi
    omega
  have hinj : ∀ p, (∃ q ∈ (s.withGlb g).namedPorts pmask, (presIx q).val = (presIx p).val) ↔
      named pmask p = true ∧ s.present p = true := fun p =>
    ⟨fun ⟨q, hq, e⟩ => (hmem p).1 ((Fin.ext (Nat.add_left_cancel e) : q = p) ▸ hq), fun hp => ⟨p, (hmem p).2 hp, rfl⟩⟩
  have htg := congrArg (fun y : State => y.glb) ht
  simp only [hmem] at hport
  generalize (s.withGlb g).mbxRun cmd pmask (wholeArg 0) = t at ht hport htg
  have hfold : (((s.withGlb g).namedPorts pmask).foldl (fun g p => g.setPres p 0) (s.withGlb g).glb) =
    ((s.withGlb g).namedPorts pmask).foldl (fun g p => g.setPres p 0) g := rfl
  simp only [hfold] at ht htg
  generalize ((s.withGlb g).namedPorts pmask).foldl (fun g p => g.setPres p 0) g = g' at ht hg hset htg
  have hbyte : ∀ i (hi : i < 36), i < 8 → g'.mbxres[i] = (s.issueRes seq cmd pmask 3)[i] := fun i hi h8 => by
    rw [hset i hi, if_neg (hlow i h8)]; simp only [hres]
  refine ⟨?_, ?_, ?_, ?_, ?_, fun p => ⟨fun hp => ⟨(hport p).1 hp, ?_⟩, fun hp => ⟨(hport p).2 hp, ?_⟩⟩⟩
  · rw [htg]; exact ht
  · rw [htg]; simp
  · rw [htg, Glb.mbxFinal_other g' 1 0 (by omega) (by omega) (by omega), hbyte 0 (by omega) (by omega), State.issueRes_seq]
  · rw [htg, Glb.mbxFinal_other g' 1 0 (by omega) (by omega) (by omega), hbyte 1 (by omega) (by omega), State.issueRes_cmd]
  · rw [htg, Glb.mbxFinal_evt, hg, hevt]
  · rw [htg, Glb.mbxFinal_pres, hset _ (presIx p).isLt, if_pos ((hinj p).2 hp)]
  · rw [htg, Glb.mbxFinal_pres, hset _ (presIx p).isLt, if_neg (fun e => hp ((hinj p).1 e))]
    simp only [hres, State.issueRes_pres, State.presAtIssue]
    cases hn : named pmask p
    · rfl
    · have hpr : s.present p = false := by simpa [hn] using hp
      simp [hpr]

end Sys2Proof.Machine
end

section
/-! What ECLEAR leaves, and the commands on one sub-block of one port (R226, R375, R381). -/

namespace Sys2Proof.Machine

/-- PORTS_OFF turns every port it names off (R381). -/
theorem State.mbxPort_off : State.mbxPort 0x80 0 = fun x p => ((x.gateWrite p 0).2).modGlb fun g => g.setPres p 0 := rfl

/-- What PORTS_OFF leaves (R381). -/
theorem State.portsOff_leaves (s : State) {seq : Byte} (pm : Byte) (h3 : s.glb.mbxSt ≠ 3)
    (h : s.glb.mbxValid = false ∨ s.glb.mbxres[0] ≠ seq) : let t := s.mbxWhole 0x80 pm 0 seq
    t = { s with ports := t.ports, cores := t.cores, glb := t.glb } ∧
      t.glb.mbxSt = 1 ∧ t.glb.mbxres[0] = seq ∧ t.glb.mbxres[1] = 0x80 ∧ t.glb.evt = setB s.glb.evt 0 true ∧ ∀ p : PortId,
        ((named pm p = true ∧ s.present p = true) → (t.port p).pw.mode = .off ∧
          ((s.port p).pw.mode ≠ .off → (t.port p).pw.ga = false ∧ (t.port p).pw.gb = false) ∧
          (t.port p).pw.lid = (s.port p).pw.lid ∧ t.glb.mbxres[presIx p] = 0) ∧
        (¬ (named pm p = true ∧ s.present p = true) → t.port p = s.port p ∧
          t.glb.mbxres[presIx p] = if named pm p then 0xF1 else 0xF0) := by
  intro t
  obtain ⟨hs, hst, hseq, hcmd, hevt, hp⟩ := State.mbxWhole_onPorts pm (by decide) (by decide) h3 h State.mbxPort_off
    State.gateWrite_off_onlyPortCore fun x p _ => x.gateWrite_off_pathOff p
  refine ⟨hs, hst, hseq, hcmd, hevt, fun p => ⟨fun hn => ?_, (hp p).2⟩⟩
  obtain ⟨⟨hmode, hgates, hlid⟩, hpres⟩ := (hp p).1 hn
  exact ⟨hmode, hgates, hlid, hpres⟩

/-- ECLEAR clears the counters of every port it names (R381). -/
theorem State.mbxPort_eclear : State.mbxPort 0x82 0 = fun x p => (x.ecmdClear p).modGlb fun g => g.setPres p 0 := rfl

/-- The energy counters and residues of a port become 0 (R226). -/
def Port.energyCleared (P : Port) : Port :=
  { P with ms := { P.ms with eout := 0, ein := 0, resOut := 0, resIn := 0, ecmd := { cmd := 0xE0, cst := 1 } } }

theorem State.ecmdClear_onlyPort (s : State) (p : PortId) : onlyPort p s (s.ecmdClear p) :=
  .ite ((onlyPort.refl p s).modMs _) (.refl p s)

theorem State.ecmdClear_port {s : State} {p : PortId} (h : s.present p = true) :
    (s.ecmdClear p).port p = (s.port p).energyCleared := by
  rw [State.ecmdClear, if_pos h, State.modMs, State.port_modPort_same]
  rfl

/-- ECLEAR leaves the cores alone. -/
theorem State.foldl_eclear_cores : ∀ (ps : List PortId) (x : State), (ps.foldl (State.mbxPort 0x82 0) x).cores = x.cores
  | [], _ => rfl
  | p :: ps, x => by
    rw [List.foldl_cons, State.foldl_eclear_cores ps, State.mbxPort_eclear, State.modGlb_cores, x.ecmdClear_onlyPort p]

theorem State.mbxWhole_eclear_cores {s : State} {seq : Byte} (pmask : Byte) (h3 : s.glb.mbxSt ≠ 3)
    (h : s.glb.mbxValid = false ∨ s.glb.mbxres[0] ≠ seq) : (s.mbxWhole 0x82 pmask 0 seq).cores = s.cores := by
  rw [State.mbxWhole_runs pmask 0 (by decide) (by decide) h3 h, State.mbxRun_ok _ pmask (mbxArgOk_zero 0x82)]
  rw [State.modGlb_cores, State.foldl_eclear_cores, State.withGlb_cores]

/-- What ECLEAR leaves (R226, R381). -/
theorem State.eclear_leaves (s : State) {seq : Byte} (pm : Byte) (h3 : s.glb.mbxSt ≠ 3)
    (h : s.glb.mbxValid = false ∨ s.glb.mbxres[0] ≠ seq) : let t := s.mbxWhole 0x82 pm 0 seq
    t = { s with ports := t.ports, glb := t.glb } ∧ t.glb.mbxSt = 1 ∧ t.glb.mbxres[1] = 0x82 ∧ ∀ p : PortId,
      t.port p = if named pm p = true ∧ s.present p = true then (s.port p).energyCleared else s.port p := by
  intro t
  obtain ⟨hs, hst, -, hcmd, -, hp⟩ := State.mbxWhole_onPorts (R := fun P Q => Q = P.energyCleared) pm (by decide) (by decide)
    h3 h State.mbxPort_eclear (fun x p => (x.ecmdClear_onlyPort p).toPortCore) fun x p => State.ecmdClear_port
  have hcores : t.cores = s.cores := State.mbxWhole_eclear_cores pm h3 h
  refine ⟨?_, hst, hcmd, fun p => ?_⟩
  · rw [← hcores]; exact hs
  · split
    · next hn => exact ((hp p).1 hn).1
    · next hn => exact ((hp p).2 hn).1

/-! ### A command on one sub-block of one port -/

/-- A PMASK of one bit names one port. -/
theorem named_bit : ∀ p q : PortId, named (BitVec.ofNat 8 (2 ^ p.val)) q = decide (q = p) := by decide

theorem State.namedPorts_bit {s : State} {p : PortId} (h : s.present p = true) :
    s.namedPorts (BitVec.ofNat 8 (2 ^ p.val)) = [p] := by
  have e : (fun q => named (BitVec.ofNat 8 (2 ^ p.val)) q && s.present q) = fun q => decide (q = p) := by
    funext q
    by_cases hq : q = p
    · rw [named_bit, hq, h, Bool.and_true]
    · rw [named_bit, decide_eq_false hq, Bool.false_and]
  have hf : ∀ p : PortId, (List.finRange 8).filter (fun q => decide (q = p)) = [p] := by decide
  rw [State.namedPorts, e, hf]

/-- Sub-block k of a port. -/
def subBlock (p : PortId) (k : Fin 5) : Block := (subBlocks p).getD k.val .hbs

/-- An ARG of one bit selects one sub-block. -/
theorem subBlocks_filter_bit : ∀ (p : PortId) (k : Fin 5),
    ((subBlocks p).zipIdx.filter fun b => (BitVec.ofNat 8 (2 ^ k.val) : Byte).getLsbD b.2) = [(subBlock p k, k.val)] := by decide

theorem argBit_lt : ∀ k : Fin 5, (BitVec.ofNat 8 (2 ^ k.val) : Byte).toNat < 32 := by decide

theorem setB_zero_argBit : ∀ k : Fin 5, setB (0 : Byte) k.val true = BitVec.ofNat 8 (2 ^ k.val) := by decide

/-- A hardware command on one sub-block of one port ends with what it did there. -/
theorem State.mbxWhole_one {s : State} {cmd seq : Byte} {p : PortId} (k : Fin 5) (hc : cmd = 0x81 ∨ cmd = 0x83)
    (h3 : s.glb.mbxSt ≠ 3) (h : s.glb.mbxValid = false ∨ s.glb.mbxres[0] ≠ seq) (hp : s.present p = true) :
    let pm : Byte := BitVec.ofNat 8 (2 ^ p.val)
    let arg : Byte := BitVec.ofNat 8 (2 ^ k.val)
    s.mbxWhole cmd pm arg seq =
      (State.mbxPort cmd arg (s.withGlb (s.issuedGlb cmd pm arg seq)) p).modGlb fun g => g.mbxFinal (g.mbxSum [p]) 0 := by
  intro pm arg
  have h1 : 0x80 ≤ cmd.toNat ∧ cmd.toNat ≤ 0x83 := by rcases hc with rfl | rfl <;> decide
  have ha : mbxArgOk cmd (wholeArg arg) = true := (mbxArgOk_subBlocks hc arg).trans (decide_eq_true (argBit_lt k))
  have hps : (s.withGlb (s.issuedGlb cmd pm arg seq)).namedPorts pm = [p] :=
    State.namedPorts_bit ((State.withGlb_present _ _ _).trans hp)
  rw [State.mbxWhole_runs pm arg h1.1 h1.2 h3 h, State.mbxRun_ok _ pm ha, hps]
  simp only [List.foldl_cons, List.foldl_nil]

/-- PRES and DATA of a port. -/
def Glb.setPort (g : Glb) (p : PortId) (pres data : Byte) : Glb :=
  { g.setPres p pres with mbxres := (g.setPres p pres).mbxres.set (mbxDataIx p) data }

/-- A fold that acts on the one selected element. -/
theorem foldl_ite_of_filter {α β : Type} {c : α → Bool} {l : List α} {a : α} (h : l.filter c = [a]) (f : β → α → β) (b : β) :
    l.foldl (fun x a => if c a then f x a else x) b = f b a := by
  rw [← List.foldl_filter, h, List.foldl_cons, List.foldl_nil]

/-- COMMIT_PORTS of one sub-block commits it (R381). -/
theorem State.mbxPort_commit_one (x : State) (p : PortId) (k : Fin 5) :
    let c := (x.commitBlock (subBlock p k)).blockCom (subBlock p k)
    State.mbxPort 0x81 (BitVec.ofNat 8 (2 ^ k.val)) x p = (x.commitBlock (subBlock p k)).modGlb fun g =>
      g.setPort p (if c.ref then c.rsn.setWidth 8 else 0) (if c.ref then 0 else BitVec.ofNat 8 (2 ^ k.val)) := by
  intro c
  have hm : State.mbxPort 0x81 (BitVec.ofNat 8 (2 ^ k.val)) x p = x.mbxCommitPort p (BitVec.ofNat 8 (2 ^ k.val)) := rfl
  rw [hm, State.mbxCommitPort, foldl_ite_of_filter (subBlocks_filter_bit p k)]
  simp only [setB_zero_argBit, and_true]
  rfl

/-- REVERT_PORTS of one sub-block reverts it (R381). -/
theorem State.mbxPort_revert_one (x : State) (p : PortId) (k : Fin 5) :
    State.mbxPort 0x83 (BitVec.ofNat 8 (2 ^ k.val)) x p = (x.revertBlock (subBlock p k)).modGlb fun g => g.setPres p 0 :=
  congrArg (fun y : State => y.modGlb fun g => g.setPres p 0) (foldl_ite_of_filter (subBlocks_filter_bit p k) _ _)

theorem Glb.setPort_pres (g : Glb) (p : PortId) (pres data : Byte) : (g.setPort p pres data).mbxres[(presIx p).val] = pres := by
  simp [Glb.setPort, Glb.setPres, presIx, mbxDataIx]

theorem Glb.setPort_data (g : Glb) (p : PortId) (pres data : Byte) : (g.setPort p pres data).mbxres[(mbxDataIx p).val] = data := by
  simp [Glb.setPort]

theorem Glb.setPort_cmd (g : Glb) (p : PortId) (pres data : Byte) : (g.setPort p pres data).mbxres[1] = g.mbxres[1] := by
  have h1 : 8 + p.val ≠ 1 := by omega
  have h2 : 16 + p.val ≠ 1 := by omega
  simp [Glb.setPort, Glb.setPres, presIx, mbxDataIx, h1, h2]

theorem Glb.setPres_cmd (g : Glb) (p : PortId) (pres : Byte) : (g.setPres p pres).mbxres[1] = g.mbxres[1] := by
  have h1 : 8 + p.val ≠ 1 := by omega
  simp [Glb.setPres, presIx, h1]

theorem Glb.setPres_pres (g : Glb) (p : PortId) (pres : Byte) : (g.setPres p pres).mbxres[(presIx p).val] = pres := by
  simp [Glb.setPres]

/-- What COMMIT_PORTS of one sub-block leaves (R375, R381). -/
theorem State.commitPorts_one {s : State} {seq : Byte} {p : PortId} (k : Fin 5) (h3 : s.glb.mbxSt ≠ 3)
    (h : s.glb.mbxValid = false ∨ s.glb.mbxres[0] ≠ seq) (hp : s.present p = true) :
    let b := subBlock p k
    let c := (s.commitBlock b).blockCom b
    let t := s.mbxWhole 0x81 (BitVec.ofNat 8 (2 ^ p.val)) (BitVec.ofNat 8 (2 ^ k.val)) seq
    t = (s.commitBlock b).withGlb t.glb ∧ t.glb.mbxres[1] = 0x81 ∧ t.glb.evt = setB s.glb.evt 0 true ∧
      (c.ref = false → t.glb.mbxSt = 1 ∧ t.glb.mbxres[(presIx p).val] = 0 ∧
        t.glb.mbxres[(mbxDataIx p).val] = BitVec.ofNat 8 (2 ^ k.val)) ∧
      (c.ref = true → c.rsn ≠ 0 → t.glb.mbxSt = 2 ∧ t.glb.mbxres[(presIx p).val] = c.rsn.setWidth 8 ∧
        t.glb.mbxres[(mbxDataIx p).val] = 0) := by
  intro b c t
  have hevt := s.issuedGlb_evt 0x81 (BitVec.ofNat 8 (2 ^ p.val)) (BitVec.ofNat 8 (2 ^ k.val)) seq
  have hres := s.issuedGlb_mbxres 0x81 (BitVec.ofNat 8 (2 ^ p.val)) (BitVec.ofNat 8 (2 ^ k.val)) seq
  have ht := State.mbxWhole_one k (Or.inl rfl) h3 h hp
  simp only [State.mbxPort_commit_one, State.commitBlock_withGlb, State.blockCom_withGlb] at ht
  generalize s.issuedGlb 0x81 (BitVec.ofNat 8 (2 ^ p.val)) (BitVec.ofNat 8 (2 ^ k.val)) seq = g at hevt hres ht
  simp only [State.modGlb_eq_withGlb, State.withGlb_glb, State.withGlb_withGlb] at ht
  have hg : t.glb = _ := congrArg (fun y : State => y.glb) ht
  rw [State.withGlb_glb] at hg
  refine ⟨?_, ?_, ?_, fun hr => ?_, fun hr hn => ?_⟩
  · rw [hg]; exact ht
  · rw [hg, Glb.mbxFinal_other _ _ _ (by omega) (by omega) (by omega), Glb.setPort_cmd]
    simp only [hres, State.issueRes_cmd]
  · rw [hg, Glb.mbxFinal_evt, ← hevt]; rfl
  · have hr' : ((s.commitBlock (subBlock p k)).blockCom (subBlock p k)).ref = false := hr
    simp only [hr', Bool.false_eq_true, if_false] at hg
    rw [Glb.mbxSum_all fun q hq => List.mem_singleton.1 hq ▸ Glb.setPort_pres _ _ _ _] at hg
    rw [hg, Glb.mbxFinal_st, Glb.mbxFinal_pres, Glb.mbxFinal_data, Glb.setPort_pres, Glb.setPort_data]
    exact ⟨rfl, rfl, rfl⟩
  · have hr' : ((s.commitBlock (subBlock p k)).blockCom (subBlock p k)).ref = true := hr
    have hn' : c.rsn.setWidth 8 ≠ (0 : Byte) := fun e => hn (by bv_omega)
    simp only [hr', if_true] at hg
    rw [Glb.mbxSum_refused (by rw [Glb.setPort_pres]; exact hn')] at hg
    rw [hg, Glb.mbxFinal_st, Glb.mbxFinal_pres, Glb.mbxFinal_data, Glb.setPort_pres, Glb.setPort_data]
    exact ⟨rfl, rfl, rfl⟩

/-- What REVERT_PORTS of one sub-block leaves (R375, R381). -/
theorem State.revertPorts_one {s : State} {seq : Byte} {p : PortId} (k : Fin 5) (h3 : s.glb.mbxSt ≠ 3)
    (h : s.glb.mbxValid = false ∨ s.glb.mbxres[0] ≠ seq) (hp : s.present p = true) :
    let t := s.mbxWhole 0x83 (BitVec.ofNat 8 (2 ^ p.val)) (BitVec.ofNat 8 (2 ^ k.val)) seq
    t = (s.revertBlock (subBlock p k)).withGlb t.glb ∧ t.glb.mbxSt = 1 ∧ t.glb.mbxres[1] = 0x83 ∧
      t.glb.mbxres[(presIx p).val] = 0 := by
  intro t
  have hres := s.issuedGlb_mbxres 0x83 (BitVec.ofNat 8 (2 ^ p.val)) (BitVec.ofNat 8 (2 ^ k.val)) seq
  have ht := State.mbxWhole_one k (Or.inr rfl) h3 h hp
  simp only [State.mbxPort_revert_one, State.revertBlock_withGlb] at ht
  generalize s.issuedGlb 0x83 (BitVec.ofNat 8 (2 ^ p.val)) (BitVec.ofNat 8 (2 ^ k.val)) seq = g at hres ht
  simp only [State.modGlb_eq_withGlb, State.withGlb_glb, State.withGlb_withGlb] at ht
  have hg : t.glb = _ := congrArg (fun y : State => y.glb) ht
  rw [State.withGlb_glb] at hg
  have hw : t = (s.revertBlock (subBlock p k)).withGlb t.glb := by rw [hg]; exact ht
  rw [Glb.mbxSum_all fun q hq => List.mem_singleton.1 hq ▸ Glb.setPres_pres _ _ _] at hg
  refine ⟨hw, ?_, ?_, ?_⟩
  · rw [hg, Glb.mbxFinal_st]; rfl
  · rw [hg, Glb.mbxFinal_other _ _ _ (by omega) (by omega) (by omega), Glb.setPres_cmd]
    simp only [hres, State.issueRes_cmd]
  · rw [hg, Glb.mbxFinal_pres, Glb.setPres_pres]

/-- A commit of the power-path limits that the judgement accepts takes the staged values (R213). -/
theorem State.pwCommit_accepted {s : State} {p : PortId} (hp : s.present p = true) (hj : (s.port p).pw.judge = 0) :
    s.pwCommit p = s.modPw p fun w => { w with lim := w.limS, cfg := w.cfgS, pgw := w.pgwS, com := commitResult 0 } := by
  have hrsn : (if s.ports[p].pw.pend then s.ports[p].pw.judge else 0) = 0 := by
    rw [show s.ports[p].pw.judge = 0 from hj, ite_self]
  simp only [State.pwCommit, hp, Bool.not_true, Bool.false_eq_true, if_false, State.modPw, State.modPort, hrsn, if_true]

/-- COMMIT_PORTS or REVERT_PORTS with a bit of ARG that is no sub-block is refused whole (R381). -/
theorem State.mbxWhole_badArg {s : State} {cmd seq : Byte} (pmask : Byte) {arg : Byte} (hc : cmd = 0x81 ∨ cmd = 0x83) (ha : 32 ≤ arg.toNat)
    (h3 : s.glb.mbxSt ≠ 3) (h : s.glb.mbxValid = false ∨ s.glb.mbxres[0] ≠ seq) :
    let t := s.mbxWhole cmd pmask arg seq
    t = s.withGlb t.glb ∧ t.glb.mbxSt = 2 ∧ t.glb.mbxres[3] = 0x41 ∧ t.glb.evt = setB s.glb.evt 0 true := by
  have h1 : 0x80 ≤ cmd.toNat ∧ cmd.toNat ≤ 0x83 := by rcases hc with rfl | rfl <;> decide
  have hb : mbxArgOk cmd (wholeArg arg) = false := (mbxArgOk_subBlocks hc arg).trans (decide_eq_false (by omega))
  have hevt := s.issuedGlb_evt cmd pmask arg seq
  rw [State.mbxWhole_runs pmask arg h1.1 h1.2 h3 h, State.mbxRun_bad _ pmask hb]
  generalize s.issuedGlb cmd pmask arg seq = g at hevt ⊢
  simp only [State.modGlb_eq_withGlb, State.withGlb_glb, State.withGlb_withGlb, Glb.mbxFinal_st, Glb.mbxFinal_rsn, Glb.mbxFinal_evt,
    hevt, and_true, true_and]
  rfl

/-- COMMIT_PORTS of the power-path sub-block takes the staged limits that the judgement accepts (R213, R381). -/
theorem State.commitPorts_pw (s : State) {seq : Byte} {p : PortId} (h3 : s.glb.mbxSt ≠ 3)
    (h : s.glb.mbxValid = false ∨ s.glb.mbxres[0] ≠ seq) (hp : s.present p = true) (hj : (s.port p).pw.judge = 0) :
    let w := (s.port p).pw
    let t := s.mbxWhole 0x81 (BitVec.ofNat 8 (2 ^ p.val)) 4 seq
    t.glb.mbxSt = 1 ∧ t.glb.mbxres[presIx p] = 0 ∧ t.glb.mbxres[mbxDataIx p] = 4 ∧ (t.port p).pw.lim = w.limS ∧
      (t.port p).pw.cfg = w.cfgS ∧ (t.port p).pw.pgw = w.pgwS ∧ otherPorts p s t := by
  intro w t
  obtain ⟨ht, -, -, hok, -⟩ := State.commitPorts_one (p := p) 2 h3 h hp
  have hport : ∀ q, t.port q = (s.pwCommit p).port q := fun q =>
    (congrArg (fun y : State => y.port q) ht).trans ((s.pwCommit p).withGlb_port _ q)
  have hsame : ((s.pwCommit p).port p).pw = { w with lim := w.limS, cfg := w.cfgS, pgw := w.pgwS, com := commitResult 0 } := by
    rw [State.pwCommit_accepted hp hj, State.modPw, State.port_modPort_same]
  obtain ⟨hst, hpres, hdata⟩ := hok (congrArg (fun x => x.com.ref) hsame)
  rw [hport p, hsame]
  refine ⟨hst, hpres, hdata, rfl, rfl, rfl, fun q hq => ?_⟩
  rw [hport q, State.pwCommit_accepted hp hj, State.modPw, s.port_modPort_ne _ hq]

end Sys2Proof.Machine
end

section
/-! What a command of the firmware leaves, and the statement of the host bus and the mailbox (R365-R381). -/

namespace Sys2Proof.Machine

/-! ### Commands of the firmware (R378, R379) -/

/-- An event that the arbiter takes or refuses changes its core alone; admitted, it is the last job. -/
theorem State.raiseNc_arbiter (s : State) (r : Raised) :
    (s.raiseNc arbiterId r).1 = (s.core arbiterId).ncCode s.now r none ∧ onlyCore arbiterId s (s.raiseNc arbiterId r).2 ∧
      ((s.core arbiterId).ncCode s.now r none = 0 → ∃ j, ((s.raiseNc arbiterId r).2.core arbiterId).jobs =
        (s.core arbiterId).jobs ++ [j] ∧ j.cls = r.cls ∧ j.arg = r.arg) := by
  unfold State.raiseNc
  by_cases hc : (s.core arbiterId).ncCode s.now r none = 0
  · simp only [hc, if_true]
    refine ⟨trivial, (onlyCore.refl _ _).modCore _, fun _ => ?_⟩
    rw [State.core_modCore_same]
    exact ⟨_, rfl, rfl, rfl⟩
  · simp only [hc, if_false, corePort_arbiter]
    exact ⟨trivial, (onlyCore.refl _ _).modCore _, fun h => absurd h id⟩

/-- The HOSTCMD event of a mailbox command (R378). -/
def mbxRaised (seq : Byte) : Raised := { cls := 0x20, arg := seq.setWidth 32, seq }

/-- A firmware command taken: SEQ, CMD and PMASK stand in the result, and its event is raised on the arbiter (R378). -/
theorem State.mbxIssue_raises {s : State} {seq : Byte} (h3 : s.glb.mbxSt ≠ 3)
    (h : s.glb.mbxValid = false ∨ s.glb.mbxres[0] ≠ seq) (h1 : 1 ≤ (s.glb.mbxcmd[0]).toNat) (h2 : (s.glb.mbxcmd[0]).toNat < 0x80) :
    ∃ g : Glb, g.evt = s.glb.evt ∧ g.mbxres = s.issueRes seq s.glb.mbxcmd[0] s.glb.mbxcmd[1] 1 ∧ s.mbxIssue seq =
      let r := (s.withGlb g).raiseNc arbiterId (mbxRaised seq)
      if r.1 = 0 then r.2 else r.2.modGlb fun g => g.mbxFinal 2 (BitVec.ofNat 8 r.1) := by
  have e0 : (s.glb.mbxcmd.set 31 seq)[0] = s.glb.mbxcmd[0] := by simp
  have e1 : (s.glb.mbxcmd.set 31 seq)[1] = s.glb.mbxcmd[1] := by simp
  refine ⟨{ s.glb with
    mbxcmd := s.glb.mbxcmd.set 31 seq, mbxres := s.issueRes seq s.glb.mbxcmd[0] s.glb.mbxcmd[1] 1 }, rfl, rfl, ?_⟩
  rw [State.mbxIssue_new h3 h, State.mbxTake_firmware _ seq (by simpa using h1) (by simpa using h2)]
  simp only [State.modGlb_eq_withGlb, State.withGlb_glb, State.withGlb_withGlb, State.withGlb_issueRes, e0, e1]
  rfl

/-- GLB may be set beside a core. -/
theorem onlyCore.withGlb {c : CoreId} {s t : State} {g : Glb} (h : onlyCore c (s.withGlb g) t) (g' : Glb) :
    onlyCore c (s.withGlb g') (t.withGlb g') := congrArg (fun y : State => y.withGlb g') h

/-- What the issue of a firmware command leaves (R378, R379). -/
theorem State.mbxIssue_firmware {s : State} {seq : Byte} (h3 : s.glb.mbxSt ≠ 3)
    (h : s.glb.mbxValid = false ∨ s.glb.mbxres[0] ≠ seq) (h1 : 1 ≤ (s.glb.mbxcmd[0]).toNat) (h2 : (s.glb.mbxcmd[0]).toNat < 0x80) :
    let code := (s.core arbiterId).ncCode s.now (mbxRaised seq) none
    let t := s.mbxIssue seq
    onlyCore arbiterId (s.withGlb t.glb) t ∧ t.glb.mbxres[0] = seq ∧ t.glb.mbxres[1] = s.glb.mbxcmd[0] ∧
      t.glb.mbxres[4] = s.glb.mbxcmd[1] ∧ t.glb.mbxValid = true ∧
      (code = 0 → t.glb.mbxSt = 3 ∧ t.glb.evt = s.glb.evt ∧
        ∃ j, (t.core arbiterId).jobs = (s.core arbiterId).jobs ++ [j] ∧ j.cls = 0x20 ∧ j.arg.toNat = seq.toNat) ∧
      (code ≠ 0 → t.glb.mbxSt = 2 ∧ t.glb.mbxres[3] = BitVec.ofNat 8 code ∧ t.glb.evt = setB s.glb.evt 0 true) := by
  intro code t
  obtain ⟨g, hevt, hres, ht⟩ := State.mbxIssue_raises h3 h h1 h2
  obtain ⟨hcode, honly, hjobs⟩ := (s.withGlb g).raiseNc_arbiter (mbxRaised seq)
  have hcode' : ((s.withGlb g).raiseNc arbiterId (mbxRaised seq)).1 = code := hcode
  simp only [hcode'] at ht
  generalize ((s.withGlb g).raiseNc arbiterId (mbxRaised seq)).2 = r at honly hjobs ht
  have hrg : r.glb = g := by rw [honly]; rfl
  by_cases hz : code = 0
  · rw [if_pos hz] at ht
    have hg : t.glb = g := (congrArg (fun y : State => y.glb) ht).trans hrg
    refine ⟨?_, ?_, ?_, ?_, ?_, fun _ => ⟨?_, ?_, ?_⟩, fun hn => absurd hz hn⟩
    · rw [hg, show t = r from ht]; exact honly
    · simp only [hg, hres, State.issueRes_seq]
    · simp only [hg, hres, State.issueRes_cmd]
    · simp only [hg, hres, State.issueRes_pmask]
    · simp only [hg, Glb.mbxValid, hres, State.issueRes_flags]; rfl
    · simp only [hg, Glb.mbxSt, hres, State.issueRes_st]; rfl
    · rw [hg, hevt]
    · obtain ⟨j, hj, hcls, harg⟩ := hjobs hz
      refine ⟨j, (congrArg (fun y : State => (y.core arbiterId).jobs) ht).trans hj, hcls, ?_⟩
      rw [harg, mbxRaised, BitVec.toNat_setWidth]
      omega
  · rw [if_neg hz, State.modGlb_eq_withGlb, hrg] at ht
    have hg : t.glb = g.mbxFinal 2 (BitVec.ofNat 8 code) := congrArg (fun y : State => y.glb) ht
    have hold : ∀ i (hi : i < 36), i ≠ 2 → i ≠ 3 → (g.mbxFinal 2 (BitVec.ofNat 8 code)).mbxres[i] =
        (s.issueRes seq s.glb.mbxcmd[0] s.glb.mbxcmd[1] 1)[i] := fun i hi h2 h3 => by
      rw [Glb.mbxFinal_other _ _ _ hi h2 h3]; simp only [hres]
    refine ⟨?_, ?_, ?_, ?_, ?_, fun h0 => absurd h0 hz, fun _ => ⟨?_, ?_, ?_⟩⟩
    · rw [hg, show t = _ from ht]; exact honly.withGlb _
    · rw [hg, hold 0 (by omega) (by omega) (by omega), State.issueRes_seq]
    · rw [hg, hold 1 (by omega) (by omega) (by omega), State.issueRes_cmd]
    · rw [hg, hold 4 (by omega) (by omega) (by omega), State.issueRes_pmask]
    · rw [hg, Glb.mbxValid, hold 5 (by omega) (by omega) (by omega), State.issueRes_flags]; rfl
    · rw [hg, Glb.mbxFinal_st]; rfl
    · rw [hg, Glb.mbxFinal_rsn]
    · rw [hg, Glb.mbxFinal_evt, hevt]

/-- What the issue of a number that is no command leaves (R378). -/
theorem State.mbxIssue_unknown {s : State} {seq : Byte} (h3 : s.glb.mbxSt ≠ 3)
    (h : s.glb.mbxValid = false ∨ s.glb.mbxres[0] ≠ seq) (hc : s.glb.mbxcmd[0] = 0 ∨ 0x83 < (s.glb.mbxcmd[0]).toNat) :
    let t := s.mbxIssue seq
    t = s.withGlb t.glb ∧ t.glb.mbxSt = 2 ∧ t.glb.mbxres[3] = 0x40 ∧ t.glb.mbxres[0] = seq ∧
      t.glb.evt = setB s.glb.evt 0 true := by
  rw [State.mbxIssue_new h3 h, State.mbxTake_unknown _ seq (by simpa using hc)]
  simp only [State.modGlb_eq_withGlb, State.withGlb_glb, State.withGlb_withGlb, State.withGlb_issueRes, Glb.mbxFinal_st,
    Glb.mbxFinal_rsn, Glb.mbxFinal_evt, and_true, true_and]
  refine ⟨rfl, ?_⟩
  rw [Glb.mbxFinal_other _ _ _ (by omega) (by omega) (by omega)]
  exact State.issueRes_seq _ _ _ _ _

/-! ### The statement -/

/-- Settles O58: the host bus over its transactions, the group commit over the list of its blocks, the mailbox over its kinds
of commands. -/
theorem hostBusAndMailbox : Obligations.HostBusAndMailbox := by
  unfold Obligations.HostBusAndMailbox
  intro s
  refine ⟨fun a ptr d e late ha => ?_, fun a ptr d late _ => ⟨_, rfl, s.hostWrite_unended a ptr d late⟩,
    fun a d late ha hr hg => ⟨_, rfl, s.hostWrite_tdata d late ha hr hg⟩,
    fun a i b late ha hr hg => ⟨_, rfl, s.hostWrite_tdata_low i b late ha hr hg⟩,
    fun a ptr b e ha hg hr he => ⟨_, rfl, s.hostWrite_outside b ha hg hr he⟩,
    fun a ptr b e y ha hg hr hf he => ⟨_, rfl, s.hostWrite_frozen b ha hg hr hf he⟩,
    fun a ptr ha => ?_, fun a n v ha hg hr hv => ⟨_, rfl, s.hostRead_fabErr ha hg hr hv⟩,
    fun a ptr ha hg => ⟨_, rfl, ?_⟩, fun a ha => ?_, fun hregs => ?_⟩
  · show Host.Outcome.next (s.hostWrite a ptr d e late) = _
    rw [s.hostWrite_silent ptr d e late ha]
  · show Host.Outcome.next (s.hostRead a ptr) = _
    rw [s.hostRead_silent ptr ha]
  · exact s.hostRead_byte ha hg
  · show Host.Outcome.next (s.sdaTimeout a) = _
    rw [State.sdaTimeout, if_pos ha]
  · refine ⟨fun h0 => ?_, fun x hx hb hs => ?_, ⟨_, next_atDev hregs _, ?_⟩, fun seq h3 => ?_, fun seq h3 => ?_⟩
    · exact (next_atDev hregs _).trans (congrArg Host.Outcome.next (s.groupCommit_none h0))
    · exact (next_atDev hregs _).trans (congrArg Host.Outcome.next (s.groupCommit_one hx hb hs))
    · obtain ⟨h1, h2, h4, h5, h6⟩ := s.groupCommit_frame
      exact ⟨h1, h2, h4, h5, fun i _ => h6 i, fun hs hl hu => s.groupCommit_hbs hs hl hu⟩
    · refine (next_atDev hregs _).trans ?_
      rw [State.mbxIssue, if_pos h3]
    · refine ⟨fun hv hs => ?_, fun h => ⟨fun h1 h2 => ⟨_, next_atDev hregs _, s.mbxIssue_firmware h3 h h1 h2⟩,
        fun hc => ⟨_, next_atDev hregs _, State.mbxIssue_unknown h3 h hc⟩, fun pm => ⟨_, next_atDev hregs _, s.portsOff_leaves pm h3 h⟩,
        fun pm => ⟨_, next_atDev hregs _, s.eclear_leaves pm h3 h⟩,
        fun i pm arg hi ha => ?_, fun p k hp => ⟨?_, ?_, ?_⟩⟩⟩
      · exact (next_atDev hregs _).trans (congrArg Host.Outcome.next (State.mbxIssue_again h3 hv hs))
      · rcases hi with rfl | rfl
        · exact ⟨_, next_atDev hregs _, State.mbxWhole_badArg pm (.inl rfl) ha h3 h⟩
        · exact ⟨_, next_atDev hregs _, State.mbxWhole_badArg pm (.inr rfl) ha h3 h⟩
      · rintro _ rfl
        exact ⟨_, next_atDev hregs _, State.commitPorts_one k h3 h hp⟩
      · rintro w rfl hj
        exact ⟨_, next_atDev hregs _, s.commitPorts_pw h3 h hp hj⟩
      · exact ⟨_, next_atDev hregs _, State.revertPorts_one k h3 h hp⟩

end Sys2Proof.Machine
end

section
/-! Broken promises and the pace sentinel: what counting a running job leaves, and what a sample and a change of the alarm do. -/

namespace Sys2Proof.Machine

theorem next_atCore {s : State} {c : CoreId} (h : s.corePresent c = true) (f : State → State) :
    (.next (s.atCore c f) : Host.Outcome State Fault Refusal) = .next (f s) := congrArg _ (if_pos h)

/-! ### Broken promises (R145) -/

theorem Job.broken_eq_true {j : Job} {now : Word} :
    j.broken now = true ↔ j.counted = false ∧ j.inRx = false ∧ until' now j.deadline < 0 := by
  simp [Job.broken, and_assoc]

section
variable {now : Word} {l : List Job}

/-- Where no job of a list is broken, none is recorded. -/
theorem foldl_breakJob_unbroken (h : ∀ j ∈ l, j.broken now = false) (C : Core) :
    l.foldl (fun C j => if j.broken now then C.breakJob j else C) C = C := by
  induction l with
  | nil => rfl
  | cons j l ih => simpa [h j (by simp)] using ih fun k hk => h k (by simp [hk])

/-- Where no job of a list is broken, none is marked. -/
theorem map_counted_unbroken (h : ∀ j ∈ l, j.broken now = false) :
    (l.map fun j => if j.broken now then { j with counted := true } else j) = l :=
  (List.map_congr_left fun j hj => by rw [h j hj]; rfl).trans l.map_id

end

/-- With no pending job broken, the running one alone is recorded and marked. -/
theorem State.brokenPromises_running {s : State} {c : CoreId} {h : Handler} (hrun : (s.core c).run = some h)
    (hpre : h.premove = false) (hb : h.job.broken s.now = true) (hjobs : ∀ j ∈ (s.core c).jobs, j.broken s.now = false) :
    onlyCore c s (s.brokenPromises c) ∧ (s.brokenPromises c).core c =
      { (s.core c).breakJob h.job with run := some { h with job := { h.job with counted := true } } } := by
  refine ⟨(onlyCore.refl c s).modCore _, ?_⟩
  have hkeep : ((s.core c).breakJob h.job).jobs = (s.core c).jobs := rfl
  simp only [State.brokenPromises, State.core_modCore_same, hrun, hb, hpre, Bool.not_false, Bool.and_true, if_true, hkeep,
    foldl_breakJob_unbroken hjobs, map_counted_unbroken hjobs]

/-! ### What an event leaves of the pace sentinel -/

/-- The alarm, RATE and the event bits but UNHANDLED (bit 5) of C stand in D. -/
def SamePace (C D : Core) : Prop :=
  D.paceAlarm = C.paceAlarm ∧ D.cr.rate = C.cr.rate ∧ ∀ i, i ≠ 5 → D.cr.evt.getLsbD i = C.cr.evt.getLsbD i

theorem SamePace.refl (C : Core) : SamePace C C := ⟨rfl, rfl, fun _ _ => rfl⟩

theorem SamePace.trans {C D E : Core} (h : SamePace C D) (k : SamePace D E) : SamePace C E :=
  ⟨k.1.trans h.1, k.2.1.trans h.2.1, fun i hi => (k.2.2 i hi).trans (h.2.2 i hi)⟩

theorem Core.hold_samePace (C : Core) (r : Raised) : SamePace C (C.hold r) := by
  unfold Core.hold; split
  · exact .refl _
  · split <;> exact .refl _

theorem Core.unhandled_samePace (C : Core) : SamePace C C.unhandled :=
  ⟨rfl, rfl, fun i hi => (setB_bit _ 5 true (by decide) i).trans (if_neg hi)⟩

theorem State.raiseCrit_samePace (s : State) (c : CoreId) (r : Raised) (m : Option (Sop × Half)) :
    SamePace (s.core c) ((s.raiseCrit c r m).core c) := by
  unfold State.raiseCrit; split
  · simpa using Core.hold_samePace _ _
  · simp only [State.core_modCore_same]
    split
    · exact Core.unhandled_samePace _
    · exact .refl _

theorem State.raiseCoal_samePace (s : State) (c : CoreId) (k : Nat) (a : Word) :
    SamePace (s.core c) ((s.raiseCoal c k a).core c) := by
  unfold State.raiseCoal; split
  · simpa using Core.hold_samePace _ _
  · split
    · refine SamePace.trans ?_ (State.raiseCrit_samePace _ _ _ _)
      rw [State.core_modCore_same]; exact .refl _
    · rw [State.core_modCore_same]; exact .refl _

/-! ### Pace sentinel (R144) -/

@[simp] theorem State.faultFree_core (s : State) (c d : CoreId) (b : List Byte) : (s.faultFree c b).core d = s.core d := rfl

/-- Core c changes and its fault-log record is the newest of the AO tail and of the ring; no other block differs. -/
def CoreLogged (c : CoreId) (s t : State) : Prop :=
  t = { s with cores := s.cores.set c (t.core c), faultLog := t.faultLog, upd := s.upd.log (t.faultLog.take 1),
               freeCtr := t.freeCtr }

theorem onlyCore.faultFree {c : CoreId} {s t : State} (h : onlyCore c s t) (d : CoreId) (b : List Byte) :
    CoreLogged c s (t.faultFree d b) := by
  obtain ⟨C, rfl⟩ := onlyCore_iff.1 h
  simp [CoreLogged, State.faultFree, State.faultAdd, State.freeByte, State.core]

/-- The alarm of core c set to up with its event bit, before the PACE event and the record. -/
def State.paceMarked (s : State) (c : CoreId) (up : Bool) : State :=
  s.modCore c fun C => { C with
    paceAlarm := up, paceGood := 0, cr := { C.cr with evt := setB C.cr.evt (if up then 0 else 1) true } }

theorem State.paceChange_eq (s : State) (c : CoreId) (rate : Half) (up : Bool) : s.paceChange c rate up =
    ((s.paceMarked c up).raiseCoal c 12 (if up then 1 else 0)).faultFree c (leBytes 2 rate.toNat) := rfl

/-- A change of the alarm sets the alarm and its event bit, logs a record, and leaves RATE and the running handler. -/
theorem State.paceChange_leaves (s : State) (c : CoreId) (rate : Half) (up : Bool) :
    let t := s.paceChange c rate up
    (t.core c).paceAlarm = up ∧ (t.core c).cr.rate = (s.core c).cr.rate ∧
      (t.core c).cr.evt.getLsbD (if up then 0 else 1) = true ∧ (t.core c).run = (s.core c).run ∧
      ∀ u, onlyCore c u s → CoreLogged c u t := by
  obtain ⟨halarm, hrate, hevt⟩ := (s.paceMarked c up).raiseCoal_samePace c 12 (if up then 1 else 0)
  obtain ⟨hrun, -⟩ := (s.paceMarked c up).raiseCoal_same c 12 (if up then 1 else 0)
  rw [State.paceMarked, State.core_modCore_same] at halarm hrate hevt hrun
  refine ⟨halarm, hrate, ?_, hrun, fun u hu => ((hu.modCore _).trans (State.raiseCoal_onlyCore _ c 12 _)).faultFree c _⟩
  rw [State.paceChange_eq, State.faultFree_core, State.paceMarked, hevt _ (by split <;> decide),
    setB_bit _ _ _ (by split <;> decide), if_pos rfl]

/-- A sample taken into RATE, MINRATE and the count of good samples in a row. -/
def State.paceTaken (s : State) (c : CoreId) (rate : Half) : State :=
  s.modCore c fun C => { C with
    paceGood := if (s.core c).paceAlarm then (if 260 ≤ rate.toNat then (s.core c).paceGood + 1 else 0) else 0
    cr := { C.cr with rate, minrate := if rate.toNat < C.cr.minrate.toNat then rate else C.cr.minrate } }

theorem State.paceTaken_onlyCore (s : State) (c : CoreId) (rate : Half) : onlyCore c s (s.paceTaken c rate) :=
  (onlyCore.refl c s).modCore _

@[simp] theorem State.paceTaken_cr (s : State) (c : CoreId) (rate : Half) : ((s.paceTaken c rate).core c).cr =
    { (s.core c).cr with rate, minrate := if rate.toNat < (s.core c).cr.minrate.toNat then rate else (s.core c).cr.minrate } := by
  simp [State.paceTaken]

@[simp] theorem State.paceTaken_run (s : State) (c : CoreId) (rate : Half) :
    ((s.paceTaken c rate).core c).run = (s.core c).run := by simp [State.paceTaken]

section
variable {s : State} {c : CoreId} {rate : Half}

theorem State.paceSample_raises (ha : (s.core c).paceAlarm = false) (hr : rate.toNat < 250) :
    s.paceSample c rate = (s.paceTaken c rate).paceChange c rate true := if_pos (by simp [ha, hr])

theorem State.paceSample_clears (ha : (s.core c).paceAlarm = true) (hg : 99 ≤ (s.core c).paceGood) (hr : 260 ≤ rate.toNat) :
    s.paceSample c rate = (s.paceTaken c rate).paceChange c rate false :=
  (if_neg (by simp [ha])).trans (if_pos (by simp [ha, hr, hg]))

theorem State.paceSample_steady (ha : (s.core c).paceAlarm = false) (hr : 250 ≤ rate.toNat) :
    s.paceSample c rate = s.paceTaken c rate :=
  (if_neg (by simp [hr])).trans (if_neg (by simp [ha]))

end

/-! ### The statement -/

/-- Settles O27: the running job's record with no pending job broken, then a sample by the branches of R144. -/
theorem promisesAndPace : Obligations.PromisesAndPace := by
  unfold Obligations.PromisesAndPace
  intro c s hc
  refine ⟨fun h hrun hpre hcnt hrx hlate hjobs => ⟨_, next_atCore hc _, ?_⟩,
    fun rate ha hr => ⟨_, next_atCore hc _, ?_⟩, fun rate ha hg hr => ⟨_, next_atCore hc _, ?_⟩,
    fun rate ha hr => ⟨_, next_atCore hc _, ?_⟩⟩
  · obtain ⟨honly, hcore⟩ := State.brokenPromises_running hrun hpre (Job.broken_eq_true.2 ⟨hcnt, hrx, hlate⟩) hjobs
    rw [hcore]
    exact ⟨honly, rfl, rfl, rfl, rfl, rfl, rfl⟩
  · rw [State.paceSample_raises ha hr]
    obtain ⟨halarm, hrate, hevt, hrun, hlog⟩ := (s.paceTaken c rate).paceChange_leaves c rate true
    exact ⟨halarm, hrate.trans (by simp), hevt, hrun.trans (by simp), hlog s (s.paceTaken_onlyCore c rate)⟩
  · rw [State.paceSample_clears ha (Nat.le_of_eq hg.symm) hr]
    obtain ⟨halarm, -, hevt, -⟩ := (s.paceTaken c rate).paceChange_leaves c rate false
    exact ⟨halarm, hevt⟩
  · rw [State.paceSample_steady ha hr]
    exact ⟨s.paceTaken_onlyCore c rate, s.paceTaken_cr c rate⟩

end Sys2Proof.Machine
end

section
/-! What the operations leave that swaps, guards and Hard Resets share: the held record, the terminations, the path of a
port, its link, and ErrorRecovery (R38, R45, R47, R73, R160, R187, R207). -/

namespace Sys2Proof.Machine

/-! ### Commands of the power path and of the registers of a port -/

theorem next_atPp {s : State} {p : PortId} (h : s.ppOn p = true) (f : State → State) :
    (.next (s.atPp p f) : Host.Outcome State Fault Refusal) = .next (f s) := congrArg _ (if_pos h)

theorem next_atReg {s : State} {p : PortId} (hr : s.regsUp = true) (hp : s.present p = true) (f : State → State) :
    (.next (s.atReg p f) : Host.Outcome State Fault Refusal) = .next (f s) := congrArg _ (if_pos (by rw [hr, hp]; rfl))

theorem State.modPort_self (s : State) (p : PortId) {f : Port → Port} (h : f (s.port p) = s.port p) : s.modPort p f = s := by
  have h' : f s.ports[p] = s.ports[p] := h
  rw [State.modPort, h', ports_set_self]

/-! ### Terminations and the held record (R38, R160) -/

/-- Rp is set to some level, and nothing else. -/
theorem State.rpSet_eq (s : State) (p : PortId) : ∃ r, s.rpSet p = s.modTc p fun t => { t with rp := r } := ⟨_, rfl⟩

theorem State.heldFalls_eq (s : State) (p : PortId) (n : Nat) :
    ∃ k, s.heldFalls p n = s.modPw p fun w => { w with ibaseKeep := k } := by
  unfold State.heldFalls
  extract_lets
  split
  · exact ⟨_, rfl⟩
  · exact ⟨(s.port p).pw.ibaseKeep, (s.modPort_self p rfl).symm⟩

theorem State.mnAgain_eq (s : State) (p : PortId) : ∃ m, s.mnAgain p = s.modMn p fun _ => m := ⟨_, rfl⟩

theorem State.pd3Off_eq (s : State) (p : PortId) :
    ∃ r, s.pd3Off p = s.modPort p fun P => { P with tc := { P.tc with rp := r }, ct := { P.ct with pd3 := false } } := by
  unfold State.pd3Off
  split
  · obtain ⟨r, hr⟩ := (s.modCt p fun c => { c with pd3 := false }).rpSet_eq p
    exact ⟨r, hr.trans (s.modPort_modPort p _ _)⟩
  · next h =>
    refine ⟨(s.port p).tc.rp, (s.modPort_self p ?_).symm⟩
    rw [← Bool.eq_false_iff.2 h]

/-- The contract registers with the held record none; the cable bits stay where the cable is not cleared with it (R160). -/
def Ct.recordNone (c : Ct) (cable : Bool) : Ct :=
  let keep : Word := if cable then 0 else c.concfg &&& 0x6000
  { c with conv := 0, convS := 0, coni := 0, coniS := 0, concfg := keep, concfgS := keep
           moving := false, movCnt := 0, convOld := 0, typOld := 0, pd3 := false }

/-- The end of the held record: beside the record, only Rp, a kept base current and a monitor commit of this us change. -/
theorem State.heldNone_eq (s : State) (p : PortId) (cable : Bool) :
    ∃ k m r, s.heldNone p cable = s.modPort p fun P => { P with
      pw := { P.pw with ibaseKeep := k }, mn := m, tc := { P.tc with rp := r }, ct := P.ct.recordNone cable } := by
  unfold State.heldNone
  obtain ⟨k, hk⟩ := s.heldFalls_eq p 0
  rw [hk]
  obtain ⟨m, hm⟩ := State.mnAgain_eq (State.modCt (s.modPw p fun w => { w with ibaseKeep := k }) p _) p
  rw [hm]
  obtain ⟨r, hr⟩ := State.pd3Off_eq (State.modMn _ p fun _ => m) p
  refine ⟨k, m, r, hr.trans ?_⟩
  simp only [State.modMn, State.modCt, State.modPw, State.modPort_modPort, Ct.recordNone]

theorem cfgType_cableBits (c : Word) : cfgType (c &&& 0x6000) = 0 := by
  have h : cfgType (c &&& 0x6000) = ((c &&& 0x6000).extractLsb' 8 3).toNat := by simp [cfgType, fld]
  rw [h, BitVec.extractLsb'_and]
  simp

theorem State.heldNone_onlyPort (s : State) (p : PortId) (cable : Bool) : onlyPort p s (s.heldNone p cable) := by
  obtain ⟨k, m, r, h⟩ := s.heldNone_eq p cable
  rw [h]
  exact (onlyPort.refl p s).modPort _

@[simp] theorem State.heldNone_ct (s : State) (p : PortId) (cable : Bool) :
    ((s.heldNone p cable).port p).ct = (s.port p).ct.recordNone cable := by
  obtain ⟨k, m, r, h⟩ := s.heldNone_eq p cable
  rw [h, State.port_modPort_same]

@[simp] theorem State.heldNone_mode (s : State) (p : PortId) (cable : Bool) :
    ((s.heldNone p cable).port p).pw.mode = (s.port p).pw.mode := by
  obtain ⟨k, m, r, h⟩ := s.heldNone_eq p cable
  rw [h, State.port_modPort_same]

theorem State.swapOff_onlyPort (s : State) (p : PortId) : onlyPort p s (s.swapOff p) := (onlyPort.refl p s).modPort _

@[simp] theorem State.swapOff_port (s : State) (p : PortId) : (s.swapOff p).port p = { s.port p with
    ct := { (s.port p).ct with swap := .none, termed := false, frsSrc := false, frsSig := false }
    pw := { (s.port p).pw with faston := false, fastHold := false } } := s.port_modPort_same p _

/-- A bit set to b reads b. -/
theorem setB_bit_self {w : Nat} (x : BitVec w) {i : Nat} (b : Bool) (h : i < w) : (setB x i b).getLsbD i = b :=
  (setB_bit x i b h i).trans (if_pos rfl)

/-! ### VB as a command reports it (R47) -/

theorem State.setVb_onlyPort (s : State) (p : PortId) (vb : Nat) : onlyPort p s (s.setVb p vb) := (onlyPort.refl p s).modPort _

theorem State.setVb_port (s : State) (p : PortId) (vb : Nat) : (s.setVb p vb).port p = { s.port p with
    pw := { (s.port p).pw with vbPin := vb }, tc := if vb < 800 then (s.port p).tc.vbBelow else (s.port p).tc } :=
  s.port_modPort_same p _

@[simp] theorem State.setVb_pw (s : State) (p : PortId) (vb : Nat) :
    ((s.setVb p vb).port p).pw = { (s.port p).pw with vbPin := vb } := by rw [State.setVb_port]

@[simp] theorem State.setVb_ct (s : State) (p : PortId) (vb : Nat) : ((s.setVb p vb).port p).ct = (s.port p).ct := by
  rw [State.setVb_port]

/-! ### The path of a port (R187, R197, R207) -/

/-- Turning both gates off leaves the registers of the Type-C layer and of the contract alone. -/
theorem State.fireGens_keeps (s : State) (p : PortId) :
    ((s.fireGens p).port p).tc = (s.port p).tc ∧ ((s.fireGens p).port p).ct = (s.port p).ct := by
  unfold State.fireGens State.gatesOff State.trimStop State.pgDown
  split
  · simp
  · simp

@[simp] theorem State.fireGens_tc (s : State) (p : PortId) : ((s.fireGens p).port p).tc = (s.port p).tc := (s.fireGens_keeps p).1
@[simp] theorem State.fireGens_ct (s : State) (p : PortId) : ((s.fireGens p).port p).ct = (s.port p).ct := (s.fireGens_keeps p).2
@[simp] theorem State.fireGens_mode (s : State) (p : PortId) : ((s.fireGens p).port p).pw.mode = .off := (s.fireGens_pathOff p).1
@[simp] theorem State.fireGens_lid (s : State) (p : PortId) : ((s.fireGens p).port p).pw.lid = (s.port p).pw.lid :=
  (s.fireGens_pathOff p).2.2

theorem onlyPortCore.dscStart {p : PortId} {s t : State} (h : onlyPortCore p s t) : onlyPortCore p s (t.dscStart p) := h.modPw _

@[simp] theorem State.dscStart_port (s : State) (p : PortId) : (s.dscStart p).port p = { s.port p with
    pw := { (s.port p).pw with dscHw := (s.port p).pw.dscHw || !((s.port p).pw.lid && (s.port p).pw.lidDsc) } } :=
  s.modPw_port_same p _

theorem onlyPortCore.cenLow {p : PortId} {s t : State} (h : onlyPortCore p s t) : onlyPortCore p s (t.cenLow p) := by
  unfold State.cenLow State.trimStop
  exact (h.modSp _).modSp _

@[simp] theorem State.cenLow_port (s : State) (p : PortId) : (s.cenLow p).port p = { s.port p with
    sp := { (s.port p).sp with cen := false, trimok := false, okRun := 0, badRun := 0 } } := by
  simp [State.cenLow, State.trimStop]

/-! ### The link of a port (R73) -/

/-- Of the ports, only p changes, and there only the link and the queues. -/
def LinkOnly (p : PortId) (s t : State) : Prop :=
  otherPorts p s t ∧ ∃ d q, t.port p = { s.port p with pd := d, qs := q }

section
variable {p : PortId} {s t u : State}

theorem otherPorts.trans (h : otherPorts p s t) (k : otherPorts p t u) : otherPorts p s u :=
  fun q hq => (k q hq).trans (h q hq)

theorem LinkOnly.trans (h : LinkOnly p s t) (k : LinkOnly p t u) : LinkOnly p s u := by
  obtain ⟨ho, d, q, hp⟩ := h
  obtain ⟨ko, d', q', kp⟩ := k
  exact ⟨ho.trans ko, d', q', by rw [kp, hp]⟩

theorem LinkOnly.of_port (h : ∀ q, t.port q = s.port q) : LinkOnly p s t := ⟨fun q _ => h q, _, _, h p⟩

theorem LinkOnly.refl (p : PortId) (s : State) : LinkOnly p s s := .of_port fun _ => rfl

theorem LinkOnly.modPd (h : LinkOnly p s t) (f : Phy → Phy) : LinkOnly p s (t.modPd p f) :=
  h.trans ⟨fun _ hq => t.modPd_port_ne f hq, _, _, t.modPd_port_same p f⟩

theorem LinkOnly.modQ (h : LinkOnly p s t) (k : Fin 8) (f : Queue → Queue) : LinkOnly p s (t.modQ p k f) :=
  h.trans ⟨fun _ hq => t.modQ_port_ne k f hq, _, _, t.modQ_port_same p k f⟩

theorem LinkOnly.modCore (h : LinkOnly p s t) (c : CoreId) (f : Core → Core) : LinkOnly p s (t.modCore c f) :=
  h.trans (.of_port fun _ => rfl)

theorem LinkOnly.takeBack (h : LinkOnly p s t) (c : PmvCause) : LinkOnly p s (t.takeBack p c) := by
  unfold State.takeBack
  split
  · exact h
  · exact h.trans (.of_port fun _ => rfl)

theorem LinkOnly.frameLost (h : LinkOnly p s t) (c : PmvCause) : LinkOnly p s (t.frameLost p c) :=
  ((h.takeBack c).modCore _ _).modPd _

theorem LinkOnly.txEnd (h : LinkOnly p s t) (k : Fin 8) (i : Nat) (st : EntSt) (rsn : Nat) (eop : Option Word) :
    LinkOnly p s (t.txEnd p k i st rsn eop) := by
  unfold State.txEnd
  split
  · exact h
  · exact ((h.modQ k _).modPd _).trans (.of_port fun _ => State.raiseCoal_port _ _ _ _ _)

theorem LinkOnly.failN (h : LinkOnly p s t) (k : Fin 8) (rsn n : Nat) : LinkOnly p s (State.failN n t p k rsn) := by
  induction n generalizing t with
  | zero => exact h
  | succ n ih => exact ih (h.txEnd _ _ _ _ _)

theorem State.phyDetach_linkOnly (s : State) (p : PortId) : LinkOnly p s (s.phyDetach p) :=
  (((((LinkOnly.refl p s).frameLost .detach).failN 1 4 _).failN 3 4 _).failN 5 4 _).modPd _

end

@[simp] theorem State.phyDetach_ct (s : State) (p : PortId) : ((s.phyDetach p).port p).ct = (s.port p).ct := by
  obtain ⟨-, d, q, h⟩ := s.phyDetach_linkOnly p
  rw [h]

@[simp] theorem State.phyDetach_pw (s : State) (p : PortId) : ((s.phyDetach p).port p).pw = (s.port p).pw := by
  obtain ⟨-, d, q, h⟩ := s.phyDetach_linkOnly p
  rw [h]

/-! ### Detach and ErrorRecovery (R45, R47) -/

/-- The path of port p is off after an operation that changes no other port and no bit of Pn_PD_CEVT. -/
def EndsOff (p : PortId) (s t : State) : Prop :=
  otherPorts p s t ∧ (t.port p).pw.mode = .off ∧ (t.port p).ct.cevt = (s.port p).ct.cevt

theorem State.detachActs_endsOff (s : State) (p : PortId) : EndsOff p s (s.detachActs p) := by
  unfold State.detachActs
  extract_lets s1 s2
  have h1 : onlyPortCore p s s1 := ((onlyPortCore.refl p s).fireGens.dscStart).modTc _
  have h2 : onlyPortCore p (s1.phyDetach p) (s2.tcEvt p 1) :=
    ((((s1.phyDetach p).swapOff_onlyPort p).trans (State.heldNone_onlyPort _ p true)).modCt _).toPortCore.tcEvt 1
  refine ⟨(h1.otherPorts.trans (s1.phyDetach_linkOnly p).1).trans h2.otherPorts, ?_, ?_⟩
  · simp [s1, s2]
  · simp [s1, s2, Ct.armOff, Ct.recordNone]

theorem State.errRec_endsOff (s : State) (p : PortId) :
    EndsOff p s (s.errRec p) ∧ ((s.errRec p).port p).tc.st = .errorRecovery := by
  unfold State.errRec
  extract_lets s1
  have h1 : EndsOff p s s1 := by
    unfold s1
    split
    · exact s.detachActs_endsOff p
    · exact ⟨(((onlyPortCore.refl p s).fireGens.dscStart).modTc _).otherPorts, by simp, by simp⟩
  obtain ⟨ho, hm, he⟩ := h1
  have h2 : onlyPortCore p s1 ((s1.modTc p fun t => t.enter .errorRecovery).tcEvt p 10) :=
    ((onlyPortCore.refl p s1).modTc _).tcEvt 10
  exact ⟨⟨ho.trans h2.otherPorts, by simpa using hm, by simpa using he⟩, by simp [Tc.enter]⟩

end Sys2Proof.Machine
end

section
/-! Guards, swaps and the swap commands: what each leaves, and the statement (R162, R168, R170, R174, R175). -/

namespace Sys2Proof.Machine

section
variable {p : PortId} {s : State}

@[simp] theorem State.rcmdSet_port (s : State) (p : PortId) (cmd : Byte) (ok : Bool) : (s.rcmdSet p cmd ok).port p =
    { s.port p with ct := { (s.port p).ct with rcmd := { cmd, cst := if ok then 1 else 2 } } } := s.modCt_port_same p _

theorem onlyPort.rcmdSet {t : State} (h : onlyPort p s t) (cmd : Byte) (ok : Bool) : onlyPort p s (t.rcmdSet p cmd ok) := h.modCt _

/-! ### Guards and time-outs (R162, R168, R170, R174, R175) -/

theorem State.movingTimeout_leaves (h : (s.port p).ct.moving = true) : onlyPortCore p s (s.movingTimeout p) ∧
    ((s.movingTimeout p).port p).ct =
      { (s.port p).ct with moving := false, movCnt := 0, cevt := setB (s.port p).ct.cevt 5 true } := by
  rw [State.movingTimeout, if_pos h]
  exact ⟨((onlyPortCore.refl p s).modCt _).cEvt 5, by simp⟩

/-- A guard that runs asks for a Hard Reset when it expires. -/
theorem State.guardExpiry_leaves (s : State) (p : PortId) : onlyPortCore p s (s.guardExpiry p true) ∧
    ((s.guardExpiry p true).port p).pd.hrPend = true ∧
    ((s.guardExpiry p true).port p).ct.cevt = setB (s.port p).ct.cevt 6 true :=
  ⟨((onlyPortCore.refl p s).modPd _).cEvt 6, by simp [State.guardExpiry], by simp [State.guardExpiry]⟩

theorem State.swapBackstop_leaves (h : (s.port p).ct.swap ≠ .none) : otherPorts p s (s.swapBackstop p) ∧
    ((s.swapBackstop p).port p).tc.st = .errorRecovery ∧ ((s.swapBackstop p).port p).pw.mode = .off ∧
    ((s.swapBackstop p).port p).ct.cevt.getLsbD 7 = true := by
  rw [State.swapBackstop, if_pos h]
  obtain ⟨⟨ho, hm, he⟩, hst⟩ := (s.cEvt p 7).errRec_endsOff p
  refine ⟨((onlyPortCore.refl p s).cEvt 7).otherPorts.trans ho, hst, hm, ?_⟩
  rw [he, State.cEvt_port]
  exact setB_bit_self _ _ (by decide)

theorem State.safe0_leaves {vb : Nat} (h : (s.port p).ct.swap ≠ .none) (hv : vb < 800) : onlyPortCore p s (s.safe0 p vb) ∧
    ((s.safe0 p vb).port p).ct = { (s.port p).ct with cevt := setB (s.port p).ct.cevt 3 true } ∧
    ((s.safe0 p vb).port p).pw = { (s.port p).pw with vbPin := vb } := by
  have he : s.safe0 p vb = (s.setVb p vb).cEvt p 3 := if_pos ⟨by simpa using h, hv⟩
  rw [he]
  exact ⟨(s.setVb_onlyPort p vb).toPortCore.cEvt 3, by simp, by simp⟩

/-! ### The swap commands (R174) -/

theorem State.prsBegin_leaves (ha : (s.port p).tc.attached = true) (hs : (s.port p).ct.swap = .none)
    (hr : (s.port p).ct.hrseq = .none) : onlyPort p s (s.prsBegin p) ∧
    ((s.prsBegin p).port p).ct = { ((s.port p).ct.recordNone false).armOff with
      swap := if (s.port p).pd.ctl.getLsbD 4 then .oldSource else .oldSink, termed := false, rcmd := { cmd := 0x50, cst := 1 } } := by
  have he : s.prsBegin p = ((s.heldNone p false).modCt p fun c => { c.armOff with
      swap := if (s.port p).pd.ctl.getLsbD 4 then .oldSource else .oldSink, termed := false }).rcmdSet p 0x50 true :=
    if_pos ⟨ha, hs, hr⟩
  rw [he]
  exact ⟨((s.heldNone_onlyPort p false).modCt _).rcmdSet _ _, by simp⟩

theorem State.prsBegin_refused (h : (s.port p).tc.attached = false ∨ (s.port p).ct.swap ≠ .none ∨ (s.port p).ct.hrseq ≠ .none) :
    s.prsBegin p = s.rcmdSet p 0x50 false := by
  refine if_neg ?_
  rintro ⟨ha, hs, hr⟩
  obtain h | h | h := h
  · simp [ha] at h
  · exact h hs
  · exact h hr

/-- A port in the other role, its terminations and PROLE changed with it (R174). -/
def Port.otherRole (P : Port) : Port :=
  let toSrc := decide (P.tc.st ≠ .attachedSrc)
  { P with
    tc := { P.tc with st := if toSrc then .attachedSrc else .attachedSnk, pres := if toSrc then .rp else .rd }
    pd := { P.pd with ctl := setB P.pd.ctl 4 (!P.pd.ctl.getLsbD 4) }
    ct := { P.ct with termed := true } }

theorem Port.otherRole_of_sink {P : Port} (h : P.tc.st = .attachedSnk) :
    P.otherRole.tc.st = .attachedSrc ∧ P.otherRole.tc.pres = .rp := by simp [Port.otherRole, h]

theorem Port.otherRole_of_source {P : Port} (h : P.tc.st = .attachedSrc) :
    P.otherRole.tc.st = .attachedSnk ∧ P.otherRole.tc.pres = .rd := by simp [Port.otherRole, h]

/-- TERM in a swap that may change roles now; Rp is set anew. -/
theorem State.term_leaves {vb : Nat} (hs : (s.port p).ct.swap ≠ .none) (hv : (s.port p).ct.swap = .oldSource → vb < 800) :
    onlyPort p s (s.term p vb) ∧
    (∃ r, ((s.term p vb).port p).tc = { (s.port p).otherRole.tc with rp := r }) ∧
    ((s.term p vb).port p).pd = (s.port p).otherRole.pd ∧
    ((s.term p vb).port p).ct = { (s.port p).ct with termed := true, rcmd := { cmd := 0x54, cst := 1 } } := by
  have he : s.term p vb = ((s.modPort p Port.otherRole).rpSet p).rcmdSet p 0x54 true := by
    refine if_neg ?_
    rintro (h | ⟨h, h'⟩)
    · exact hs h
    · exact absurd (hv h) (by omega)
  obtain ⟨r, hr⟩ := (s.modPort p Port.otherRole).rpSet_eq p
  rw [he, hr]
  exact ⟨(((onlyPort.refl p s).modPort _).modTc _).rcmdSet _ _, ⟨r, by simp⟩, by simp, by simp [Port.otherRole]⟩

theorem State.term_refused {vb : Nat} (h : (s.port p).ct.swap = .none ∨ ((s.port p).ct.swap = .oldSource ∧ 800 ≤ vb)) :
    s.term p vb = s.rcmdSet p 0x54 false := if_pos h

theorem State.swapEnd_leaves (h : (s.port p).ct.termed = true) : onlyPort p s (s.swapEnd p) ∧
    ((s.swapEnd p).port p).ct.swap = .none ∧ ((s.swapEnd p).port p).ct.frs.getLsbD 7 = false ∧
    ((s.swapEnd p).port p).pw.faston = false ∧ ((s.swapEnd p).port p).ct.rcmd = { cmd := 0x45, cst := 1 } := by
  rw [State.swapEnd, if_pos h]
  exact ⟨((s.swapOff_onlyPort p).modCt _).rcmdSet _ _, by simp [Ct.armOff],
    by rw [State.rcmdSet_port, State.modCt_port_same]; exact setB_bit_self _ _ (by decide), by simp, by simp⟩

theorem State.swapEnd_refused (h : (s.port p).ct.termed = false) : s.swapEnd p = s.rcmdSet p 0x45 false := if_neg (by simp [h])

theorem State.errrecCmd_leaves (h : (s.port p).tc.attached = true) : otherPorts p s (s.errrecCmd p) ∧
    ((s.errrecCmd p).port p).tc.st = .errorRecovery ∧ ((s.errrecCmd p).port p).pw.mode = .off ∧
    ((s.errrecCmd p).port p).ct.rcmd = { cmd := 0x52, cst := 1 } := by
  rw [State.errrecCmd, if_pos h]
  obtain ⟨⟨ho, hm, -⟩, hst⟩ := s.errRec_endsOff p
  have hc : onlyPort p (s.errRec p) ((s.errRec p).rcmdSet p 0x52 true) := (onlyPort.refl p _).rcmdSet _ _
  exact ⟨ho.trans hc.toPortCore.otherPorts, by simpa using hst, by simpa using hm, by simp⟩

theorem State.errrecCmd_refused (h : (s.port p).tc.attached = false) : s.errrecCmd p = s.rcmdSet p 0x52 false := if_neg (by simp [h])

end

/-! ### The statement -/

/-- Settles O39: each guard, time-out and swap command by what it leaves, or by its refusal. -/
theorem guardsAndSwaps : Obligations.GuardsAndSwaps := by
  unfold Obligations.GuardsAndSwaps
  intro p s P rcmdIs
  refine ⟨fun hp => ⟨fun h => ⟨_, next_atPp hp _, State.movingTimeout_leaves h⟩, fun ht hst => ⟨_, next_atPp hp _, ?_⟩,
      fun ht => (next_atPp hp _).trans ?_, fun hc hst => ⟨_, next_atPp hp _, ?_⟩, fun h => ⟨_, next_atPp hp _, ?_⟩,
      fun vb h hv => ⟨_, next_atPp hp _, State.safe0_leaves h hv⟩⟩,
    fun hr hp => ⟨fun ha hs hq => ⟨_, next_atReg hr hp _, ?_⟩, fun h => (next_atReg hr hp _).trans ?_,
      fun hs hst => ⟨_, next_atReg hr hp _, ?_⟩, fun hs hst hv => ⟨_, next_atReg hr hp _, ?_⟩,
      fun h => (next_atReg hr hp _).trans ?_, fun h => ⟨_, next_atReg hr hp _, State.swapEnd_leaves h⟩,
      fun h => (next_atReg hr hp _).trans ?_, fun h => ⟨_, next_atReg hr hp _, ?_⟩,
      fun h => (next_atReg hr hp _).trans ?_⟩⟩
  · rw [show (s.port p).ppsGuard = true by simp [Port.ppsGuard, P, ht, hst]]
    exact s.guardExpiry_leaves p
  · rw [show (s.port p).ppsGuard = false by simp [Port.ppsGuard, P, ht]]
    rfl
  · rw [show (s.port p).eprGuard = true by simp [Port.eprGuard, cfgEprMode, P, hc, hst]]
    exact s.guardExpiry_leaves p
  · obtain ⟨ho, hst, hm, he⟩ := State.swapBackstop_leaves h
    exact ⟨hst, he, hm, ho⟩
  · obtain ⟨honly, hct⟩ := State.prsBegin_leaves ha hs hq
    refine ⟨honly, congrArg (·.swap) hct, ?_, congrArg (·.conv) hct, congrArg (·.concfg) hct, congrArg (·.rcmd) hct⟩
    rw [hct]
    exact cfgType_cableBits _
  · rw [State.prsBegin_refused h]
    rfl
  · obtain ⟨honly, ⟨r, htc⟩, hpd, hct⟩ := State.term_leaves (s := s) (p := p) (vb := P.pw.vbPin)
      (fun h => absurd (hs.symm.trans h) (by decide)) (fun h => absurd (hs.symm.trans h) (by decide))
    obtain ⟨hsrc, hrp⟩ := Port.otherRole_of_sink hst
    exact ⟨honly, (congrArg (·.st) htc).trans hsrc, (congrArg (·.pres) htc).trans hrp, congrArg (·.ctl) hpd,
      congrArg (·.pol) htc, congrArg (·.termed) hct, congrArg (·.evt) htc, congrArg (·.rcmd) hct⟩
  · obtain ⟨honly, ⟨r, htc⟩, hpd, hct⟩ := State.term_leaves (s := s) (p := p) (vb := P.pw.vbPin)
      (fun h => absurd (hs.symm.trans h) (by decide)) (fun _ => hv)
    obtain ⟨hsnk, hrd⟩ := Port.otherRole_of_source hst
    exact ⟨honly, (congrArg (·.st) htc).trans hsnk, (congrArg (·.pres) htc).trans hrd, congrArg (·.ctl) hpd,
      congrArg (·.rcmd) hct⟩
  · rw [State.term_refused h]
    rfl
  · rw [State.swapEnd_refused h]
    rfl
  · obtain ⟨ho, hst, hm, hc⟩ := State.errrecCmd_leaves h
    exact ⟨hst, hm, hc, ho⟩
  · rw [State.errrecCmd_refused h]
    rfl

end Sys2Proof.Machine
end

section
/-! Fast role swap and the Hard Reset sequence: what each step leaves, and the statement (R180, R181, R206, R220). -/

namespace Sys2Proof.Machine

section
variable {p : PortId} {s : State} {vb : Nat}

/-! ### Fast role swap (R180, R206, R220) -/

theorem State.frsSignal_armed (ha : (s.port p).tc.attached = true) (hf : (s.port p).ct.frs.getLsbD 7 = true) :
    onlyPortCore p s (s.frsSignal p) ∧ ((s.frsSignal p).port p).ct = { (s.port p).ct.recordNone false with
      swap := .frSwap, termed := false, frsSig := true, cevt := setB (s.port p).ct.cevt 0 true } := by
  have he : s.frsSignal p =
      ((s.heldNone p false).modCt p fun c => { c with swap := .frSwap, termed := false, frsSig := true }).cEvt p 0 :=
    (if_neg (by simp [ha])).trans (if_pos hf)
  rw [he]
  exact ⟨((s.heldNone_onlyPort p false).modCt _).toPortCore.cEvt 0, by simp [Ct.recordNone]⟩

/-- The signal on a port that is not armed is only recorded. -/
theorem State.frsSignal_unarmed (ha : (s.port p).tc.attached = true) (hf : (s.port p).ct.frs.getLsbD 7 = false) :
    s.frsSignal p = s.cEvt p 2 :=
  (if_neg (by simp [ha])).trans (if_neg (by rw [frsArm, hf]; decide))

/-- Fast sourcing on a path that PEN and Lid let drive: both gates on, the limit loop held off, the converter preset. -/
theorem State.fastSourcing_leaves (hs : (s.port p).ct.swap = .frSwap) (hf : (s.port p).ct.frs.getLsbD 7 = true)
    (hn : (s.port p).ct.frsSrc = false) (hv : vb < 5500) (hpen : (s.port p).pw.pen = true) (hlid : (s.port p).pw.lid = false) :
    onlyPortCore p s (s.fastSourcing p vb) ∧
    (let W := ((s.fastSourcing p vb).port p).pw
     W.mode = .sourceOn ∧ W.phase = .running ∧ W.faston = true ∧ W.fastHold = true ∧ W.ga = true ∧ W.gb = true) ∧
    ((s.fastSourcing p vb).port p).sp = (s.port p).sp.preset (rpMa (frsCur (s.port p).ct.frs - 1)) ∧
    ((s.fastSourcing p vb).port p).ct.cevt = setB (s.port p).ct.cevt 1 true := by
  have hc : ((s.setVb p vb).port p).ct.swap = .frSwap ∧ frsArm ((s.setVb p vb).port p).ct.frs = true ∧
      ((s.setVb p vb).port p).ct.frsSrc = false ∧ vb < 5500 := by
    rw [State.setVb_ct]
    exact ⟨hs, hf, hn, hv⟩
  have hon : (((s.setVb p vb).port p).pw.pen && !((s.setVb p vb).port p).pw.lid) = true := by
    rw [State.setVb_pw, hlid]
    exact Bool.and_eq_true_iff.2 ⟨hpen, rfl⟩
  rw [show s.fastSourcing p vb = _ from if_pos hc]
  refine ⟨((s.setVb_onlyPort p vb).modPort _).toPortCore.cEvt 1, ?_, ?_, ?_⟩
  · simp only [State.cEvt_port, State.port_modPort_same, hon, if_true, and_self]
  · simp only [State.cEvt_port, State.port_modPort_same, State.setVb_port]
  · simp only [State.cEvt_port, State.port_modPort_same, State.setVb_ct]

/-! ### The Hard Reset sequence (R181) -/

/-- Step 3 of a source: the gates and the converter off, the discharge on, VCONN off. -/
theorem State.hrPs_source (h4 : (s.port p).ct.hrseq = .before4) (h3 : (s.port p).ct.hrStep3 = false)
    (hsrc : (s.port p).ct.hrSrc = true) : s.hrPs p =
      (((((s.modCt p fun c => { c with hrStep3 := true, hrseq := .vbWait }).fireGens p).cenLow p).dscStart p).modTc p fun t =>
        { t with vconn := false }) := by
  rw [show s.hrPs p = _ from if_pos ⟨h4, h3⟩]
  simp only [hsrc, if_true]

/-- Step 3 of a sink: VCONN off. -/
theorem State.hrPs_sink (h4 : (s.port p).ct.hrseq = .before4) (h3 : (s.port p).ct.hrStep3 = false)
    (hsrc : (s.port p).ct.hrSrc = false) : s.hrPs p =
      (s.modCt p fun c => { c with hrStep3 := true, hrseq := .vbWait }).modTc p fun t => { t with vconn := false } := by
  rw [show s.hrPs p = _ from if_pos ⟨h4, h3⟩]
  simp only [hsrc, Bool.false_eq_true, if_false]

theorem State.hrPs_leaves (h4 : (s.port p).ct.hrseq = .before4) (h3 : (s.port p).ct.hrStep3 = false) :
    onlyPortCore p s (s.hrPs p) ∧ ((s.hrPs p).port p).ct.hrseq = .vbWait ∧ ((s.hrPs p).port p).ct.hrStep3 = true ∧
    ((s.hrPs p).port p).tc = { (s.port p).tc with vconn := false } ∧
    ((s.port p).ct.hrSrc = true → ((s.hrPs p).port p).pw.mode = .off ∧
      ((s.port p).pw.lid = false → ((s.hrPs p).port p).pw.dscHw = true) ∧ ((s.hrPs p).port p).sp.cen = false) ∧
    ((s.port p).ct.hrSrc = false → ((s.hrPs p).port p).pw = (s.port p).pw) := by
  cases hsrc : (s.port p).ct.hrSrc with
  | true =>
    rw [State.hrPs_source h4 h3 hsrc]
    exact ⟨(((((onlyPortCore.refl p s).modCt _).fireGens).cenLow).dscStart).modTc _, by simp, by simp, by simp,
      fun _ => ⟨by simp, fun h => by simp [h], by simp⟩, nofun⟩
  | false =>
    rw [State.hrPs_sink h4 h3 hsrc]
    exact ⟨((onlyPortCore.refl p s).modCt _).modTc _, by simp, by simp, by simp, nofun, fun _ => by simp⟩

/-- Step 4: the roles at attach are back. -/
theorem State.hrSafe0_leaves (hw : (s.port p).ct.hrseq = .vbWait) (hv : vb < 800) :
    onlyPortCore p s (s.hrSafe0 p vb) ∧
    ((s.hrSafe0 p vb).port p).ct = { (s.port p).ct with hrseq := .goWait, cevt := setB (s.port p).ct.cevt 3 true } ∧
    ((s.hrSafe0 p vb).port p).tc.st = (if (s.port p).ct.attpr then .attachedSrc else .attachedSnk) ∧
    ((s.hrSafe0 p vb).port p).pd.ctl.getLsbD 4 = (s.port p).ct.attpr := by
  have hc : ((s.setVb p vb).port p).ct.hrseq = .vbWait ∧ vb < 800 := ⟨by rw [State.setVb_ct, hw], hv⟩
  rw [show s.hrSafe0 p vb = _ from if_pos hc]
  obtain ⟨r, hr⟩ := State.rpSet_eq (State.modPort (s.setVb p vb) p _) p
  rw [hr]
  refine ⟨(((s.setVb_onlyPort p vb).modPort _).modTc _).toPortCore.cEvt 3, by simp, by simp, ?_⟩
  simp only [State.cEvt_port, State.modTc_port_same, State.port_modPort_same, State.setVb_ct]
  rw [setB_bit _ _ _ (by decide), if_neg (by decide), setB_bit_self _ _ (by decide)]

theorem State.hrgoSource_leaves (hg : (s.port p).ct.hrseq = .goWait) (ha : (s.port p).ct.attpr = true) :
    onlyPortCore p s (s.hrgoSource p) ∧ ((s.hrgoSource p).port p).ct =
      { (s.port p).ct with hrseq := .doneWait, hrTurn := true, cevt := setB (s.port p).ct.cevt 4 true } := by
  rw [show s.hrgoSource p = _ from if_pos ⟨hg, ha⟩]
  exact ⟨((onlyPortCore.refl p s).modCt _).cEvt 4, by simp⟩

theorem State.hrTurnTimeout_leaves (h : (s.port p).ct.hrTurn = true) :
    ((s.hrTurnTimeout p).port p).tc.st = .errorRecovery ∧ otherPorts p s (s.hrTurnTimeout p) := by
  rw [State.hrTurnTimeout, if_pos h]
  obtain ⟨⟨ho, -, -⟩, hst⟩ := s.errRec_endsOff p
  exact ⟨hst, ho⟩

theorem State.hrgoSink_leaves (hg : (s.port p).ct.hrseq = .goWait) (ha : (s.port p).ct.attpr = false) (hv : 4000 ≤ vb) :
    onlyPortCore p s (s.hrgoSink p vb) ∧ ((s.hrgoSink p vb).port p).ct =
      { (s.port p).ct with hrseq := .doneWait, cevt := setB (s.port p).ct.cevt 4 true } := by
  have hc : ((s.setVb p vb).port p).ct.hrseq = .goWait ∧ ((s.setVb p vb).port p).ct.attpr = false ∧ 4000 ≤ vb := by
    rw [State.setVb_ct]
    exact ⟨hg, ha, hv⟩
  rw [show s.hrgoSink p vb = _ from if_pos hc]
  exact ⟨((s.setVb_onlyPort p vb).modCt _).toPortCore.cEvt 4, by simp⟩

/-- VB at 3.67 V or more is no detach of a sink (R45). -/
theorem State.snkVbLost_kept (s : State) (p : PortId) (hv : 3670 ≤ vb) : s.snkVbLost p vb = s.setVb p vb :=
  if_neg fun ⟨_, h, _⟩ => absurd h (by omega)

theorem State.hrSinkEnd_leaves (hg : (s.port p).ct.hrseq = .goWait) (ha : (s.port p).ct.attpr = false) (hv : 3670 ≤ vb) :
    onlyPort p s (s.hrSinkEnd p vb) ∧ ((s.hrSinkEnd p vb).port p).ct.hrseq = .none ∧
    ((s.hrSinkEnd p vb).port p).pd.hrwait = false ∧ ((s.hrSinkEnd p vb).port p).tc.st = (s.port p).tc.st := by
  have hc : ((s.setVb p vb).port p).ct.hrseq ≠ .none ∧ ((s.setVb p vb).port p).ct.hrseq ≠ .doneWait ∧
      ((s.setVb p vb).port p).ct.attpr = false := by
    rw [State.setVb_ct, hg]
    exact ⟨by decide, by decide, ha⟩
  rw [show s.hrSinkEnd p vb = _ from if_pos hc, State.snkVbLost_kept _ _ hv]
  refine ⟨(((s.setVb_onlyPort p vb).modCt _).modPd _).trans (State.setVb_onlyPort _ p vb), by simp, ?_, ?_⟩
  · simp [State.setVb_port]
  · simp [State.setVb_port, show ¬ vb < 800 by omega]

end

/-! ### The statement -/

/-- Settles O40: each step of the fast role swap and of the Hard Reset sequence by what it leaves. -/
theorem fastSwapAndHardResetSequence : Obligations.FastSwapAndHardResetSequence := by
  unfold Obligations.FastSwapAndHardResetSequence
  intro p s hp P
  refine ⟨fun ha hf => ⟨_, next_atPp hp _, ?_⟩, fun ha hf => ⟨_, next_atPp hp _, ?_⟩,
    fun vb hs hf hn hv hpen hlid => ⟨_, next_atPp hp _, ?_⟩, next_atPp hp _,
    fun h4 h3 => ⟨_, next_atPp hp _, State.hrPs_leaves h4 h3⟩, fun vb hw hv => ⟨_, next_atPp hp _, ?_⟩,
    fun hg ha => ⟨_, next_atPp hp _, State.hrgoSource_leaves hg ha⟩, fun h => ⟨_, next_atPp hp _, State.hrTurnTimeout_leaves h⟩,
    fun vb hg ha hv => ⟨_, next_atPp hp _, State.hrgoSink_leaves hg ha hv⟩,
    fun vb hg ha hv => ⟨_, next_atPp hp _, State.hrSinkEnd_leaves hg ha hv⟩⟩
  · obtain ⟨honly, hct⟩ := State.frsSignal_armed ha hf
    refine ⟨honly, congrArg (·.swap) hct, ?_, ?_⟩
    · rw [hct]
      exact cfgType_cableBits _
    · rw [hct]
      exact setB_bit_self _ _ (by decide)
  · rw [State.frsSignal_unarmed ha hf]
    exact ⟨(onlyPortCore.refl p s).cEvt 2, congrArg (·.ct) (s.cEvt_port p 2)⟩
  · obtain ⟨honly, ⟨hmode, hphase, hfast, hhold, hga, hgb⟩, hsp, hevt⟩ := State.fastSourcing_leaves hs hf hn hv hpen hlid
    refine ⟨honly, hmode, hphase, hfast, hhold, hga, hgb, congrArg (·.cen) hsp, congrArg (·.dir) hsp, congrArg (·.vset) hsp, ?_⟩
    rw [hevt]
    exact setB_bit_self _ _ (by decide)
  · obtain ⟨honly, hct, hst, hctl⟩ := State.hrSafe0_leaves hw hv
    refine ⟨honly, congrArg (·.hrseq) hct, hst, hctl, ?_⟩
    rw [hct]
    exact setB_bit_self _ _ (by decide)

end Sys2Proof.Machine
end

section
/-! Trips and the window monitors of a port: bits of masks and fields, what a trip leaves, the sieves and the levels of a tick,
and the statement (R197, R198, R230-R237). -/

namespace Sys2Proof.Machine

/-! ### Bits of masks and fields -/

/-- The number a mask is made of: its bits below n, and no others. -/
theorem testBit_foldl_mask (f : Nat → Bool) (i : Nat) : ∀ n : Nat,
    let m := (List.range n).foldl (fun acc k => if f k then acc + 2 ^ k else acc) 0
    m < 2 ^ n ∧ m.testBit i = (decide (i < n) && f i)
  | 0 => by simp
  | n + 1 => by
    obtain ⟨hlt, hbit⟩ := testBit_foldl_mask f i n
    rw [List.range_succ, List.foldl_append, List.foldl_cons, List.foldl_nil]
    generalize (List.range n).foldl _ 0 = m at hlt hbit ⊢
    have hadd : (if f n then m + 2 ^ n else m) = 2 ^ n * (f n).toNat + m := by cases f n <;> simp [Nat.add_comm]
    have htop : 2 ^ n * (f n).toNat ≤ 2 ^ n * 1 := Nat.mul_le_mul_left _ (Bool.toNat_le _)
    refine ⟨by omega, ?_⟩
    rw [hadd, Nat.testBit_two_pow_mul_add _ hlt, hbit]
    rcases Nat.lt_trichotomy i n with hi | rfl | hi
    · simp [hi, Nat.lt_succ_of_lt hi]
    · cases f i <;> simp
    · have hi' : ¬ i < n ∧ ¬ i < n + 1 := by omega
      have hone : Nat.testBit 1 (i - n) = false := Bool.eq_false_iff.2 (mt Nat.testBit_one_eq_true_iff_self_eq_zero.1 (by omega))
      cases f n <;> simp [hi', hone]

theorem maskOf_bit (f : Nat → Bool) {w n i : Nat} (hw : i < w) (hn : i < n) : (maskOf w n f).getLsbD i = f i := by
  rw [maskOf, BitVec.getLsbD_ofNat, (testBit_foldl_mask f i n).2]
  simp [hw, hn]

/-- The bits of a field as a word of its own. -/
theorem ofNat_fld_bit {w : Nat} (x : BitVec w) (lo : Nat) {n i : Nat} (h : i < n) :
    (BitVec.ofNat n (fld x lo n)).getLsbD i = x.getLsbD (lo + i) := by
  rw [fld_extract, BitVec.ofNat_toNat, BitVec.setWidth_eq, BitVec.getLsbD_extractLsb']
  simp [h]

/-- Numbers added up from Booleans at their places. -/
theorem ofNat_four_bits : ∀ a b c d : Bool,
    let x := BitVec.ofNat 4 (a.toNat + 2 * b.toNat + 4 * c.toNat + 8 * d.toNat)
    x.getLsbD 0 = a ∧ x.getLsbD 1 = b ∧ x.getLsbD 2 = c ∧ x.getLsbD 3 = d := by decide
theorem ofNat_five_bits : ∀ a b c d e : Bool,
    let x := BitVec.ofNat 5 (a.toNat + 2 * b.toNat + 4 * c.toNat + 8 * d.toNat + 16 * e.toNat)
    x.getLsbD 0 = a ∧ x.getLsbD 1 = b ∧ x.getLsbD 2 = c ∧ x.getLsbD 3 = d ∧ x.getLsbD 4 = e := by decide

/-! ### The gates as a trip sees them, and the inputs armed (R198, R230, R235) -/

/-- In a quiet us a trip sees the gates as they stand. -/
theorem Pw.gatesAt_of_quiet {w : Pw} {us : Nat} (h : QuietUs w us) : w.gatesAt us = w.gates := by
  unfold Pw.gatesAt
  split
  · next hb => exact if_neg (h.2 _ hb)
  · rfl

theorem Pw.trippedAt_of_quiet {w : Pw} {us : Nat} (h : QuietUs w us) : w.trippedAt us = false := decide_eq_false h.1

/-- OCP is armed in both gate modes. -/
theorem GateSt.armed_ocp (g : GateSt) : g.armed.getLsbD 2 = decide (g.mode ≠ .off) := (ofNat_four_bits _ _ _ _).2.2.1

/-- With the gates off no input is armed. -/
theorem GateSt.armed_off {g : GateSt} (h : g.mode = .off) : g.armed = 0#4 := by simp [GateSt.armed, GateSt.uvpArmed, h]

/-- OCP is the first cause of the sieves. -/
theorem sieveCause_ocp {x : BitVec 4} (h : x.getLsbD 2 = true) : sieveCause x = some 3 := if_pos h

/-! ### What a trip leaves (R197, R198) -/

@[simp] theorem State.fireGens_mn (s : State) (p : PortId) : ((s.fireGens p).port p).mn = (s.port p).mn := by
  unfold State.fireGens State.gatesOff State.trimStop State.pgDown
  split <;> simp

@[simp] theorem State.fireGens_trip (s : State) (p : PortId) : ((s.fireGens p).port p).pw.trip = (s.port p).pw.trip := by
  unfold State.fireGens State.gatesOff State.trimStop State.pgDown
  split <;> simp [Pw.remember]

theorem onlyPortCore.trip {p : PortId} {s t : State} (h : onlyPortCore p s t) (c : Nat) : onlyPortCore p s (t.trip p c) := by
  unfold State.trip
  extract_lets P g first s1 s2
  have h2 : onlyPortCore p s s2 := (h.modPw _).fireGens.cenLow
  exact (onlyPortCore.ite (h2.modPw _) (.ite h2 h2.dscStart)).pwEvt 0

/-- A trip leaves the monitors alone, sets Lid and the record, and takes the path off. -/
theorem State.trip_port (s : State) (p : PortId) (c : Nat) :
    ((s.trip p c).port p).mn = (s.port p).mn ∧ ((s.trip p c).port p).pw.lid = true ∧ ((s.trip p c).port p).pw.mode = .off ∧
      ((s.trip p c).port p).pw.trip =
        (s.port p).pw.tripWord ((s.port p).pw.gatesAt s.us) s.us c (s.port p).mn.alsoBits := by
  unfold State.trip
  extract_lets P g first s1 s2 s3
  have h3 : (s3.port p).mn = P.mn ∧ (s3.port p).pw.lid = true ∧ (s3.port p).pw.mode = .off ∧
      (s3.port p).pw.trip = P.pw.tripWord g s.us c P.mn.alsoBits := by
    unfold s3
    split
    · simp [s2, s1, P]
    · split
      · simp [s2, s1, P]
      · simp [s2, s1, P]
  simpa using h3

theorem onlyPortCore.tripAlso {p : PortId} {s t : State} (h : onlyPortCore p s t) : onlyPortCore p s (t.tripAlso p) :=
  .ite (h.modPw _) h

theorem State.tripAlso_mn (s : State) (p : PortId) : ((s.tripAlso p).port p).mn = (s.port p).mn := by
  unfold State.tripAlso
  extract_lets P
  split
  · simp
  · rfl

/-- With no trip in this us there is no record to add to. -/
theorem State.tripAlso_quiet {s : State} {p : PortId} (h : (s.port p).pw.trippedAt s.us = false) : s.tripAlso p = s :=
  if_neg (by simp [h])

/-- CAUSE of one cause is that cause. -/
theorem tripCauses_single {c : Nat} (h1 : 1 ≤ c) (h2 : c ≤ 12) (sieves : Nat) : (tripCauses 0 (2 ^ (c - 1)) sieves).2 = c :=
  have all : ∀ c, c < 13 → 1 ≤ c → (tripCauses 0 (2 ^ (c - 1)) 0).2 = c := by decide
  all c (Nat.lt_succ_of_le h2) h1

/-- CAUSE in the record of the first trip of a us. -/
theorem Pw.tripWord_cause {w : Pw} {us c : Nat} (g : GateSt) (sieves : Nat) (h : w.trippedAt us = false) (h1 : 1 ≤ c) (h2 : c ≤ 12) :
    (w.tripWord g us c sieves).toNat / 256 % 16 = c := by
  have hphase : g.phase.code ≤ 2 := by cases g.phase <;> decide
  have hmode : g.mode.code ≤ 2 := by cases g.mode <;> decide
  have hlim := Bool.toNat_le g.limact
  rw [Pw.tripWord, if_neg (by simp [h])]
  extract_lets x
  have hx : x.2 = c := tripCauses_single h1 h2 sieves
  rw [BitVec.toNat_ofNat]
  omega

/-! ### Comparators and levels in use (R230-R233) -/

/-- The sample of the five comparators, each against its level as the threshold DAC applies it. -/
theorem Port.sample_bits (P : Port) (l : Levels) (x : MonSample) :
    (P.sample l x).getLsbD 0 = decide (dacOvp l.ovp < x.vb) ∧ (P.sample l x).getLsbD 1 = decide (dacOvp l.ovp < x.sn) ∧
      (P.sample l x).getLsbD 2 = decide (x.vb < dacUvp l.uvp) ∧
      (P.sample l x).getLsbD 3 = decide (dacI l.ocp P.pw.rsns * 10000 < x.i.natAbs * P.pw.rsns * 4) ∧
      (P.sample l x).getLsbD 4 = decide (((dacI l.rev P.pw.rsns * 10000 : Nat) : Int) < -x.i * P.pw.rsns * 4) := by
  obtain ⟨h0, h1, h2, h3, h4⟩ := ofNat_five_bits (decide (dacOvp l.ovp < x.vb)) (decide (dacOvp l.ovp < x.sn))
    (decide (x.vb < dacUvp l.uvp)) (decide (((dacI l.ocp P.pw.rsns * 10000 : Nat) : Int) < (x.i.natAbs : Int) * P.pw.rsns * 4))
    (decide (((dacI l.rev P.pw.rsns * 10000 : Nat) : Int) < -x.i * P.pw.rsns * 4))
  exact ⟨h0, h1, h2, h3.trans (decide_eq_decide.2 (by norm_cast)), h4⟩

/-- Tracked levels outside MOVING. -/
theorem Port.levels_tracked {P : Port} (ha : P.mn.cfg.getLsbD 1 = false) (hm : P.ct.moving = false) :
    P.levels.ovp = (if P.ct.typ = 0 then 5000 else P.ct.conv.toNat) * (100 + fld P.mn.trk 0 8) / 100 ∧
      P.levels.uvp = if P.ct.typ = 2 then 3000
        else (if P.ct.typ = 0 then 5000 else P.ct.conv.toNat) * (100 - fld P.mn.trk 8 8) / 100 := by
  simp only [Port.levels, ha, Bool.false_and, Bool.false_eq_true, if_false, hm, Port.trkOvp, Port.trkUvp,
    Port.trackHi, Port.trackLo, trackV, and_self]

/-! ### The sieves (R234, R236) -/

theorem sieveHist_bit (h : Byte) (b : Bool) (j : Nat) :
    (sieveHist h b).getLsbD j = if j = 0 then b else (h <<< 1).getLsbD j := setB_bit (h <<< 1) 0 b (by decide) j

theorem sieveHist_newest (h : Byte) (b : Bool) : (sieveHist h b).getLsbD 0 = b := (sieveHist_bit h b 0).trans (if_pos rfl)

theorem sieveHist_older (h : Byte) (b : Bool) {j : Nat} (hj : j < 7) : (sieveHist h b).getLsbD (j + 1) = h.getLsbD j := by
  have hj' : j + 1 < 8 := by omega
  simp [sieveHist_bit, hj', -BitVec.getLsbD_eq_getElem]

theorem foldl_add_toNat (q : Nat → Bool) : ∀ (l : List Nat) (a : Nat), l.foldl (fun a i => a + (q i).toNat) a = a + l.countP q
  | [], _ => rfl
  | i :: l, a => by
    rw [List.foldl_cons, foldl_add_toNat q l, List.countP_cons]
    cases q i
    · rfl
    · exact Nat.add_right_comm a 1 _

theorem onesIn_eq_countP (h : Byte) (m : Nat) : onesIn h m = (List.range m).countP fun j => h.getLsbD j :=
  (foldl_add_toNat _ _ 0).trans (Nat.zero_add _)

/-- The input of a sieve: its comparator, and for OVP either of the two. -/
theorem sieveIn_eq (raw : BitVec 5) : ∀ i : Fin 4,
    sieveIn raw i = if i = 0 then raw.getLsbD 0 || raw.getLsbD 1 else raw.getLsbD (i.val + 1)
  | 0 => rfl
  | 1 => rfl
  | 2 => rfl
  | 3 => rfl

/-- The monitors after a tick with comparator results raw: histories shifted, outputs by N of M, latches joined. -/
structure Mn.Sieved (m : Mn) (r : BitVec 5) (n : Mn) : Prop where
  raw : n.raw = r
  rawl : n.rawl = m.rawl ||| r
  hist : ∀ i : Fin 4, n.hist[i] = sieveHist m.hist[i] (sieveIn r i)
  out : ∀ i : Fin 4, n.out.getLsbD i.val = decide (fld m.ctl 16 4 ≤ onesIn n.hist[i] (fld m.ctl 20 4))
  svl : n.svl = m.svl ||| n.out

/-- The count of ticks does not touch the sieves. -/
theorem Mn.Sieved.countTick {m n : Mn} {r : BitVec 5} (h : m.Sieved r n) : m.Sieved r n.countTick :=
  ⟨h.raw, h.rawl, h.hist, h.out, h.svl⟩

/-- A case of the self-test does not touch the sieves. -/
theorem Mn.Sieved.stTake {m n : Mn} {r : BitVec 5} (h : m.Sieved r n) : ∀ t, m.Sieved r (n.stTake t)
  | none => h
  | some _ => ⟨h.raw, h.rawl, h.hist, h.out, h.svl⟩

@[simp] theorem Mn.countTick_out (m : Mn) : m.countTick.out = m.out := rfl

@[simp] theorem Mn.stTake_out (m : Mn) : ∀ t, (m.stTake t).out = m.out
  | none => rfl
  | some _ => rfl

/-- An event does not touch the sieves. -/
theorem Mn.Sieved.evt {m n : Mn} {r : BitVec 5} (h : m.Sieved r n) (e : Half) : m.Sieved r { n with evt := e } :=
  ⟨h.raw, h.rawl, h.hist, h.out, h.svl⟩

/-- What the sieves hold, bit by bit. -/
theorem Mn.Sieved.bits {m n : Mn} {r : BitVec 5} (h : m.Sieved r n) (i : Fin 4) :
    (∀ j, j < 7 → (n.hist[i]).getLsbD (j + 1) = (m.hist[i]).getLsbD j) ∧
      (n.hist[i]).getLsbD 0 = (if i = 0 then n.raw.getLsbD 0 || n.raw.getLsbD 1 else n.raw.getLsbD (i.val + 1)) ∧
      n.out.getLsbD i.val = decide (fld m.ctl 16 4 ≤ (List.range (fld m.ctl 20 4)).countP fun j => (n.hist[i]).getLsbD j) := by
  refine ⟨fun j hj => ?_, ?_, ?_⟩
  · rw [h.hist i, sieveHist_older _ _ hj]
  · rw [h.hist i, sieveHist_newest, sieveIn_eq, h.raw]
  · rw [h.out i, onesIn_eq_countP]

/-! ### Events of the monitors -/

/-- Only port p and its file core differ, and the port in Pn_MN_EVT alone. -/
def MnEvents (p : PortId) (s t : State) : Prop :=
  onlyPortCore p s t ∧ ∃ e, t.port p = { s.port p with mn := { (s.port p).mn with evt := e } }

theorem MnEvents.refl (p : PortId) (s : State) : MnEvents p s s := ⟨.refl p s, _, rfl⟩

theorem MnEvents.mnEvt {p : PortId} {s t : State} (h : MnEvents p s t) (b : Nat) : MnEvents p s (t.mnEvt p b) := by
  obtain ⟨honly, e, hport⟩ := h
  exact ⟨honly.mnEvt b, setB e b true, by rw [State.mnEvt_port, hport]⟩

/-- An event under a condition. -/
theorem MnEvents.mnEvt_if {p : PortId} {s t : State} (h : MnEvents p s t) (c : Prop) [Decidable c] (b : Nat) :
    MnEvents p s (if c then t.mnEvt p b else t) := by
  split
  · exact h.mnEvt b
  · exact h

/-- The events of the sieves in a mask. -/
theorem MnEvents.foldl {p : PortId} {s : State} (x : BitVec 4) : ∀ (l : List Nat) {t : State}, MnEvents p s t →
    MnEvents p s (l.foldl (fun t i => if x.getLsbD i then t.mnEvt p i else t) t)
  | [], _, h => h
  | i :: l, _, h => MnEvents.foldl x l (h.mnEvt_if _ i)

/-! ### A comparator tick (R231) -/

/-- State u is s after the samples of a comparator tick of port p, before it trips. -/
structure State.Sampled (s : State) (p : PortId) (x : MonSample) (u : State) : Prop where
  only : onlyPortCore p { s with freeCtr := u.freeCtr } u
  pw : (u.port p).pw = { (s.port p).pw with vbPin := x.vb }
  sp : (u.port p).sp = (s.port p).sp
  mn : (s.port p).mn.Sieved ((s.port p).sample (s.port p).levels x) (u.port p).mn

theorem onlyPortCore.freeCtr {p : PortId} {s t : State} (h : onlyPortCore p s t) (n : Nat) :
    onlyPortCore p { s with freeCtr := n } { t with freeCtr := n } := by
  obtain ⟨P, C, rfl⟩ := onlyPortCore_iff.1 h
  exact onlyPortCore_iff.2 ⟨P, C, rfl⟩

theorem onlyPortCore.sameFreeCtr {p : PortId} {s t : State} (h : onlyPortCore p s t) : t.freeCtr = s.freeCtr := by rw [h]

/-- A comparator tick samples, and trips on the first armed output; with none it adds to the record of a trip of this us. The
monitors stand as they were sampled. -/
theorem State.monitorTick_cases (s : State) (p : PortId) (x : MonSample) (st : Bool) :
    let t := s.monitorTick p x st
    let hot := (t.port p).mn.out &&& ((s.port p).pw.gatesAt s.us).armed
    ∃ u, s.Sampled p x u ∧ onlyPortCore p u t ∧ (t.port p).mn = (u.port p).mn ∧
      ((∃ c, sieveCause hot = some c ∧ t = u.trip p c) ∨ (sieveCause hot = none ∧ t = u.tripAlso p)) := by
  generalize ht : s.monitorTick p x st = t
  unfold State.monitorTick at ht
  extract_lets P l raw mm nn hist out rose k newSub s1 s2 s3 s4 s5 s6 at ht
  have h1 : onlyPortCore p s s1 := (s.setVb_onlyPort p x.vb).toPortCore.modMn _
  have hport1 : (s1.port p).pw = { P.pw with vbPin := x.vb } ∧ (s1.port p).sp = P.sp ∧ (s1.port p).mn.out = out := by
    simp [s1, State.setVb_port, P]
  have hsieved : P.mn.Sieved raw (s1.port p).mn := by
    simp only [s1, State.modMn_port_same, State.setVb_port]
    refine Mn.Sieved.stTake (Mn.Sieved.countTick ?_) k
    refine ⟨rfl, rfl, fun i => ?_, fun i => ?_, rfl⟩
    · simp [hist]
    · rw [show out.getLsbD i.val = _ from maskOf_bit _ i.isLt i.isLt]
      simp [mm, nn, P]
  obtain ⟨h4, e, hport⟩ : MnEvents p s1 s4 := (((MnEvents.refl p s1).foldl _ _).mnEvt_if _ 4).mnEvt_if _ 6
  have h6 : onlyPortCore p { s with freeCtr := s6.freeCtr } s6 := ((h1.trans h4).modTc _).freeCtr (t := s5) _
  have hport6 : (s6.port p).pw = { P.pw with vbPin := x.vb } ∧ (s6.port p).sp = P.sp ∧
      (s6.port p).mn = { (s1.port p).mn with evt := e } := by
    rw [show s6.port p = s5.port p from rfl, State.modTc_port_same, hport]
    exact ⟨hport1.1, hport1.2.1, rfl⟩
  obtain ⟨hpw, hsp, hmn⟩ := hport6
  have hout : (s6.port p).mn.out = out := by rw [hmn, ← hport1.2.2]
  have hs6 : s.Sampled p x s6 := ⟨h6, hpw, hsp, hmn ▸ hsieved.evt e⟩
  refine ⟨s6, hs6, ?_⟩
  rw [← hout] at ht
  clear_value s6
  split at ht
  · next c hc =>
    obtain ⟨htmn, -⟩ := s6.trip_port p c
    subst ht
    exact ⟨(onlyPortCore.refl p s6).trip c, htmn, .inl ⟨c, htmn ▸ hc, rfl⟩⟩
  · next hc =>
    have htmn := s6.tripAlso_mn p
    subst ht
    exact ⟨(onlyPortCore.refl p s6).tripAlso, htmn, .inr ⟨htmn ▸ hc, rfl⟩⟩

/-- What every tick leaves, tripping or not. -/
theorem State.monitorTick_frame (s : State) (p : PortId) (x : MonSample) (st : Bool) :
    let t := s.monitorTick p x st
    onlyPortCore p { s with freeCtr := t.freeCtr } t ∧
      (s.port p).mn.Sieved ((s.port p).sample (s.port p).levels x) (t.port p).mn := by
  obtain ⟨u, hu, honly, hmn, -⟩ := s.monitorTick_cases p x st
  exact ⟨by rw [honly.sameFreeCtr]; exact hu.only.trans honly, hmn ▸ hu.mn⟩

theorem State.Sampled.us {s u : State} {p : PortId} {x : MonSample} (h : s.Sampled p x u) : u.us = s.us := by rw [h.only]

theorem State.Sampled.trippedAt {s u : State} {p : PortId} {x : MonSample} (h : s.Sampled p x u) :
    (u.port p).pw.trippedAt u.us = (s.port p).pw.trippedAt s.us := by rw [h.us, h.pw]; rfl

/-- In a quiet us the OCP sieve trips a port whose gates are in a mode. -/
theorem State.monitorTick_ocp {s : State} {p : PortId} {x : MonSample} {st : Bool} (hq : QuietUs (s.port p).pw s.us)
    (hocp : ((s.monitorTick p x st).port p).mn.out.getLsbD 2 = true) (hmode : (s.port p).pw.mode ≠ .off) :
    let W := ((s.monitorTick p x st).port p).pw
    W.lid = true ∧ W.mode = .off ∧ W.trip.toNat / 256 % 16 = 3 := by
  have hhot : (((s.monitorTick p x st).port p).mn.out &&& ((s.port p).pw.gatesAt s.us).armed).getLsbD 2 = true := by
    rw [BitVec.getLsbD_and, hocp, Pw.gatesAt_of_quiet hq, GateSt.armed_ocp, Bool.true_and]
    exact decide_eq_true hmode
  obtain ⟨u, hu, -, -, h⟩ := s.monitorTick_cases p x st
  rw [sieveCause_ocp hhot] at h
  obtain ⟨c, hc, ht⟩ | ⟨hc, -⟩ := h
  · obtain rfl := Option.some.inj hc
    obtain ⟨-, hlid, hoff, htrip⟩ := u.trip_port p 3
    rw [ht]
    refine ⟨hlid, hoff, ?_⟩
    rw [htrip]
    exact Pw.tripWord_cause _ _ (hu.trippedAt.trans (Pw.trippedAt_of_quiet hq)) (by decide) (by decide)
  · exact nomatch hc

/-- In a quiet us with the gates off nothing is armed: the path keeps all but the VB it saw. -/
theorem State.monitorTick_off {s : State} {p : PortId} (x : MonSample) (st : Bool) (hq : QuietUs (s.port p).pw s.us)
    (hmode : (s.port p).pw.mode = .off) :
    let P := (s.monitorTick p x st).port p
    P.pw = { (s.port p).pw with vbPin := x.vb } ∧ P.sp = (s.port p).sp := by
  obtain ⟨u, hu, -, -, h⟩ := s.monitorTick_cases p x st
  rw [Pw.gatesAt_of_quiet hq, GateSt.armed_off (g := Pw.gates _) hmode, BitVec.and_zero] at h
  obtain ⟨c, hc, -⟩ | ⟨-, ht⟩ := h
  · exact nomatch hc
  · rw [ht, State.tripAlso_quiet (hu.trippedAt.trans (Pw.trippedAt_of_quiet hq))]
    exact ⟨hu.pw, hu.sp⟩

/-! ### A monitoring period and the self-test (R236, R237) -/

theorem State.modMn_congr (s : State) (p : PortId) {f g : Mn → Mn} (h : f (s.port p).mn = g (s.port p).mn) :
    s.modMn p f = s.modMn p g := by
  have h' : f s.ports[p].mn = g s.ports[p].mn := h
  simp only [State.modMn, State.modPort, h']

/-- The raw latches that feed the sieves of a mask: OVP has two. -/
theorem rawOf_bit (sv : BitVec 4) {i : Nat} (h : i < 5) : (rawOf sv).getLsbD i = sv.getLsbD (i - 1) := by
  rw [rawOf, maskOf_bit _ h h]
  split
  · rw [show i - 1 = 0 by omega]
  · rfl

theorem State.monitorPeriod_port {s : State} {p : PortId} (hper : (s.port p).mn.per = 0) (hb : (s.port p).mn.begun = false) :
    let m := (s.port p).mn
    let clr := BitVec.ofNat 4 (fld m.cfg 8 4)
    (s.monitorPeriod p).port p = { s.port p with mn := { m with
      prev := BitVec.ofNat 16 (m.rawl.toNat * 256 + m.svl.toNat), svl := m.svl &&& ~~~clr, rawl := m.rawl &&& ~~~(rawOf clr)
      begun := true } } := by
  simp [State.monitorPeriod, hper, hb]

/-- Within a period, and once it has begun, nothing changes. -/
theorem State.monitorPeriod_runs {s : State} {p : PortId} (h : (s.port p).mn.per ≠ 0 ∨ (s.port p).mn.begun = true) :
    s.monitorPeriod p = s :=
  (show s.monitorPeriod p = s.modMn p id from s.modMn_congr p (if_pos h)).trans (s.modPort_self p rfl)

theorem State.selfTestEnd_leaves {s : State} {p : PortId} (ht : (s.port p).mn.testing = true) (h20 : (s.port p).mn.stTick = 20) :
    onlyPortCore p s (s.selfTestEnd p) ∧ (s.selfTestEnd p).port p = { s.port p with mn := { (s.port p).mn with
      testing := false, st := { (s.port p).mn.st with cst := 1 }, evt := setB (s.port p).mn.evt 5 true } } := by
  rw [State.selfTestEnd, if_pos ⟨ht, h20⟩]
  exact ⟨((onlyPortCore.refl p s).modMn _).mnEvt 5, by simp⟩

/-- A test that does not run, or has not made its 20 ticks, does not end. -/
theorem State.selfTestEnd_runs {s : State} {p : PortId} (h : (s.port p).mn.testing = false ∨ (s.port p).mn.stTick ≠ 20) :
    s.selfTestEnd p = s := if_neg fun ⟨ht, h20⟩ => h.elim (by simp [ht]) (· h20)

/-! ### The statement -/

/-- Settles O45: a comparator tick by what its samples leave and by whether it trips, then the period and the self-test. -/
theorem monitorsAndSelfTest : Obligations.MonitorsAndSelfTest := by
  unfold Obligations.MonitorsAndSelfTest
  intro p s P m
  refine ⟨fun hp => ⟨fun x st => ⟨_, next_atPp hp _, ?_⟩, fun hper hb => ⟨_, next_atPp hp _, (onlyPort.refl p s).modMn _, ?_⟩,
      fun h => (next_atPp hp _).trans (congrArg _ (State.monitorPeriod_runs h)),
      fun ht h20 => ⟨_, next_atPp hp _, State.selfTestEnd_leaves ht h20⟩,
      fun h => (next_atPp hp _).trans (congrArg _ (State.selfTestEnd_runs h))⟩,
    fun hr hpr => ⟨fun ht => (next_atReg hr hpr _).trans (congrArg _ (s.modMn_congr p (if_pos ht))),
      fun ht => (next_atReg hr hpr _).trans (congrArg _ (s.modMn_congr p (if_neg (Bool.eq_false_iff.1 ht))))⟩⟩
  · obtain ⟨honly, hmn⟩ := s.monitorTick_frame p x st
    obtain ⟨hovv, hovs, huvv, hocp, hrev⟩ := P.sample_bits P.levels x
    rw [← hmn.raw] at hovv hovs huvv hocp hrev
    refine ⟨honly, hovv, hovs, huvv, hocp, hrev, ?_, hmn.svl, hmn.bits,
      fun hq => ⟨State.monitorTick_ocp hq, State.monitorTick_off x st hq⟩, fun ha hm => ?_⟩
    · rw [hmn.raw]
      exact hmn.rawl
    · obtain ⟨hovp, huvp⟩ := Port.levels_tracked ha hm
      exact ⟨hovp, fun h => huvp.trans (if_neg h), fun h => huvp.trans (if_pos h)⟩
  · rw [State.monitorPeriod_port hper hb]
    refine ⟨rfl, rfl, fun i hi => ?_, fun i hi => ?_⟩
    · rw [BitVec.getLsbD_and, BitVec.getLsbD_not, ofNat_fld_bit _ _ hi, decide_eq_true hi, Bool.true_and]
    · rw [BitVec.getLsbD_and, BitVec.getLsbD_not, rawOf_bit _ hi, ofNat_fld_bit _ _ (by omega), decide_eq_true hi, Bool.true_and]

end Sys2Proof.Machine
end
